-- ==== Sys2Proof/Word.lean ====
section
/-! DEFINITION. Word.lean: the byte and the bit sequences the formats of chapter 11 are made of. -/

namespace Sys2Proof

/-- One byte of a frame or of a card port record (chapter 11). -/
abbrev Byte := BitVec 8

/-- The low eight bits of a number as a byte. -/
def byteOf (n : Nat) : Byte := BitVec.ofNat 8 n

/-- A two-byte number, most significant byte first (chapter 11, opening paragraph). -/
def wordBytes (n : Nat) : List Byte := [byteOf (n / 256), byteOf n]

/-- The number two bytes stand for, most significant byte first. -/
def wordOf (hi lo : Byte) : Nat := hi.toNat * 256 + lo.toNat

/-- A counter called saturating (0.11): one more, stopping at `top`. -/
def satSucc (top n : Nat) : Nat := if n < top then n + 1 else top

end Sys2Proof
end

