-- ==== Sys2Proof/Syntax.lean ====
section
/-! DEFINITION. Syntax.lean: the commands of the controller, one constructor per row of opcode_table.json, and the
operands the rules give them. An operand that travels as a byte or a word is a number here; WellFormed.lean says how
large it may be. -/

namespace Sys2Proof

/-- The station states that a frame header can announce (R188), and that QUIESCE can return to (R158). -/
inductive Announced where
  | setup | relink | service
deriving DecidableEq, Repr

/-- The two halves of a lane (0.8, R113). -/
inductive Half where
  | a | b
deriving DecidableEq, Repr

/-- The causes of a start (R149). -/
inductive StartCause where
  | powerUp | brownout | resetPin
deriving DecidableEq, Repr

/-- Which table edit, if any, is in progress when a start arrives (R14, R18; log 7). -/
inductive EditCut where
  /-- no edit is in progress -/
  | none
  /-- an edit of R14 other than the cold rewrite -/
  | table
  /-- the cold rewrite, between its first and its last step -/
  | rewrite
deriving DecidableEq, Repr

/-- The payload of CONFIGURE (R190): period, F, W, K, Gmax and pace reload. Also the configuration in the Retention
Store (R12). -/
structure Settings where
  /-- sweep period in ms -/
  period : Nat
  /-- sag floor F -/
  floor : Nat
  /-- warning threshold W -/
  warn : Nat
  /-- grant slope K -/
  slope : Nat
  /-- burst Gmax -/
  burst : Nat
  /-- pace reload in ms -/
  reload : Nat
deriving DecidableEq, Repr

/-- The payload of PROVISION (R190), as it travels: the standby indication is a byte of its own. -/
structure ProvisionFields where
  tag : Nat
  localPort : Nat
  farSlot : Nat
  farPort : Nat
  primary : Nat
  /-- 00h absent, 01h present; any other value is a RANGE case (R173) -/
  standbyInd : Nat
  standbyLane : Nat
  cls : Nat
  weight : Nat
deriving DecidableEq, Repr

/-- A good shelf line frame of R188 without its kind: the header fields and the payload bytes. -/
structure LineFrame where
  src : Nat
  dst : Nat
  epoch : Byte
  st : Announced
  payload : List Byte
deriving DecidableEq, Repr

/-- A lane half and the sample it carries in one highway frame. -/
structure HalfSample where
  lane : Nat
  half : Half
  sample : Byte
deriving DecidableEq, Repr

/-- A local port and the sample it sends or is given in one highway frame. -/
structure PortSample where
  port : Nat
  sample : Byte
deriving DecidableEq, Repr

/-- What the highway and the local ports bring in one highway frame (R113, R121; log 14). -/
structure HighwayInput where
  /-- the halves that another card drives, with the sample the highway then carries on them -/
  carried : List HalfSample
  /-- the samples the local ports transmit; a port not listed sends nothing -/
  sent : List PortSample
deriving DecidableEq, Repr

/-- The commands and events, one constructor per row of opcode_table.json. On every card port row, `filler` is the
number of bytes clocked beyond the end of the command record (R164). -/
inductive Instr where
  | nop (filler : Nat)
  | status (filler : Nat)
  | configure (filler : Nat) (c : Settings)
  | go (filler : Nat)
  | provision (filler : Nat) (f : ProvisionFields)
  | drop (filler tag : Nat)
  | rearm (filler tag : Nat)
  | query (filler tag : Nat)
  | readEntry (filler cls index : Nat)
  | readPeer (filler slot : Nat)
  | readNotices (filler : Nat)
  | readEvents (filler : Nat)
  /-- `w`: bits 11 to 0 the twelve enables, bit 15 the master enable (R190) -/
  | setEnables (filler : Nat) (w : BitVec 16)
  /-- `mode`: 00h CONTINUOUS, 01h STEP, any other value a RANGE case (R190) -/
  | setPace (filler reload mode : Nat)
  | stepPace (filler : Nat)
  | purge (filler : Nat)
  | unmute (filler : Nat)
  /-- the complete bytes clocked in by the transfer (R163, R166) -/
  | rejectedRecord (bytes : List Byte)
  | start (cause : StartCause) (cut : EditCut)
  /-- the five slot pins and the two size pins as numbers (0.7) -/
  | strapRead (slotPins sizePins : Nat)
  | warmStart
  | coldStart
  | keepAliveClear
  /-- the magnitude of the feed in millivolts when it was taken (R145; log 19) -/
  | conversionResult (millivolts : Nat)
  | sweep
  | peerSilent (slot : Nat)
  | beaconDue
  | claimResend (tag : Nat)
  | rollAbandon (slot : Nat)
  | listenIntervalEnd
  | paceExpiry
  | probeCompletion
  | echoFault
  /-- the number of positions counted since quiet before this one (R135) -/
  | linePosition (pos : Nat)
  | frameSentWhole
  | collision
  | beaconReceived (f : LineFrame)
  | rollReceived (f : LineFrame)
  | offerReceived (f : LineFrame)
  | answerReceived (f : LineFrame)
  | releaseReceived (f : LineFrame)
  /-- `kind`: the kind code of the header (R188) -/
  | otherFrameReceived (kind : Byte) (f : LineFrame)
  /-- the bytes received after bit removal, and whether a recessive run cut the frame off (R142) -/
  | badFrameReceived (raw : List Byte) (cutOff : Bool)
  | jamReceived
  | lampPeriod
  | highwayFrame (h : HighwayInput)
  | chipSelectAsserted
deriving DecidableEq, Repr

end Sys2Proof
end

