-- ==== Sys2Proof/Decode.lean ====
section
/-! DEFINITION. Decode.lean: the reading of a table word. No row of opcode_table.json has bits (the reader counts 47
rows and 0 with fixed bits or fields), so no word spells a command. The records and frames that chapter 11 lays out
are read and written in Machine/Operands.lean. -/

namespace Sys2Proof

/-- The command that a word spells by the table's bits: none, since the table gives no row any bits. -/
def decodeTableWord (_nbits _w : Nat) : Option Instr := none

end Sys2Proof
end

