-- ==== Sys2Proof/Config.lean ====
section
/-! DEFINITION. Config.lean: the values the book leaves open. Each is a constant with no body: nothing can be
proved of its value, and every claim holds whatever it is. -/

namespace Sys2Proof

/-- FREE VALUE (log 8). The idle value of a lane half: what a half that no card drives carries, and what a gate
drives when its local port sends nothing (R113, R119). The book names it and gives no number. -/
opaque Config.idleSample : Byte

/-- FREE VALUE (log 9). The warning threshold by which the two runs of the Supply Monitor count in STRAP FAULT: the
monitor goes on converting there (R150), and R148 gives a threshold for every station state but that one. -/
opaque Config.strapFaultThreshold : Nat

/-- FREE VALUE (log 29). Whether a peer's silence or cold restart defers records in a QUIESCE that SETUP was left for:
the table of R23 says so, and the first sentence of R22, with R47 and R160, says not. The book does not settle it. -/
opaque Config.setupRecordsDefer : Bool

end Sys2Proof
end

