-- ==== Sys2Proof/Machine/State.lean ====
section
/-! DEFINITION. Machine/State.lean: everything the book gives the controller, block by block as in its block overview,
as plain data, and the state after reset. Views that the rules read off this data (counts, ATTN, the lamp output, the
gates) are functions in the other files of this folder. -/

namespace Sys2Proof.Machine

/-! ### Circuit Table and Class Lists (chapter 1) -/

/-- Why a record is REFUSED (R3). -/
inductive Cause where
  | unknown | mismatch | orphan
deriving DecidableEq, Repr

/-- The relink state of a record (R21), with the fields that are present in that state only: the refusal cause and the
probe slot of R3, and the run of the echo watch of the record's gate (R121), which stands exactly while the record is
OPEN (R119). DEDUCED (log 18). -/
inductive Relink where
  | parked
  | offered
  | confirmed
  | probing (slot : Nat)
  | opened (run : Nat)
  | deferred
  | refused (cause : Cause)
  | clashed
deriving DecidableEq, Repr

/-- Which lane a record is using (0.8). -/
inductive InUse where
  | primary | standby
deriving DecidableEq, Repr

/-- The retained fields of a circuit record apart from its clash mark: those PROVISION fixes (R1). -/
structure Fixed where
  tag : Nat
  localPort : Nat
  farSlot : Nat
  farPort : Nat
  primary : Nat
  standby : Option Nat
  cls : Nat
  weight : Nat
deriving DecidableEq, Repr

/-- One circuit record: its place (handle, R4), its retained fields (R1) and its relink fields (R3). -/
structure Circuit extends Fixed where
  place : Nat
  /-- the retained clash mark, as the store holds it (R1) -/
  clashMark : Bool
  /-- the clash mark set in QUIESCE and not yet written (R15) -/
  clashPending : Bool
  state : Relink
  inUse : InUse
  sendCount : Nat
  sweepsSinceSend : Nat
  /-- the model's own mark: sweeps since send reached 6 at the last sweep and R28 has not yet handled it (log 2) -/
  resendDue : Bool
  claimDue : Bool
  rollMark : Bool
  scopeMark : Bool
deriving DecidableEq, Repr

/-! ### Retention Store (1.8) -/

/-- The retained content apart from the circuit records and their order, and the keep-alive mark (R12). -/
structure Store where
  settings : Settings
  keptSlot : Nat
  keptSize : Nat
  epoch : Byte
  checkWord : BitVec 16
  keepAlive : Bool
deriving DecidableEq, Repr

/-! ### Peer Table (chapter 3) -/

inductive Presence where
  | unheard | present | silent
deriving DecidableEq, Repr

inductive RollOut where
  | none | owed | sending
deriving DecidableEq, Repr

/-- The roll-in channel of a peer (R51, R75). -/
inductive Channel where
  | idle
  | receiving (declared received gap : Nat)
deriving DecidableEq, Repr

/-- The kinds of verdict (R51); an ACCEPT carries a lane value. -/
inductive VerdictKind where
  | accept (lane : Nat)
  | unknown
  | mismatch
  | wait
  | clash
deriving DecidableEq, Repr

structure Verdict where
  tag : Nat
  kind : VerdictKind
deriving DecidableEq, Repr

/-- The want marks of one peer record (R51, R129). -/
structure WantMarks where
  roll : Bool
  rollOffer : Bool
  singleOffer : Bool
  answer : Bool
  release : Bool
deriving DecidableEq, Repr

/-- One peer record (R51). -/
structure Peer where
  presence : Presence
  sinceHeard : Nat
  epoch : Option Byte
  st : Option Announced
  rollOut : RollOut
  channel : Channel
  verdicts : List Verdict
  releases : List Nat
  overrun : Nat
  wants : WantMarks
deriving DecidableEq, Repr

/-- No want mark set. -/
def WantMarks.clear : WantMarks := ⟨false, false, false, false, false⟩

/-- A peer record on entry to STARTING (R52). -/
def Peer.start : Peer :=
  { presence := .unheard, sinceHeard := 0, epoch := none, st := none, rollOut := .none, channel := .idle,
    verdicts := [], releases := [], overrun := 0, wants := .clear }

/-! ### Sweep Clock (3.1) -/

structure SweepClock where
  /-- milliseconds left of the interval under way; absent while the clock is stopped (R49) -/
  remaining : Option Nat
  /-- the beacon count (R61): 0 to 3, and 4 from the sweep that makes a BEACON due to the posting -/
  beaconCount : Nat
deriving DecidableEq, Repr

/-! ### Line Controller (chapter 7) -/

/-- A request of the Outbound Queue: a frame kind and, but for BEACON, a destination (R128). -/
inductive Request where
  | beacon
  | roll (peer : Nat)
  | rollOffer (peer : Nat)
  | singleOffer (peer : Nat)
  | answer (peer : Nat)
  | release (peer : Nat)
deriving DecidableEq, Repr

/-- The own frame on the line (R133), with what its effects at its end will need (log 22). -/
structure InFlight where
  req : Request
  /-- the request is still the head of the queue -/
  queued : Bool
  /-- the places of the records whose claims the frame carries and that still stand (R27) -/
  carried : List Nat
  /-- how many entries at the head of the pending list are the ones the frame carries (R84, R88) -/
  items : Nat
  /-- header, payload and CRC, in order of transmission (R188) -/
  bytes : List Byte
deriving DecidableEq, Repr

/-- What the station drives on the shelf line (R133, R138, R141). -/
inductive LineOut where
  | released
  | sending (f : InFlight)
  /-- the 16 dominant bit times of a jam, which end by themselves -/
  | jam
deriving DecidableEq, Repr

structure LineCtl where
  queue : List Request
  beaconWant : Bool
  lastSender : Nat
  escalated : Bool
  retry : Bool
  consecutive : Nat
  muted : Bool
  collisions : Nat
  errors : Nat
  /-- stale-verdict count (R86) -/
  stale : Nat
  out : LineOut
deriving DecidableEq, Repr

/-- The line state after every start and PURGE, for an own slot (7, opening table; R86). -/
def LineCtl.start (own : Nat) : LineCtl :=
  { queue := [], beaconWant := false, lastSender := own, escalated := false, retry := false, consecutive := 0,
    muted := false, collisions := 0, errors := 0, stale := 0, out := .released }

/-! ### Restore Sequencer (chapter 5) -/

inductive PaceTimer where
  | stopped
  | running (remaining : Nat)
deriving DecidableEq, Repr

inductive PaceMode where
  | continuous | step
deriving DecidableEq, Repr

structure Sequencer where
  allowance : Nat
  timer : PaceTimer
  mode : PaceMode
  heldStep : Bool
deriving DecidableEq, Repr

/-- The sequencer after every start and PURGE, before RELINK (R97, R105). -/
def Sequencer.start : Sequencer := { allowance := 0, timer := .stopped, mode := .continuous, heldStep := false }

/-! ### Highway Port (chapter 6) -/

/-- A HELD probe slot (R114). -/
structure Probe where
  slot : Nat
  /-- the handle of the record being probed -/
  place : Nat
  lane : Nat
  half : Half
  remaining : Nat
  seen : Bool
deriving DecidableEq, Repr

structure HighwayPort where
  /-- the HELD slots in start order, oldest first; a slot that is not listed is FREE (R114) -/
  probes : List Probe
  /-- what the port drove in the last highway frame (R119) -/
  driven : List HalfSample
  /-- what the port delivered to the local ports in the last highway frame (R119) -/
  delivered : List PortSample
deriving DecidableEq, Repr

/-- All slots FREE, nothing driven (R124). -/
def HighwayPort.start : HighwayPort := { probes := [], driven := [], delivered := [] }

/-! ### Supply Monitor and station controller (chapter 8) -/

structure Supply where
  sample : Nat
  warnRun : Nat
  recoverRun : Nat
deriving DecidableEq, Repr

inductive StationState where
  | starting | strapFault | setup | relink | service | quiesce
deriving DecidableEq, Repr

structure Station where
  st : StationState
  /-- return state, present while QUIESCE (R158) -/
  ret : Option Announced
  listenCount : Nat
  /-- the listen interval of the current RELINK has ended (R155) -/
  listenOver : Bool
  slot : Nat
  size : Nat
  /-- the reset cause persists: the straps are not read yet (R149) -/
  resetHeld : Bool
  /-- the first judgement of the store found it valid (R151) -/
  firstValid : Bool
deriving DecidableEq, Repr

/-! ### Card Port (chapter 9) -/

/-- The result codes of R166. -/
inductive ResultCode where
  | ok | none | badLength | unknownCmd | state | frozen | range | duplicate | portTaken | laneTaken | notFound
  | releaseBacklog
deriving DecidableEq, Repr

structure Response where
  code : Byte
  take : Byte
  result : ResultCode
  payload : List Byte
deriving DecidableEq, Repr

/-- The transfer in progress (9, opening table): OPEN with the bytes received so far and the bytes fixed at the
assertion of chip select (R163). -/
inductive Transfer where
  | idle
  | opened (received out : List Byte)
deriving DecidableEq, Repr

structure CardPort where
  response : Response
  take : Byte
  transfer : Transfer
  /-- chip select is still asserted from a transfer that takes no command (R169) -/
  discarded : Bool
  /-- the bytes shifted out in the transfer that ended last (R163); none where the port took no part in it (R169) -/
  shifted : List Byte
deriving DecidableEq, Repr

/-- The NONE response of R167. -/
def Response.noneYet : Response := { code := 0, take := 0, result := .none, payload := [] }

/-! ### Event Unit, Notice Queue and Lamp Driver (chapter 10) -/

structure EventUnit where
  /-- the twelve flags in the flag order of R190, bit 0 START -/
  flags : BitVec 12
  enables : BitVec 12
  master : Bool
deriving DecidableEq, Repr

/-- Every flag, every enable and the master enable clear (R183). -/
def EventUnit.clear : EventUnit := { flags := 0, enables := 0, master := false }

inductive NoticeKind where
  | opened
  | refused (cause : Cause)
  | clashed
  | deferred
  | removed
  | laneMoved
deriving DecidableEq, Repr

structure Notice where
  tag : Nat
  kind : NoticeKind
  cls : Nat
deriving DecidableEq, Repr

/-- The lamp modes of R186; PROGRESS carries its duty (R187). -/
inductive LampMode where
  | steady
  | fast
  | progress (duty : Nat)
  | wink
  | off
deriving DecidableEq, Repr

structure Lamp where
  mode : LampMode
  /-- milliseconds since the current lamp period began -/
  position : Nat
deriving DecidableEq, Repr

/-! ### The controller -/

structure State where
  /-- the circuit records in order of provisioning (R5; log 17) -/
  records : List Circuit
  store : Store
  /-- the 24 peer records, slot 0 first (R51) -/
  peers : List Peer
  sweep : SweepClock
  line : LineCtl
  seq : Sequencer
  hw : HighwayPort
  supply : Supply
  ctl : Station
  card : CardPort
  events : EventUnit
  notices : List Notice
  lamp : Lamp
  /-- the commands that are waiting, first in, first out -/
  pending : List Instr
deriving DecidableEq, Repr

/-- A step never ends in a fault: the book describes no behaviour that stops the controller. -/
inductive Fault where
deriving DecidableEq, Repr

/-- Why a step has no meaning. -/
inductive Refusal where
  /-- Raised by an arm of `exec` for a row that has no meaning yet. Safe: the model stops where the controller goes
  on. No arm raises it. -/
  | notModelled (mnemonic : String)
deriving DecidableEq, Repr

/-- The default configuration (R12). -/
def defaultSettings : Settings := { period := 16, floor := 168, warn := 152, slope := 4, burst := 12, reload := 20 }

/-- The machine right after reset: a first power-up has entered STARTING (R149) and its cause persists. The store has
never been written: its keep-alive mark is clear (R16), and DESIGN CHOICE (unsafe, log 5) its content reads as an empty
table, the default configuration, slot 0 of a shelf of 8, epoch 0 and check word 0, and the strap readings as slot 0
and size 8. -/
def State.reset : State :=
  { records := []
    store := { settings := defaultSettings, keptSlot := 0, keptSize := 8, epoch := 0, checkWord := 0, keepAlive := false }
    peers := List.replicate 24 Peer.start
    sweep := { remaining := none, beaconCount := 0 }
    line := LineCtl.start 0
    seq := Sequencer.start
    hw := HighwayPort.start
    supply := { sample := 0, warnRun := 0, recoverRun := 0 }
    ctl := { st := .starting, ret := none, listenCount := 0, listenOver := false, slot := 0, size := 8,
             resetHeld := true, firstValid := false }
    card := { response := .noneYet, take := 0, transfer := .idle, discarded := false, shifted := [] }
    events := .clear
    notices := []
    lamp := { mode := .fast, position := 0 }
    pending := [] }

end Sys2Proof.Machine
end

