-- ==== Sys2Proof/Machine/Flags.lean ====
section
/-! DEFINITION. Machine/Flags.lean: the Event Unit and the Notice Queue (chapter 10): raising a flag, ATTN, posting and
removing notices. -/

namespace Sys2Proof.Machine

/-- The twelve event flags (R180). -/
inductive EventFlag where
  | start | relinkDone | refusal | clash | deferral | rollCheck | sag | recover | lineError | slotConflict
  | noticeOverflow | peerRestart
deriving DecidableEq, Repr

/-- The place of a flag in the flag order of R190, bit 0 first. -/
def EventFlag.bit : EventFlag → Nat
  | .start => 0
  | .relinkDone => 1
  | .refusal => 2
  | .clash => 3
  | .deferral => 4
  | .rollCheck => 5
  | .sag => 6
  | .recover => 7
  | .lineError => 8
  | .slotConflict => 9
  | .noticeOverflow => 10
  | .peerRestart => 11

/-- The flag alone, as a mask. -/
def EventFlag.mask (f : EventFlag) : BitVec 12 := 1#12 <<< f.bit

/-- Raising a clear flag sets it; raising a set flag leaves it set (R180). -/
def EventUnit.raise (f : EventFlag) (e : EventUnit) : EventUnit := { e with flags := e.flags ||| f.mask }

/-- The flag is set. -/
def EventUnit.has (f : EventFlag) (e : EventUnit) : Bool := e.flags &&& f.mask != 0

/-- ATTN is asserted while the master enable is set and some flag is set whose enable is set (R181). -/
def EventUnit.attn (e : EventUnit) : Bool := e.master && (e.flags &&& e.enables != 0)

/-- The ATTN output (R181). -/
def State.attn (s : State) : Bool := s.events.attn

/-- Raise an event flag, in whatever station state (R180). -/
def State.raise (f : EventFlag) (s : State) : State := { s with events := s.events.raise f }

/-- Raise a flag when a condition holds: "provided at least one record changed" (R26). -/
def State.raiseIf (c : Bool) (f : EventFlag) (s : State) : State := if c then s.raise f else s

/-- The twelve enables and the master enable as SET ENABLES lays them out (R190). -/
def EventUnit.enableWord (e : EventUnit) : BitVec 16 :=
  e.enables.setWidth 16 ||| (if e.master then 0x8000#16 else 0#16)

/-- Write the thirteen enables of a SET ENABLES word, changing no flag (R176, R182). -/
def EventUnit.setEnables (w : BitVec 16) (e : EventUnit) : EventUnit :=
  { e with enables := w.setWidth 12, master := w.getLsbD 15 }

/-- The capacity of the Notice Queue (R184). -/
def noticeCapacity : Nat := 32

/-- Post a notice for a record: appended while the queue has room, else discarded with NOTICE_OVERFLOW (R184). -/
def State.post (k : NoticeKind) (r : Circuit) (s : State) : State :=
  if s.notices.length < noticeCapacity then
    { s with notices := s.notices ++ [{ tag := r.tag, kind := k, cls := r.cls }] }
  else s.raise .noticeOverflow

/-- Post a notice when a condition holds. -/
def State.postIf (c : Bool) (k : NoticeKind) (r : Circuit) (s : State) : State := if c then s.post k r else s

end Sys2Proof.Machine
end

