-- ==== Sys2Proof/Machine/Operands.lean ====
section
/-! DEFINITION. Machine/Operands.lean: the formats of chapter 11: the shelf line frame with its CRC and its inserted
bits, the frame payloads, the command records, and the bytes of the responses. -/

namespace Sys2Proof.Machine

/-! ### The CRC and the bits of the line (R126, R127) -/

/-- The bits of a byte, most significant first (R126). -/
def bitsOf (b : Byte) : List Bool := (List.range 8).map (fun i => b.getMsbD i)

/-- One bit into the CRC register, generator x^16 + x^12 + x^5 + 1 (R127). -/
def crcBit (reg : BitVec 16) (b : Bool) : BitVec 16 :=
  if reg.getLsbD 15 != b then (reg <<< 1) ^^^ 0x1021#16 else reg <<< 1

/-- The CRC of header and payload: register at all ones, most significant bit first, no inversion (R127). -/
def crc16 (bytes : List Byte) : BitVec 16 := (bytes.flatMap bitsOf).foldl crcBit 0xFFFF#16

/-- Bit insertion: after five equal bits in a row the sender inserts one of the opposite value, which counts as the
first of its own run (R126). `last` is the bit sent before and `run` how many equal bits end with it. -/
def stuffFrom (last : Bool) (run : Nat) : List Bool → List Bool
  | [] => []
  | b :: bs =>
    let n := if b = last then run + 1 else 1
    if n = 5 then b :: (!b) :: stuffFrom (!b) 1 bs else b :: stuffFrom b n bs

/-- Bit removal at a receiver: the bit after five equal bits is dropped (R126). -/
def unstuffFrom (last : Bool) (run : Nat) : List Bool → List Bool
  | [] => []
  | b :: bs =>
    if run = 5 then unstuffFrom b 1 bs
    else b :: unstuffFrom b (if b = last then run + 1 else 1) bs

/-- The bits of a frame on the line: a dominant (0) start bit, then the bytes with inserted bits (R126). -/
def lineBits (bytes : List Byte) : List Bool := false :: stuffFrom false 1 (bytes.flatMap bitsOf)

/-- The bits the station is driving on the shelf line; a jam is 16 dominant bit times (R126, R138). -/
def State.lineBits (s : State) : List Bool :=
  match s.line.out with
  | .released => []
  | .sending f => Machine.lineBits f.bytes
  | .jam => List.replicate 16 false

/-! ### The frame (R188) -/

/-- The kind codes of R188. -/
def kindBeacon : Byte := 0x01
def kindRoll : Byte := 0x02
def kindOffer : Byte := 0x03
def kindAnswer : Byte := 0x04
def kindRelease : Byte := 0x05

/-- The station-state field of a header (R188). -/
def announcedCode : Announced → Nat
  | .setup => 1
  | .relink => 2
  | .service => 3

/-- The five header bytes (R188). -/
def headerBytes (kind : Byte) (src dst : Nat) (epoch : Byte) (st : Announced) (len : Nat) : List Byte :=
  [kind, byteOf src, byteOf dst, epoch, byteOf (announcedCode st * 64 + len)]

/-- A whole frame: header, payload, and the CRC of both, high byte first (R127, R188). -/
def frameBytes (kind : Byte) (src dst : Nat) (epoch : Byte) (st : Announced) (payload : List Byte) : List Byte :=
  let body := headerBytes kind src dst epoch st payload.length ++ payload
  body ++ wordBytes (crc16 body).toNat

/-- A complete received frame is good: its payload length is at most 48, its station-state field is not 00, it ends
where that length says, and its CRC field equals the CRC computed over header and payload (R127, R142, R188). -/
def frameGood (raw : List Byte) : Bool :=
  match raw with
  | _ :: _ :: _ :: _ :: e :: rest =>
    let len := e.toNat % 64
    decide (len ≤ 48) && decide (e.toNat / 64 ≠ 0) && decide (rest.length = len + 2) &&
      (rest.drop len == wordBytes (crc16 (raw.take (5 + len))).toNat)
  | _ => false

/-! ### Payloads (R189) -/

/-- A claim (R72, R189). -/
structure Claim where
  tag : Nat
  claimerPort : Nat
  lane : Nat
  addresseePort : Nat
deriving DecidableEq, Repr

def claimBytes (c : Claim) : List Byte :=
  wordBytes c.tag ++ [byteOf (c.claimerPort * 4 + c.lane / 256), byteOf c.lane, byteOf c.addresseePort]

/-- The claims of an OFFER after its flag byte; none when the bytes do not divide into whole claims. -/
def readClaims : List Byte → Option (List Claim)
  | [] => some []
  | b0 :: b1 :: b2 :: b3 :: b4 :: rest =>
    (readClaims rest).map (fun cs =>
      { tag := wordOf b0 b1, claimerPort := b2.toNat / 4, lane := b2.toNat % 4 * 256 + b3.toNat,
        addresseePort := b4.toNat % 64 } :: cs)
  | _ => none

/-- The payload of an OFFER: the flag byte, whose bit 0 is the roll flag, and the claims (R189). -/
def offerPayload (rollFlag : Bool) (cs : List Claim) : List Byte :=
  (if rollFlag then 0x01#8 else 0x00#8) :: cs.flatMap claimBytes

/-- The roll flag and the 1 to 8 claims of an OFFER payload; none when it does not fit (R82). -/
def readOffer : List Byte → Option (Bool × List Claim)
  | [] => none
  | flag :: rest =>
    match readClaims rest with
    | none => none
    | some cs => if 1 ≤ cs.length ∧ cs.length ≤ 8 then some (flag.getLsbD 0, cs) else none

def verdictCode : VerdictKind → Byte
  | .accept _ => 0x01
  | .unknown => 0x02
  | .mismatch => 0x03
  | .wait => 0x04
  | .clash => 0x05

/-- The two last bytes of a verdict: the lane of an ACCEPT, else 0000h (R189). -/
def verdictLane : VerdictKind → Nat
  | .accept lane => lane
  | .unknown => 0
  | .mismatch => 0
  | .wait => 0
  | .clash => 0

def verdictBytes (v : Verdict) : List Byte :=
  wordBytes v.tag ++ [verdictCode v.kind] ++ wordBytes (verdictLane v.kind)

/-- The verdict kind a code and the two bytes after it stand for (R189). -/
def readVerdictKind (code : Byte) (lane : Nat) : Option VerdictKind :=
  if code = 0x01 then some (.accept lane)
  else if code = 0x02 then some .unknown
  else if code = 0x03 then some .mismatch
  else if code = 0x04 then some .wait
  else if code = 0x05 then some .clash
  else none

/-- Whole verdicts, each of a known kind (R82). -/
def readVerdicts : List Byte → Option (List Verdict)
  | [] => some []
  | b0 :: b1 :: b2 :: b3 :: b4 :: rest =>
    match readVerdictKind b2 (wordOf b3 b4), readVerdicts rest with
    | some k, some vs => some ({ tag := wordOf b0 b1, kind := k } :: vs)
    | _, _ => none
  | _ => none

def answerPayload (vs : List Verdict) : List Byte := vs.flatMap verdictBytes

/-- The 1 to 8 verdicts of an ANSWER payload; none when it does not fit (R82). -/
def readAnswer (payload : List Byte) : Option (List Verdict) :=
  match readVerdicts payload with
  | none => none
  | some vs => if 1 ≤ vs.length ∧ vs.length ≤ 8 then some vs else none

/-- Whole two-byte tags. -/
def readTags : List Byte → Option (List Nat)
  | [] => some []
  | b0 :: b1 :: rest => (readTags rest).map (fun ts => wordOf b0 b1 :: ts)
  | _ => none

def releasePayload (ts : List Nat) : List Byte := ts.flatMap wordBytes

/-- The 1 to 8 tags of a RELEASE payload; none when it does not fit (R82). -/
def readRelease (payload : List Byte) : Option (List Nat) :=
  match readTags payload with
  | none => none
  | some ts => if 1 ≤ ts.length ∧ ts.length ≤ 8 then some ts else none

/-- The count of a ROLL payload: exactly one, at most 64 (R82). -/
def readRoll : List Byte → Option Nat
  | [b0, b1] => if wordOf b0 b1 ≤ 64 then some (wordOf b0 b1) else none
  | _ => none

/-! ### Command records (R164, R190) -/

/-- A command record that passed checks 1 to 3 of R166. -/
inductive CardCommand where
  | nop
  | status
  | configure (c : Settings)
  | go
  | provision (f : ProvisionFields)
  | drop (tag : Nat)
  | rearm (tag : Nat)
  | query (tag : Nat)
  | readEntry (cls index : Nat)
  | readPeer (slot : Nat)
  | readNotices
  | readEvents
  | setEnables (w : BitVec 16)
  | setPace (reload mode : Nat)
  | stepPace
  | purge
  | unmute
deriving DecidableEq, Repr

/-- The command codes of R190. -/
def CardCommand.code : CardCommand → Byte
  | .nop => 0xFF
  | .status => 0x10
  | .configure _ => 0x11
  | .go => 0x12
  | .provision _ => 0x20
  | .drop _ => 0x21
  | .rearm _ => 0x22
  | .query _ => 0x23
  | .readEntry _ _ => 0x24
  | .readPeer _ => 0x25
  | .readNotices => 0x30
  | .readEvents => 0x31
  | .setEnables _ => 0x32
  | .setPace _ _ => 0x40
  | .stepPace => 0x41
  | .purge => 0x50
  | .unmute => 0x51

/-- The seven bytes of a configuration (R190, R191). -/
def settingsBytes (c : Settings) : List Byte :=
  [byteOf c.period, byteOf c.floor, byteOf c.warn, byteOf c.slope, byteOf c.burst] ++ wordBytes c.reload

/-- The payload of a command record (R190). -/
def CardCommand.payload : CardCommand → List Byte
  | .nop => []
  | .status => []
  | .configure c => settingsBytes c
  | .go => []
  | .provision f =>
    wordBytes f.tag ++ [byteOf f.localPort, byteOf f.farSlot, byteOf f.farPort] ++ wordBytes f.primary ++
      [byteOf f.standbyInd] ++ wordBytes f.standbyLane ++ [byteOf f.cls, byteOf f.weight]
  | .drop tag => wordBytes tag
  | .rearm tag => wordBytes tag
  | .query tag => wordBytes tag
  | .readEntry cls index => [byteOf cls, byteOf index]
  | .readPeer slot => [byteOf slot]
  | .readNotices => []
  | .readEvents => []
  | .setEnables w => wordBytes w.toNat
  | .setPace reload mode => wordBytes reload ++ [byteOf mode]
  | .stepPace => []
  | .purge => []
  | .unmute => []

/-- A command record: code byte, length byte, payload (R164). -/
def CardCommand.record (c : CardCommand) : List Byte := [c.code, byteOf c.payload.length] ++ c.payload

/-- The payload length of each of the seventeen codes; none for any other code (R190). -/
def payloadLength (code : Byte) : Option Nat :=
  if code = 0xFF then some 0
  else if code = 0x10 then some 0
  else if code = 0x11 then some 7
  else if code = 0x12 then some 0
  else if code = 0x20 then some 12
  else if code = 0x21 then some 2
  else if code = 0x22 then some 2
  else if code = 0x23 then some 2
  else if code = 0x24 then some 2
  else if code = 0x25 then some 1
  else if code = 0x30 then some 0
  else if code = 0x31 then some 0
  else if code = 0x32 then some 2
  else if code = 0x40 then some 3
  else if code = 0x41 then some 0
  else if code = 0x50 then some 0
  else if code = 0x51 then some 0
  else none

/-- The command a code and a payload of its length stand for (R190). -/
def readCommand (code : Byte) (p : List Byte) : Option CardCommand :=
  match p with
  | [] =>
    if code = 0xFF then some .nop
    else if code = 0x10 then some .status
    else if code = 0x12 then some .go
    else if code = 0x30 then some .readNotices
    else if code = 0x31 then some .readEvents
    else if code = 0x41 then some .stepPace
    else if code = 0x50 then some .purge
    else if code = 0x51 then some .unmute
    else none
  | [a] => if code = 0x25 then some (.readPeer a.toNat) else none
  | [a, b] =>
    if code = 0x21 then some (.drop (wordOf a b))
    else if code = 0x22 then some (.rearm (wordOf a b))
    else if code = 0x23 then some (.query (wordOf a b))
    else if code = 0x24 then some (.readEntry a.toNat b.toNat)
    else if code = 0x32 then some (.setEnables (BitVec.ofNat 16 (wordOf a b)))
    else none
  | [a, b, c] => if code = 0x40 then some (.setPace (wordOf a b) c.toNat) else none
  | [p, f, w, k, g, r1, r0] =>
    if code = 0x11 then
      some (.configure { period := p.toNat, floor := f.toNat, warn := w.toNat, slope := k.toNat, burst := g.toNat,
                         reload := wordOf r1 r0 })
    else none
  | [t1, t0, lp, fs, fp, p1, p0, si, s1, s0, cl, we] =>
    if code = 0x20 then
      some (.provision { tag := wordOf t1 t0, localPort := lp.toNat, farSlot := fs.toNat, farPort := fp.toNat,
                         primary := wordOf p1 p0, standbyInd := si.toNat, standbyLane := wordOf s1 s0,
                         cls := cl.toNat, weight := we.toNat })
    else none
  | _ => none

/-- The judgement of a transfer's bytes by checks 1 to 3 of R166. -/
inductive RecordJudgement where
  /-- no complete byte: no record (R163) -/
  | empty
  | rejected (code : Byte) (result : ResultCode)
  | passes (c : CardCommand)
deriving DecidableEq, Repr

/-- Checks 1 to 3 of R166, in their order. -/
def judgeRecord : List Byte → RecordJudgement
  | [] => .empty
  | [code] => .rejected code .badLength
  | code :: len :: rest =>
    match payloadLength code with
    | none => .rejected code .unknownCmd
    | some n =>
      if len.toNat = n ∧ n ≤ rest.length then
        match readCommand code (rest.take n) with
        | some c => .passes c
        | none => .rejected code .badLength
      else .rejected code .badLength

/-! ### Responses (R191) -/

def resultByte : ResultCode → Byte
  | .ok => 0x00
  | .none => 0x01
  | .badLength => 0x02
  | .unknownCmd => 0x03
  | .state => 0x04
  | .frozen => 0x05
  | .range => 0x06
  | .duplicate => 0x08
  | .portTaken => 0x09
  | .laneTaken => 0x0A
  | .notFound => 0x0B
  | .releaseBacklog => 0x0C

/-- A response record as it is shifted out (R191). -/
def Response.bytes (r : Response) : List Byte :=
  [r.code, r.take, resultByte r.result, byteOf r.payload.length] ++ r.payload

/-- What a transfer of `n` bytes shifts out of a response: filler 00h after its end, and no more than was clocked
(R163). -/
def shiftOut (out : List Byte) (n : Nat) : List Byte := (out ++ List.replicate n 0x00).take n

/-- A flag in its bit of a bit byte. DESIGN CHOICE (log 32): the bits that a layout of R191 assigns to nothing are sent 0. -/
def boolBit (b : Bool) (i : Nat) : Nat := if b then 2 ^ i else 0

def stationByte : StationState → Byte
  | .starting => 0x00
  | .strapFault => 0x01
  | .setup => 0x02
  | .relink => 0x03
  | .service => 0x04
  | .quiesce => 0x05

/-- The station state a header announces. -/
def stationOf : Announced → StationState
  | .setup => .setup
  | .relink => .relink
  | .service => .service

/-- The station states that are announced, and that a sag warning leaves (R158, R188). -/
def announcedOf : StationState → Option Announced
  | .starting => none
  | .strapFault => none
  | .setup => some .setup
  | .relink => some .relink
  | .service => some .service
  | .quiesce => none

def relinkByte : Relink → Byte
  | .parked => 0x00
  | .offered => 0x01
  | .confirmed => 0x02
  | .probing _ => 0x03
  | .opened _ => 0x04
  | .deferred => 0x05
  | .refused _ => 0x06
  | .clashed => 0x07

def causeByte : Cause → Byte
  | .unknown => 0x01
  | .mismatch => 0x02
  | .orphan => 0x03

/-- The refusal cause item of a record: 00h absent. -/
def refusalByte : Relink → Byte
  | .refused c => causeByte c
  | .parked => 0x00
  | .offered => 0x00
  | .confirmed => 0x00
  | .probing _ => 0x00
  | .opened _ => 0x00
  | .deferred => 0x00
  | .clashed => 0x00

/-- The probe slot item of a record: FFh absent. -/
def probeSlotByte : Relink → Byte
  | .probing k => byteOf k
  | .parked => 0xFF
  | .offered => 0xFF
  | .confirmed => 0xFF
  | .opened _ => 0xFF
  | .deferred => 0xFF
  | .refused _ => 0xFF
  | .clashed => 0xFF

def inUseByte : InUse → Byte
  | .primary => 0x00
  | .standby => 0x01

/-- The 20 bytes of a record (R174, R191). A clash mark held pending reads as set, with the pending bit (R174). The
unassigned bits of the clash byte and of the mark byte are 0 (log 32). -/
def recordBytes (r : Circuit) : List Byte :=
  wordBytes r.tag ++ [byteOf r.localPort, byteOf r.farSlot, byteOf r.farPort] ++ wordBytes r.primary ++
    [if r.standby.isSome then 0x01 else 0x00] ++ wordBytes (r.standby.getD 0) ++
    [byteOf r.cls, byteOf r.weight,
      byteOf (boolBit (r.clashMark || r.clashPending) 0 + boolBit r.clashPending 1),
      relinkByte r.state, inUseByte r.inUse, byteOf r.sendCount, byteOf r.sweepsSinceSend,
      byteOf (boolBit r.claimDue 0 + boolBit r.rollMark 1 + boolBit r.scopeMark 2),
      refusalByte r.state, probeSlotByte r.state]

def presenceByte : Presence → Byte
  | .unheard => 0x00
  | .present => 0x01
  | .silent => 0x02

def rollOutByte : RollOut → Byte
  | .none => 0x00
  | .owed => 0x01
  | .sending => 0x02

/-- Channel, declared, received and gap count of a peer (R191). DESIGN CHOICE (log 31): an IDLE channel, which tracks
nothing, reads 0 in its count bytes; the book gives them no value. -/
def channelBytes : Channel → List Byte
  | .idle => [0x00] ++ wordBytes 0 ++ wordBytes 0 ++ [0x00]
  | .receiving d r g => [0x01] ++ wordBytes d ++ wordBytes r ++ [byteOf g]

/-- The want marks of a peer record as R191 numbers them; bits 7 to 5 are 0 (log 32). -/
def WantMarks.number (w : WantMarks) : Nat :=
  boolBit w.roll 0 + boolBit w.rollOffer 1 + boolBit w.singleOffer 2 + boolBit w.answer 3 + boolBit w.release 4

/-- The 16 bytes of a peer record (R175, R191). -/
def peerBytes (slot : Nat) (p : Peer) : List Byte :=
  [byteOf slot, presenceByte p.presence, byteOf p.sinceHeard, p.epoch.getD 0x00,
    match p.st with
    | some a => stationByte (stationOf a)
    | none => 0xFF,
    rollOutByte p.rollOut] ++ channelBytes p.channel ++
    [byteOf p.verdicts.length, byteOf p.releases.length, byteOf p.overrun, byteOf p.wants.number]

def noticeKindByte : NoticeKind → Byte
  | .opened => 0x01
  | .refused _ => 0x02
  | .clashed => 0x03
  | .deferred => 0x04
  | .removed => 0x05
  | .laneMoved => 0x06

/-- The cause item of a notice: 00h absent (R184, R191). -/
def noticeCauseByte : NoticeKind → Byte
  | .refused c => causeByte c
  | .opened => 0x00
  | .clashed => 0x00
  | .deferred => 0x00
  | .removed => 0x00
  | .laneMoved => 0x00

def noticeBytes (n : Notice) : List Byte :=
  wordBytes n.tag ++ [noticeKindByte n.kind, noticeCauseByte n.kind, byteOf n.cls]

end Sys2Proof.Machine
end

