-- ==== Sys2Proof/Machine/Ops.lean ====
section
/-! DEFINITION. Machine/Ops.lean: the named operations on each block that every meaning is made of: table lookups, the
Retention Store's check word and judgement, peer records, the Outbound Queue, the lamp, and the station state. -/

namespace Sys2Proof.Machine

/-! ### Relink states by what the rules ask of them -/

/-- The record holds its class in the restore order (R90). -/
def Relink.holds : Relink → Bool
  | .parked => true
  | .offered => true
  | .confirmed => true
  | .probing _ => false
  | .opened _ => false
  | .deferred => false
  | .refused _ => false
  | .clashed => false

/-- The record is set aside: DEFERRED, REFUSED or CLASHED (R94). -/
def Relink.aside : Relink → Bool
  | .parked => false
  | .offered => false
  | .confirmed => false
  | .probing _ => false
  | .opened _ => false
  | .deferred => true
  | .refused _ => true
  | .clashed => true

def Relink.isProbing (x : Relink) : Bool := relinkByte x == 0x03
def Relink.isOpen (x : Relink) : Bool := relinkByte x == 0x04
def Relink.isRefused (x : Relink) : Bool := relinkByte x == 0x06

/-! ### Circuit Table and Class Lists (R4, R5) -/

/-- Lookup by tag (R4). -/
def State.findTag (t : Nat) (s : State) : Option Circuit := s.records.find? (fun r => r.tag == t)

/-- Lookup by tag and far slot: found only when the record with the tag faces that slot (R4). -/
def State.findTowards (t p : Nat) (s : State) : Option Circuit :=
  match s.findTag t with
  | some r => if r.farSlot = p then some r else none
  | none => none

/-- The record in a place (R4). -/
def State.findPlace (h : Nat) (s : State) : Option Circuit := s.records.find? (fun r => r.place == h)

/-- Class list c, head first: the records of class c in order of provisioning (R5; log 17). -/
def State.classList (c : Nat) (s : State) : List Circuit := s.records.filter (fun r => r.cls == c)

/-- Class order: list 0, then 1, then 2, then 3 (R5). -/
def State.classOrder (s : State) : List Circuit :=
  s.classList 0 ++ s.classList 1 ++ s.classList 2 ++ s.classList 3

/-- The records towards slot p, in class order (R4). -/
def State.towards (p : Nat) (s : State) : List Circuit := s.classOrder.filter (fun r => r.farSlot == p)

/-- The lowest-numbered free place (R4). -/
def State.freePlace (s : State) : Option Nat :=
  (List.range 64).find? (fun h => s.records.all (fun r => r.place != h))

/-- The number of records in the relink state of a code (R3, R20). -/
def State.countOf (code : Byte) (s : State) : Nat := s.records.countP (fun r => relinkByte r.state == code)

/-- Change the record in a place. -/
def State.mapRec (h : Nat) (f : Circuit → Circuit) (s : State) : State :=
  { s with records := s.records.map (fun r => if r.place = h then f r else r) }

/-- Change every record towards a slot. -/
def State.mapTowards (p : Nat) (f : Circuit → Circuit) (s : State) : State :=
  { s with records := s.records.map (fun r => if r.farSlot = p then f r else r) }

/-- Do one thing after another for a list of places or slots. -/
def State.each {α : Type} (xs : List α) (f : α → State → State) (s : State) : State :=
  xs.foldl (fun s x => f x s) s

/-- The lane value of the record's in-use lane (0.8). -/
def Circuit.lane (r : Circuit) : Nat :=
  match r.inUse with
  | .primary => r.primary
  | .standby => r.standby.getD r.primary

/-- The record holds this lane value, as primary or as standby. -/
def Circuit.holdsLane (lane : Nat) (r : Circuit) : Bool := r.primary == lane || r.standby == some lane

/-- Whether the own end is the low end is fixed by the two slots (R1); the low end talks on half A (R113). -/
def talkHalf (own : Nat) (r : Circuit) : Half := if own < r.farSlot then .a else .b

def listenHalf (own : Nat) (r : Circuit) : Half := if own < r.farSlot then .b else .a

/-- The gates of the Highway Port: the OPEN records (R119). -/
def State.gates (s : State) : List Circuit := s.classOrder.filter (fun r => r.state.isOpen)

/-! ### Retention Store (R12 to R18) -/

/-- The words of one record in the model's arrangement (log 6). -/
def circuitWords (r : Circuit) : List (BitVec 16) :=
  [r.place, r.tag, r.localPort, r.farSlot, r.farPort, r.primary, r.standby.getD 65535, r.cls, r.weight,
    if r.clashMark then 1 else 0].map (BitVec.ofNat 16)

/-- The retained content apart from the check word, as 16-bit words. DESIGN CHOICE: the arrangement is internal and seen
by no one (R13; log 6). -/
def State.retainedWords (s : State) : List (BitVec 16) :=
  s.records.flatMap circuitWords ++
    [s.store.settings.period, s.store.settings.floor, s.store.settings.warn, s.store.settings.slope,
      s.store.settings.burst, s.store.settings.reload, s.store.keptSlot, s.store.keptSize,
      s.store.epoch.toNat].map (BitVec.ofNat 16)

/-- The sum of the retained content modulo 65536 (R13). -/
def State.contentSum (s : State) : BitVec 16 := s.retainedWords.foldl (· + ·) 0

/-- Close a table edit: write the check word that makes the sum zero over the new content (R13). -/
def State.closeEdit (s : State) : State := { s with store := { s.store with checkWord := -s.contentSum } }

/-- An edit cut short: the check word still holds a value that makes the sum non-zero (R13, R14). -/
def State.cutEdit (s : State) : State := { s with store := { s.store with checkWord := 1 - s.contentSum } }

/-- The retained content together with the check word sums to zero (R13). -/
def State.sumZero (s : State) : Bool := s.contentSum + s.store.checkWord == 0

/-- The configuration values are within their ranges and F ≥ W + 8 (R12, R17). -/
def settingsValid (c : Settings) : Bool :=
  (c.period == 8 || c.period == 16 || c.period == 32 || c.period == 64) && decide (c.floor ≤ 255) &&
    decide (c.warn ≤ 255) && decide (1 ≤ c.slope ∧ c.slope ≤ 15) && decide (4 ≤ c.burst ∧ c.burst ≤ 63) &&
    decide (1 ≤ c.reload ∧ c.reload ≤ 1023) && decide (c.warn + 8 ≤ c.floor)

/-- The judgement of the Retention Store by its four conditions (R17). -/
def State.storeValid (s : State) : Bool :=
  s.store.keepAlive && s.sumZero && settingsValid s.store.settings &&
    (s.store.keptSlot == s.ctl.slot && s.store.keptSize == s.ctl.size)

/-- The configuration that counts while the station is in STARTING: the retained one when the first judgement found the
store valid, the defaults otherwise (R151, R170; log 11). Elsewhere the retained configuration is in force (R111). -/
def State.settingsInForce (s : State) : Settings :=
  if s.ctl.st = .starting ∧ s.ctl.firstValid = false then defaultSettings else s.store.settings

/-! ### Peer Table (chapter 3) -/

def State.peer (p : Nat) (s : State) : Peer := s.peers.getD p Peer.start

def State.setPeer (p : Nat) (x : Peer) (s : State) : State := { s with peers := s.peers.set p x }

def State.updPeer (p : Nat) (f : Peer → Peer) (s : State) : State := s.setPeer p (f (s.peer p))

/-- A slot is addressable when it is below the shelf size and is not the own slot (R51). -/
def State.addressable (p : Nat) (s : State) : Bool := decide (p < s.ctl.size) && p != s.ctl.slot

/-- The peer is PRESENT and not in SETUP (R51). -/
def Peer.up (x : Peer) : Bool :=
  x.presence == .present && (x.st == some .relink || x.st == some .service)

/-- The addressable slots from the one after the own slot up, then from 0 (R67, R130). -/
def State.slotOrder (s : State) : List Nat :=
  (List.range (s.ctl.size - 1)).map (fun i => (s.ctl.slot + 1 + i) % s.ctl.size)

/-- Make the roll-out state of every addressable peer OWED (R52). -/
def State.oweAll (s : State) : State :=
  { s with peers := s.peers.mapIdx (fun p x => if s.addressable p then { x with rollOut := .owed } else x) }

/-! ### Outbound Queue (R128 to R131) -/

/-- The capacity of the Outbound Queue (R128). -/
def queueCapacity : Nat := 24

/-- Escalation as judged after a change of the queue's length (R131). -/
def escalation (was : Bool) (len : Nat) : Bool :=
  if 16 ≤ len then true else if len ≤ 6 then false else was

/-- Replace the queue, judging escalation (R131). -/
def State.setQueue (q : List Request) (s : State) : State :=
  { s with line := { s.line with queue := q, escalated := escalation s.line.escalated q.length } }

/-- Set or clear the want mark a request stands for (R129). -/
def State.setWant (req : Request) (b : Bool) (s : State) : State :=
  match req with
  | .beacon => { s with line := { s.line with beaconWant := b } }
  | .roll p => s.updPeer p (fun x => { x with wants := { x.wants with roll := b } })
  | .rollOffer p => s.updPeer p (fun x => { x with wants := { x.wants with rollOffer := b } })
  | .singleOffer p => s.updPeer p (fun x => { x with wants := { x.wants with singleOffer := b } })
  | .answer p => s.updPeer p (fun x => { x with wants := { x.wants with answer := b } })
  | .release p => s.updPeer p (fun x => { x with wants := { x.wants with release := b } })

/-- The want mark of a request is set. -/
def State.wanted (req : Request) (s : State) : Bool :=
  match req with
  | .beacon => s.line.beaconWant
  | .roll p => (s.peer p).wants.roll
  | .rollOffer p => (s.peer p).wants.rollOffer
  | .singleOffer p => (s.peer p).wants.singleOffer
  | .answer p => (s.peer p).wants.answer
  | .release p => (s.peer p).wants.release

/-- Post a request: absorbed by an equal one, appended while the queue has room, else turned into a want mark
(R128, R129). -/
def State.request (req : Request) (s : State) : State :=
  if s.line.queue.contains req then s
  else if s.line.queue.length < queueCapacity then s.setQueue (s.line.queue ++ [req])
  else s.setWant req true

/-- Post a BEACON at a change of station state, with the beacon count set to 0 (R62). -/
def State.announce (s : State) : State :=
  State.request .beacon { s with sweep := { s.sweep with beaconCount := 0 } }

/-- The destination of a request; none for a BEACON. -/
def Request.peer : Request → Option Nat
  | .beacon => none
  | .roll p => some p
  | .rollOffer p => some p
  | .singleOffer p => some p
  | .answer p => some p
  | .release p => some p

/-- The own frame on the line, when the station is sending. -/
def LineCtl.flying (l : LineCtl) : Option InFlight :=
  match l.out with
  | .sending f => some f
  | .released => none
  | .jam => none

/-- Change what the model remembers of the own frame on the line. -/
def State.mapFlying (f : InFlight → InFlight) (s : State) : State :=
  match s.line.out with
  | .sending x => { s with line := { s.line with out := .sending (f x) } }
  | .released => s
  | .jam => s

/-- Remove every request for a slot (R55). -/
def State.dropRequests (p : Nat) (s : State) : State :=
  (s.setQueue (s.line.queue.filter (fun q => q.peer != some p))).mapFlying
    (fun f => if f.req.peer = some p then { f with queued := false } else f)

/-- Empty both pending lists of a peer (R55, R57); a frame on the line has then nothing left to take off them. -/
def State.emptyLists (p : Nat) (s : State) : State :=
  (s.updPeer p (fun x => { x with verdicts := [], releases := [] })).mapFlying
    (fun f => if f.req.peer = some p then { f with items := 0 } else f)

/-- Raise the line error count, stopping at 255, and LINE_ERROR (R142, R144). -/
def State.lineError (s : State) : State :=
  State.raise .lineError { s with line := { s.line with errors := satSucc 255 s.line.errors } }

/-! ### Front lamp (R186, R187) -/

/-- The duty: 1 + floor(15 n / N), and 16 for an empty table (R187). -/
def State.lampDuty (s : State) : Nat :=
  if s.records.length = 0 then 16 else 1 + 15 * s.countOf 0x04 / s.records.length

/-- The highest mode of the table of R186 whose condition holds. -/
def State.lampTarget (s : State) : LampMode :=
  if s.ctl.st = .strapFault ∨ s.line.muted = true then .steady
  else if s.ctl.st = .starting ∨ s.ctl.st = .quiesce then .fast
  else if s.ctl.st = .relink then .progress s.lampDuty
  else if s.ctl.st = .service ∧ 0 < s.countOf 0x06 + s.countOf 0x07 then .wink
  else .off

/-- Two modes are the same mode; the duty is no part of the mode. -/
def LampMode.same : LampMode → LampMode → Bool
  | .progress _, .progress _ => true
  | a, b => a == b

/-- Judge the lamp mode at a change of its inputs: a change of mode begins its first period (R186). -/
def State.judgeLamp (s : State) : State :=
  if s.lamp.mode.same s.lampTarget then s
  else { s with lamp := { mode := s.lampTarget, position := 0 } }

/-- A new period of the mode under way; in PROGRESS the duty is judged (R187). STEADY and OFF have no periods. -/
def State.newLampPeriod (s : State) : State :=
  match s.lamp.mode with
  | .steady => s
  | .off => s
  | .fast => { s with lamp := { mode := .fast, position := 0 } }
  | .wink => { s with lamp := { mode := .wink, position := 0 } }
  | .progress _ => { s with lamp := { mode := .progress s.lampDuty, position := 0 } }

/-- The period of a mode in milliseconds; none for a mode without periods (R186). -/
def LampMode.period : LampMode → Option Nat
  | .steady => none
  | .off => none
  | .fast => some 250
  | .progress _ => some 1024
  | .wink => some 1024

/-- The lamp output (R186). -/
def State.lampLit (s : State) : Bool :=
  match s.lamp.mode with
  | .steady => true
  | .off => false
  | .fast => decide (s.lamp.position < 125)
  | .progress d => decide (s.lamp.position < d * 64)
  | .wink => decide (s.lamp.position < 64)

/-! ### Station state -/

/-- Enter a station state; the lamp follows (R186). -/
def State.setStation (x : StationState) (s : State) : State :=
  State.judgeLamp { s with ctl := { s.ctl with st := x } }

/-- The station is in RELINK or SERVICE. -/
def State.running (s : State) : Bool := s.ctl.st == .relink || s.ctl.st == .service

/-- The station is in RELINK, SERVICE or QUIESCE. -/
def State.holding (s : State) : Bool := s.running || s.ctl.st == .quiesce

/-- The station state is one in which a peer's silence or cold restart acts on records: RELINK, SERVICE and QUIESCE (R23).
In a QUIESCE whose return state is SETUP, R22 and R23 disagree, and a free value decides (log 29). -/
def State.minding (s : State) : Bool :=
  s.running || (s.ctl.st == .quiesce && (s.ctl.ret != some .setup || Config.setupRecordsDefer))

/-- The sweep clock runs in SETUP, RELINK, SERVICE and QUIESCE (R49). -/
def State.awake (s : State) : Bool := s.holding || s.ctl.st == .setup

/-- The end condition of RELINK (R156). -/
def State.relinkDone (s : State) : Bool :=
  s.ctl.st == .relink && s.ctl.listenOver &&
    s.peers.all (fun x => !(x.up && x.rollOut != .none)) &&
    s.records.all (fun r => !(r.state.holds || r.state.isProbing))

/-- Judge the end condition: when it holds the station enters SERVICE, RELINK_DONE is raised and a BEACON is posted
(R156, R62). -/
def State.judgeEnd (s : State) : State :=
  if s.relinkDone then (State.raise .relinkDone (s.setStation .service)).announce else s

end Sys2Proof.Machine
end

