-- ==== Sys2Proof/Machine/Restore.lean ====
section
/-! DEFINITION. Machine/Restore.lean: the Restore Sequencer and the change of a record's relink state: the allowance, the
class barrier and the candidate, the attempt (chapter 5), the probe slots (6.2), and entering, leaving and removing
(2.2, R9). -/

namespace Sys2Proof.Machine

/-! ### Allowance and grant (5.3, 5.4) -/

/-- The cap of the allowance, 2 × Gmax (R97). -/
def State.cap (s : State) : Nat := 2 * s.store.settings.burst

/-- Add to the allowance, capped (R99, R104). -/
def State.credit (n : Nat) (s : State) : State :=
  { s with seq := { s.seq with allowance := min s.cap (s.seq.allowance + n) } }

/-- The headroom of a configuration: S − F when S is above F, else 0 (R102). -/
def headroomOf (c : Settings) (sample : Nat) : Nat := if c.floor < sample then sample - c.floor else 0

/-- The headroom H (R102). -/
def State.headroom (s : State) : Nat := headroomOf s.settingsInForce s.supply.sample

/-- Held for supply: H is 0 (R102). -/
def State.heldForSupply (s : State) : Bool := s.headroom == 0

/-- The grant G: the smaller of Gmax and floor(H × K / 8) (R103). -/
def State.grant (s : State) : Nat :=
  min s.store.settings.burst (headroomOf s.store.settings s.supply.sample * s.store.settings.slope / 8)

/-- Start a count from the reload in force (R105). -/
def State.startCount (s : State) : State :=
  { s with seq := { s.seq with timer := .running s.store.settings.reload } }

def State.stopTimer (s : State) : State := { s with seq := { s.seq with timer := .stopped } }

def PaceTimer.isRunning : PaceTimer → Bool
  | .stopped => false
  | .running _ => true

/-! ### Class barrier and candidate (5.1) -/

/-- The class barrier: the lowest class whose list holds a PARKED, OFFERED or CONFIRMED record (R90). -/
def State.barrier (s : State) : Option Nat :=
  [0, 1, 2, 3].find? (fun c => (s.classList c).any (fun r => r.state.holds))

/-- The candidate: the first CONFIRMED record of the barrier class (R91). -/
def State.candidate (s : State) : Option Circuit :=
  match s.barrier with
  | none => none
  | some c => (s.classList c).find? (fun r => r.state == .confirmed)

/-! ### Probe slots (6.2) -/

/-- The lowest-numbered FREE probe slot (R115). -/
def State.freeSlot (s : State) : Option Nat :=
  [0, 1, 2, 3].find? (fun k => s.hw.probes.all (fun p => p.slot != k))

/-- Free the probe slot that a record holds (R117). -/
def State.freeProbe (h : Nat) (s : State) : State :=
  { s with hw := { s.hw with probes := s.hw.probes.filter (fun p => p.place != h) } }

/-! ### Entering a relink state (R24) -/

/-- The relink fields on entry to a state (R24). `due` is claim-due on entry to PARKED and OFFERED, `sends` the send
count on entry to OFFERED. -/
def Circuit.enter (new : Relink) (due : Bool) (sends : Nat) (r : Circuit) : Circuit :=
  { r with
    state := new
    sendCount := if new = .offered then sends else 0
    sweepsSinceSend := 0
    resendDue := false
    claimDue := if new = .offered ∨ new = .parked then due else false
    scopeMark := if new = .clashed then false else r.scopeMark }

/-- The clash mark on entry to CLASHED: a table edit outside QUIESCE, held pending in QUIESCE (R24, R15). -/
def State.markClash (h : Nat) (s : State) : State :=
  if s.ctl.st = .quiesce then s.mapRec h (fun r => { r with clashPending := true })
  else (s.mapRec h (fun r => { r with clashMark := true })).closeEdit

/-- A record enters a relink state: its relink fields, its clash mark, and the lamp, whose inputs the counts are. -/
def State.enter (h : Nat) (new : Relink) (due : Bool) (sends : Nat) (s : State) : State :=
  let s1 := s.mapRec h (fun r => r.enter new due sends)
  (if new = .clashed then s1.markClash h else s1).judgeLamp

/-- A record leaves PROBING for another cause than a completion, or is removed while PROBING: the slot is freed at once
and the weight refunded (R25, R117). Leaving OPEN closes the gate, which is the record's being OPEN. -/
def State.cancelProbe (r : Circuit) (s : State) : State :=
  if r.state.isProbing then (s.freeProbe r.place).credit r.weight else s

/-- A record goes from the state it is in to another one, by a cause that is no probe completion (R24, R25). -/
def State.moveTo (r : Circuit) (new : Relink) (due : Bool) (sends : Nat) (s : State) : State :=
  (s.cancelProbe r).enter r.place new due sends

/-! ### Attempts (5.1, 5.2) -/

/-- The candidate takes a probe slot and goes to PROBING, and its weight is spent (R92, R93, R98, R115). -/
def State.startProbe (r : Circuit) (k : Nat) (s : State) : State :=
  let s1 : State := { s with
    seq := { s.seq with allowance := s.seq.allowance - r.weight }
    hw := { s.hw with probes := s.hw.probes ++
      [{ slot := k, place := r.place, lane := r.lane, half := talkHalf s.ctl.slot r, remaining := 16, seen := false }] } }
  s1.enter r.place (.probing k) false 0

/-- The turns of one attempt: it ends where there is no candidate, its weight is above the allowance, or every slot is
held (R92). -/
def State.attemptTurns : Nat → State → State
  | 0, s => s
  | n + 1, s =>
    match s.candidate, s.freeSlot with
    | some r, some k =>
      if r.weight ≤ s.seq.allowance then State.attemptTurns n (s.startProbe r k) else s
    | _, _ => s

/-- An attempt: made in RELINK and SERVICE only (R94, R95). Each turn holds one of the four slots, so four turns are all
there can be. -/
def State.attempt (s : State) : State := if s.running then s.attemptTurns 4 else s

/-- A change of relink state is one of the causes of R94: entering CONFIRMED, freeing a probe slot, or leaving PARKED,
OFFERED or CONFIRMED for DEFERRED, REFUSED or CLASHED. -/
def attemptCause (old new : Relink) : Bool :=
  (new == .confirmed && old != .confirmed) || (old.isProbing && !new.isProbing) || (old.holds && new.aside)

/-- The removal of a record is one of the causes of R94. -/
def removalCause (old : Relink) : Bool := old.isProbing || old.holds

/-- What follows a change of a record once all its effects are taken: the attempt of R94 if it is a cause of one, and the
judgement of the end of RELINK (R156). -/
def State.settleChange (cause : Bool) (s : State) : State := (if cause then s.attempt else s).judgeEnd

/-! ### Removal (R9) -/

/-- The table side of a removal, one table edit (R9). -/
def State.removeRecord (r : Circuit) (s : State) : State :=
  let s1 := s.cancelProbe r
  let s2 := { s1 with records := s1.records.filter (fun x => x.place != r.place) }
  ((s2.mapFlying (fun f => { f with carried := f.carried.filter (fun h => h != r.place) })).closeEdit).judgeLamp

/-! ### Releasing rolls and single claims (4.1, 4.2) -/

/-- A roll towards p is releasable (R66). -/
def State.releasable (p : Nat) (s : State) : Bool :=
  (s.peer p).rollOut == .owed && (s.peer p).up &&
    (s.ctl.st == .service || (s.ctl.st == .relink && s.ctl.listenOver))

/-- A release pass over one peer (R67). -/
def State.pass (p : Nat) (s : State) : State := if s.releasable p then s.request (.roll p) else s

/-- A release pass over every addressable slot (R67). -/
def State.passAll (s : State) : State := s.each s.slotOrder State.pass

/-- The record is waiting for a single claim (R73). -/
def Circuit.waiting (r : Circuit) : Bool := r.claimDue && !r.rollMark

/-- Post a single OFFER request for p if its three conditions hold (R73). -/
def State.checkSingle (p : Nat) (s : State) : State :=
  if s.running && (s.peer p).up && (s.towards p).any Circuit.waiting then s.request (.singleOffer p) else s

/-- Clear every roll mark on records towards p. -/
def State.clearRollMarks (p : Nat) (s : State) : State := s.mapTowards p (fun r => { r with rollMark := false })

/-- Clear every scope mark on records towards p. -/
def State.clearScopeMarks (p : Nat) (s : State) : State := s.mapTowards p (fun r => { r with scopeMark := false })

def State.setRollOut (p : Nat) (x : RollOut) (s : State) : State := s.updPeer p (fun y => { y with rollOut := x })

/-- A change to the set of records towards p restarts the roll that is SENDING (R71, R73). DESIGN CHOICE (log 12): where
one restart posts both the ROLL and the single OFFER, the ROLL is posted first; neither rule says which. -/
def State.restartRoll (p : Nat) (s : State) : State :=
  if (s.peer p).rollOut = .sending then
    (((s.clearRollMarks p).setRollOut p .owed).pass p).checkSingle p
  else s

end Sys2Proof.Machine
end

