-- ==== Sys2Proof/Machine/Records.lean ====
section
/-! DEFINITION. Machine/Records.lean: what each cause does to a circuit record (chapter 2) and to the verdict lists and
rolls it belongs to (chapter 4). -/

namespace Sys2Proof.Machine

/-! ### Pending lists -/

/-- The capacity of the pending verdict list and of the pending release list (R51, R65). -/
def listCapacity : Nat := 16

/-- Append a verdict at the tail of a peer's list and post an ANSWER request (R83). -/
def State.appendVerdict (p : Nat) (v : Verdict) (s : State) : State :=
  State.request (.answer p) (s.updPeer p (fun x => { x with verdicts := x.verdicts ++ [v] }))

/-- A verdict for which there is no room: the overrun count rises, stopping at 255 (R65). -/
def State.overrun (p : Nat) (s : State) : State := s.updPeer p (fun x => { x with overrun := satSucc 255 x.overrun })

/-- Append a tag at the tail of a peer's pending release list and post a RELEASE request (R87). -/
def State.appendRelease (p tag : Nat) (s : State) : State :=
  State.request (.release p) (s.updPeer p (fun x => { x with releases := x.releases ++ [tag] }))

/-! ### Deferral of several records by one event (R41, R42, R43) -/

/-- The record in a place goes to DEFERRED with a notice, if its state is one that the cause acts on. -/
def State.deferPlace (cond : Relink → Bool) (h : Nat) (s : State) : State :=
  match s.findPlace h with
  | none => s
  | some r =>
    if cond r.state then
      ((s.moveTo r .deferred false 0).post .deferred r).settleChange (attemptCause r.state .deferred)
    else s

/-- Defer, in the order given, the records a cause acts on: one notice each, DEFERRAL once if any changed (R26). -/
def State.deferMany (cond : Relink → Bool) (rs : List Circuit) (s : State) : State :=
  (s.raiseIf (rs.any (fun r => cond r.state)) .deferral).each (rs.map Circuit.place) (State.deferPlace cond)

/-- PARKED or OFFERED (R42). -/
def Relink.unsettled (x : Relink) : Bool := x == .parked || x == .offered

/-- Every state but CLASHED and DEFERRED (R41). -/
def Relink.notAside (x : Relink) : Bool := x != .clashed && x != .deferred

/-! ### Claims sent (R27) -/

/-- A claim counts as sent for the record in a place (R27); `roll`: the frame was a roll OFFER. -/
def State.claimSent (roll : Bool) (h : Nat) (s : State) : State :=
  match s.findPlace h with
  | none => s
  | some r =>
    let s1 := s.mapRec h (fun x => { x with claimDue := false, rollMark := if roll then false else x.rollMark })
    match r.state with
    | .parked => (s1.enter h .offered false 1).settleChange false
    | .deferred => (s1.enter h .offered false 1).settleChange false
    | .refused _ => (s1.enter h .offered false 1).settleChange false
    | .offered => s1.mapRec h (fun x => { x with sendCount := satSucc 4 x.sendCount, sweepsSinceSend := 0, resendDue := false })
    | .confirmed => s1
    | .probing _ => s1
    | .opened _ => s1
    | .clashed => s1

/-! ### Agreement: a matched claim (R30) or an ACCEPT (R33) -/

/-- The state a record is left in by an agreement that puts it on lane `lane`: PROBING and OPEN records stay where
they are unless the in-use lane changes (R30, R33). -/
def Circuit.agreed (lane : InUse) (r : Circuit) : Relink :=
  match r.state with
  | .probing k => if lane = r.inUse then .probing k else .confirmed
  | .opened n => if lane = r.inUse then .opened n else .confirmed
  | .clashed => .clashed
  | .parked => .confirmed
  | .offered => .confirmed
  | .confirmed => .confirmed
  | .deferred => .confirmed
  | .refused _ => .confirmed

/-- A record that is not CLASHED agrees on lane `lane`: the in-use lane is set, the state changes by `Circuit.agreed`,
and a change of lane posts LANE MOVED (R30, R33). -/
def State.agree (lane : InUse) (r : Circuit) (s : State) : State :=
  let s1 := s.mapRec r.place (fun x => { x with inUse := lane })
  let s2 := if r.agreed lane = r.state then s1 else s1.moveTo r (r.agreed lane) false 0
  s2.postIf (lane != r.inUse) .laneMoved r

/-! ### Refusal (R31, R32, R40) and clash (R35) -/

/-- A record that is neither CLASHED nor refused with this cause already goes to REFUSED, with the REFUSAL event and a
notice (R31, R32). -/
def State.refuse (c : Cause) (r : Circuit) (s : State) : State :=
  ((s.raise .refusal).moveTo r (.refused c) false 0).post (.refused c) r

/-- The refusal changes the record (R31, R32). -/
def Circuit.refusable (c : Cause) (r : Circuit) : Bool := r.state != .clashed && r.state != .refused c

/-- A CLASH verdict takes a record to CLASHED (R35). -/
def State.clash (r : Circuit) (s : State) : State :=
  ((s.raise .clash).moveTo r .clashed false 0).post .clashed r

/-! ### Lane faults (R36 to R39) -/

/-- The unsolicited CLASH of a local clash: queued for a PRESENT peer with room, counted as an overrun when its list is
full, not queued for a peer that is not PRESENT (R37). -/
def State.unsolicitedClash (r : Circuit) (s : State) : State :=
  if (s.peer r.farSlot).presence = .present then
    if (s.peer r.farSlot).verdicts.length < listCapacity then
      s.appendVerdict r.farSlot { tag := r.tag, kind := .clash }
    else s.overrun r.farSlot
  else s

/-- A lane fault: the standby move where there is a standby lane and the record is on PRIMARY, else the local clash
(R37). The probe slot or the gate of the record is taken care of by the cause. -/
def State.laneFault (r : Circuit) (s : State) : State :=
  if r.standby.isSome ∧ r.inUse = .primary then
    let s1 := (s.mapRec r.place (fun x => { x with inUse := .standby })).post .laneMoved r
    if (s.peer r.farSlot).up then (s1.enter r.place .offered true 0).checkSingle r.farSlot
    else (s1.enter r.place .deferred false 0).raise .deferral
  else
    State.unsolicitedClash r (((s.enter r.place .clashed false 0).raise .clash).post .clashed r)

/-- A probe completion takes its record, clear or foul (R36, R38, R116). -/
def State.completeProbe (pr : Probe) (s : State) : State :=
  let s1 := s.freeProbe pr.place
  match s.findPlace pr.place with
  | none => s1
  | some r =>
    if pr.seen then ((s1.credit r.weight).laneFault r).settleChange true
    else ((s1.enter r.place (.opened 0) false 0).post .opened r).settleChange true

/-! ### Claims received (R29 to R31, R77, R81) -/

/-- Lane convergence (R29). -/
def converge (c : Claim) (r : Circuit) : InUse :=
  if r.standby = some c.lane ∨ r.inUse = .standby then .standby else .primary

/-- The claim differs from the record it finds on a port or on the lane (R31, R81 case 4). -/
def claimDiffers (c : Claim) (r : Circuit) : Bool :=
  c.claimerPort != r.farPort || c.addresseePort != r.localPort || !r.holdsLane c.lane

/-- A matched claim (R30): the record agrees on the lane of R29 and the verdict is ACCEPT with its value, or CLASH from
a CLASHED record. -/
def State.claimMatched (p : Nat) (c : Claim) (r : Circuit) (s : State) : State :=
  if r.state = .clashed then s.appendVerdict p { tag := c.tag, kind := .clash }
  else
    let u := converge c r
    ((s.agree u r).appendVerdict p { tag := c.tag, kind := .accept { r with inUse := u }.lane }).settleChange
      (attemptCause r.state (r.agreed u))

/-- A claim mismatched on ports or lane (R31). -/
def State.claimMismatched (p : Nat) (c : Claim) (r : Circuit) (s : State) : State :=
  if r.refusable .mismatch then
    ((s.refuse .mismatch r).appendVerdict p { tag := c.tag, kind := .mismatch }).settleChange
      (attemptCause r.state (.refused .mismatch))
  else s.appendVerdict p { tag := c.tag, kind := .mismatch }

/-- One scope-marked record of an orphan sweep (R40). -/
def State.orphanPlace (h : Nat) (s : State) : State :=
  match s.findPlace h with
  | none => s
  | some r =>
    if r.scopeMark then
      let s1 := s.mapRec h (fun x => { x with scopeMark := false })
      if r.refusable .orphan then
        ((s1.moveTo r (.refused .orphan) false 0).post (.refused .orphan) r).settleChange
          (attemptCause r.state (.refused .orphan))
      else s1
    else s

/-- The roll from p completes: the channel becomes IDLE and the orphan sweep is made (R78, R40). -/
def State.completeRoll (p : Nat) (s : State) : State :=
  let s1 := s.updPeer p (fun x => { x with channel := .idle })
  (s1.raiseIf ((s.towards p).any (fun r => r.scopeMark && r.refusable .orphan)) .refusal).each
    ((s.towards p).map Circuit.place) State.orphanPlace

/-- A roll-flagged claim taken while the channel is RECEIVING is counted, and may complete the roll (R77). -/
def State.countClaim (p : Nat) (s : State) : State :=
  match (s.peer p).channel with
  | .idle => s
  | .receiving d n _ =>
    let s1 := s.updPeer p (fun x => { x with channel := .receiving d (n + 1) 0 })
    if n + 1 = d then s1.completeRoll p else s1

/-- The verdict on a claim and its effect on the table, cases 2 to 5 of R81; cases 4 and 5 clear the scope mark (R77). -/
def State.answerClaim (p : Nat) (c : Claim) (s : State) : State :=
  match s.findTag c.tag with
  | none => s.appendVerdict p { tag := c.tag, kind := .unknown }
  | some r =>
    if r.farSlot ≠ p then s.appendVerdict p { tag := c.tag, kind := .mismatch }
    else
      let s1 := s.mapRec r.place (fun x => { x with scopeMark := false })
      if claimDiffers c r then s1.claimMismatched p c r else s1.claimMatched p c r

/-- One claim of an OFFER that passed the room check (R81): WAIT in SETUP, else the cases 2 to 5 and the counting. -/
def State.takeClaim (p : Nat) (roll : Bool) (c : Claim) (s : State) : State :=
  if s.ctl.st = .setup then s.appendVerdict p { tag := c.tag, kind := .wait }
  else if roll then (s.answerClaim p c).countClaim p else s.answerClaim p c

/-- An OFFER acted on: the room check, then its claims one by one, else an overrun (R80). -/
def State.takeOffer (p : Nat) (roll : Bool) (cs : List Claim) (s : State) : State :=
  if (s.peer p).verdicts.length + cs.length ≤ listCapacity then s.each cs (fun c s => s.takeClaim p roll c)
  else s.overrun p

/-- A ROLL acted on (R76): the channel opens, every record towards p but a CLASHED one is scope-marked, and an empty
roll completes at once. -/
def State.takeRoll (p n : Nat) (s : State) : State :=
  let s1 := (s.updPeer p (fun x => { x with channel := .receiving n 0 0 })).mapTowards p
    (fun r => { r with scopeMark := r.state != .clashed })
  if n = 0 then s1.completeRoll p else s1

/-! ### Verdicts received (R32 to R35, R85) -/

/-- The lane an ACCEPT names of a record's lanes; none when it names neither (R33). -/
def Circuit.laneNamed (lane : Nat) (r : Circuit) : Option InUse :=
  if lane = r.primary then some .primary
  else if r.standby = some lane then some .standby
  else none

/-- An UNKNOWN or MISMATCH verdict on the record it finds (R32). -/
def State.verdictRefuse (c : Cause) (r : Circuit) (s : State) : State :=
  if r.refusable c then (s.refuse c r).settleChange (attemptCause r.state (.refused c)) else s

/-- An ACCEPT on the record it finds; with a lane the record does not hold it is a MISMATCH (R33). -/
def State.verdictAccept (lane : Nat) (r : Circuit) (s : State) : State :=
  match r.laneNamed lane with
  | none => s.verdictRefuse .mismatch r
  | some u =>
    if r.state = .clashed then s else (s.agree u r).settleChange (attemptCause r.state (r.agreed u))

/-- A WAIT on the record it finds (R34). -/
def State.verdictWait (r : Circuit) (s : State) : State :=
  if r.state.unsettled then
    (((s.raise .deferral).moveTo r .deferred false 0).post .deferred r).settleChange (attemptCause r.state .deferred)
  else s

/-- A CLASH on the record it finds (R35). -/
def State.verdictClash (r : Circuit) (s : State) : State :=
  if r.state = .clashed then s else (s.clash r).settleChange (attemptCause r.state .clashed)

/-- One verdict of an ANSWER (R85); one that finds no record raises the stale-verdict count (R86). -/
def State.takeVerdict (p : Nat) (v : Verdict) (s : State) : State :=
  match s.findTowards v.tag p with
  | none => { s with line := { s.line with stale := satSucc 255 s.line.stale } }
  | some r =>
    match v.kind with
    | .accept lane => s.verdictAccept lane r
    | .unknown => s.verdictRefuse .unknown r
    | .mismatch => s.verdictRefuse .mismatch r
    | .wait => s.verdictWait r
    | .clash => s.verdictClash r

/-! ### Releases received (R44, R89) -/

/-- One tag of a RELEASE from p: the record it finds towards p is removed with a notice, a SENDING roll restarts, and
the attempt of R94 follows (R44, R71). -/
def State.takeRelease (p tag : Nat) (s : State) : State :=
  match s.findTowards tag p with
  | none => s
  | some r =>
    (((s.removeRecord r).post .removed r).restartRoll p).settleChange (removalCause r.state)

/-! ### Frames heard and restarts recognised (3.3, 3.4) -/

/-- How a frame's header is classified against the peer record before it (R56). -/
inductive Recognition where
  | nothing | arrival | warm | cold | leavingSetup
deriving DecidableEq, Repr

/-- The table of R56. -/
def classify (x : Peer) (epoch : Byte) (st : Announced) : Recognition :=
  match x.presence with
  | .unheard => .arrival
  | .present =>
    if st = .setup then
      if x.st = some .setup ∧ x.epoch = some epoch then .nothing else .cold
    else if x.epoch ≠ some epoch then .warm
    else if x.st = some .setup then .leavingSetup
    else .nothing
  | .silent =>
    if st = .setup then
      if x.st = some .setup ∧ x.epoch = some epoch then .arrival else .cold
    else if x.epoch ≠ some epoch then .warm
    else .arrival

/-- A cold restart of p (R57, R60, R41). -/
def State.coldRestart (p : Nat) (s : State) : State :=
  let s1 := if (s.peer p).rollOut = .sending then s.clearRollMarks p else s
  let s2 := (s1.updPeer p (fun x => { x with rollOut := .none, channel := .idle, wants := .clear })).emptyLists p
  let s3 := (s2.clearScopeMarks p).raise .peerRestart
  if s3.minding then s3.deferMany Relink.notAside (s3.towards p) else s3

/-- The roll to p becomes OWED; one that was SENDING loses its roll marks (R55, R58). -/
def State.oweRoll (p : Nat) (s : State) : State :=
  State.setRollOut p .owed (if (s.peer p).rollOut = .sending then s.clearRollMarks p else s)

/-- A roll from p that is under way is cut: the channel becomes IDLE and the scope marks go (R58). -/
def State.cutChannel (p : Nat) (s : State) : State :=
  match (s.peer p).channel with
  | .idle => s
  | .receiving _ _ _ => (s.updPeer p (fun x => { x with channel := .idle })).clearScopeMarks p

/-- A warm restart or an arrival of p, whose header announces `st` (R58, R60). -/
def State.warmRestart (p : Nat) (st : Announced) (s : State) : State :=
  ((if st = .setup then s else s.oweRoll p).cutChannel p).raise .peerRestart

/-- Step 1 of R53. -/
def State.recognise (p : Nat) (epoch : Byte) (st : Announced) (s : State) : State :=
  match classify (s.peer p) epoch st with
  | .nothing => s
  | .arrival => s.warmRestart p st
  | .warm => s.warmRestart p st
  | .cold => s.coldRestart p
  | .leavingSetup => s.setRollOut p .owed

/-- A good frame is heard from its source (R53). After a recognition the roll and the single claims that wait for the
peer are let go as far as they may (R67, R73), and the end of RELINK is judged (R156). -/
def State.heard (p : Nat) (epoch : Byte) (st : Announced) (s : State) : State :=
  if s.addressable p then
    let s1 := if s.awake then s.recognise p epoch st else s
    let s2 := s1.updPeer p (fun x =>
      { x with presence := .present, sinceHeard := 0, epoch := some epoch, st := some st })
    let s3 := if s.awake ∧ classify (s.peer p) epoch st ≠ .nothing then (s2.pass p).checkSingle p else s2
    s3.judgeEnd
  else s

/-! ### Silence (R55, R42) -/

/-- A peer goes SILENT (R54, R55), with the effect on its records (R42). -/
def State.goSilent (p : Nat) (s : State) : State :=
  let s1 := if (s.peer p).rollOut = .sending then s.oweRoll p else s
  let s2 := (s1.updPeer p (fun x => { x with presence := .silent, channel := .idle, wants := .clear })).emptyLists p
  let s3 := (s2.dropRequests p).clearScopeMarks p
  (if s3.minding then s3.deferMany Relink.unsettled (s3.towards p) else s3).judgeEnd

end Sys2Proof.Machine
end

