-- ==== Sys2Proof/Machine/Stations.lean ====
section
/-! DEFINITION. Machine/Stations.lean: the Supply Monitor and the station controller (chapter 8): starts, QUIESCE and
recovery, GO and PURGE, and the cold rewrite of the Retention Store (1.9). -/

namespace Sys2Proof.Machine

/-! ### The own frame aborted (R69, R138, R141) -/

/-- What an abort of the own frame changes beside the line: a ROLL whose roll is still SENDING goes back to OWED with the
marks of its build cleared, and a ROLL that is OWED is released again (R67, R69). The other kinds change nothing
(R70, R74, R84, R88). DESIGN CHOICE (log 30): the marks cleared here make no check for a single OFFER, since the list of
moments in R73 has the restart and not the abort. -/
def State.abortEffects (req : Request) (s : State) : State :=
  match req with
  | .roll p =>
    let s1 := if (s.peer p).rollOut = .sending then s.oweRoll p else s
    if (s1.peer p).rollOut = .owed then s1.pass p else s1
  | .beacon => s
  | .rollOffer _ => s
  | .singleOffer _ => s
  | .answer _ => s
  | .release _ => s

/-- Abort the own frame, if one is on the line, and drive the jam (R138, R141). -/
def State.jamFrame (s : State) : State :=
  match s.line.flying with
  | none => s
  | some f => State.abortEffects f.req { s with line := { s.line with out := .jam } }

/-! ### Entering and leaving QUIESCE (R158, R160) -/

/-- A PROBING record goes to CONFIRMED on its lane, its probe cancelled with refund (R47). -/
def State.unprobe (h : Nat) (s : State) : State :=
  match s.findPlace h with
  | none => s
  | some r =>
    if r.state.isProbing then (s.moveTo r .confirmed false 0).settleChange (attemptCause r.state .confirmed) else s

/-- Entry to QUIESCE from an announced state (R158, R47, R110, R141). -/
def State.enterQuiesce (from_ : Announced) (s : State) : State :=
  let s1 := (State.setStation .quiesce { s with ctl := { s.ctl with ret := some from_ } }).jamFrame
  let s2 := s1.each ((s1.classOrder.filter (fun r => r.state.isProbing)).map Circuit.place) State.unprobe
  State.raise .sag
    { s2 with seq := { s2.seq with timer := .stopped, heldStep := s2.seq.mode == .step && s2.seq.timer.isRunning } }

/-- The clash marks held pending are written as one table edit (R15, R160). -/
def State.writePending (s : State) : State :=
  if s.records.any Circuit.clashPending then
    let rs := s.records.map (fun r => if r.clashPending then { r with clashMark := true, clashPending := false } else r)
    State.closeEdit { s with records := rs }
  else s

/-- The pace timer at recovery (R110). -/
def State.resumeTimer (s : State) : State :=
  if s.running then
    match s.seq.mode with
    | .continuous => s.startCount
    | .step =>
      if s.seq.heldStep then State.startCount { s with seq := { s.seq with heldStep := false } } else s
  else { s with seq := { s.seq with timer := .stopped, heldStep := false } }

/-- What recovery into RELINK or SERVICE lets go: the release pass, the single claims, the attempt (R160). -/
def State.letGo (s : State) : State :=
  if s.running then ((s.passAll).each s.slotOrder State.checkSingle).attempt else s

/-- Recovery from QUIESCE into the return state (R160). -/
def State.recover (to_ : Announced) (s : State) : State :=
  let s1 := State.raise .recover
    (State.setStation (stationOf to_) { s with ctl := { s.ctl with ret := none } })
  ((s1.writePending.resumeTimer).announce.letGo).judgeEnd

/-! ### Conversions (R145 to R148) -/

/-- The count of a feed of so many millivolts: floor(V / 0.25), saturating at 255 (R145). -/
def sampleOf (millivolts : Nat) : Nat := min 255 (millivolts / 250)

/-- The warning threshold by which a result is judged (R148; log 9, log 11). -/
def State.threshold (s : State) : Nat :=
  if s.ctl.st = .strapFault then Config.strapFaultThreshold else s.settingsInForce.warn

/-- The two runs after a result (R146, R147). -/
def Supply.take (w r : Nat) (x : Supply) : Supply :=
  { sample := r
    warnRun := if r < w then satSucc 2 x.warnRun else 0
    recoverRun := if w + 8 ≤ r then satSucc 4 x.recoverRun else 0 }

/-- A result gives a sag warning (R146). -/
def sagGiven (old new : Supply) : Bool := old.warnRun == 1 && new.warnRun == 2

/-- A result gives a recovery (R147). -/
def recoveryGiven (old new : Supply) : Bool := old.recoverRun == 3 && new.recoverRun == 4

/-- A result of the Supply Monitor (R145): both runs, then a sag warning (R158) or a recovery in QUIESCE (R160). While
the reset cause persists no conversion is made (R145). -/
def State.convert (millivolts : Nat) (s : State) : State :=
  if s.ctl.resetHeld then s
  else
    let new := s.supply.take s.threshold (sampleOf millivolts)
    let s1 := { s with supply := new }
    if sagGiven s.supply new then
      match announcedOf s.ctl.st with
      | some a => s1.enterQuiesce a
      | none => s1
    else if recoveryGiven s.supply new && s.ctl.st == .quiesce then
      match s.ctl.ret with
      | some a => s1.recover a
      | none => s1
    else s1

/-! ### Starts (R149 to R153) -/

/-- The relink fields of a record at a warm start (R48, R17). -/
def Circuit.fresh (r : Circuit) : Circuit :=
  { r with
    clashPending := false
    state := if r.clashMark then .clashed else .parked
    inUse := .primary
    sendCount := 0
    sweepsSinceSend := 0
    resendDue := false
    claimDue := false
    rollMark := false
    scopeMark := false }

def State.freshLinks (s : State) : State := { s with records := s.records.map Circuit.fresh }

/-- What a start leaves of a table edit that is in progress when it strikes (R14, R18; log 7). -/
def State.strike (cut : EditCut) (s : State) : State :=
  match cut with
  | .none => s
  | .table => s.cutEdit
  | .rewrite => State.cutEdit { s with store := { s.store with keepAlive := false } }

/-- Entry to STARTING (R149): every block but the Retention Store takes its start values; the relink fields are discarded
(R3; log 23); an OPEN transfer is discarded (R169). -/
def State.enterStarting (cut : EditCut) (s : State) : State :=
  let s1 := (s.strike cut).freshLinks
  { s1 with
    peers := List.replicate 24 Peer.start
    sweep := { remaining := none, beaconCount := 0 }
    line := LineCtl.start s.ctl.slot
    seq := Sequencer.start
    hw := HighwayPort.start
    supply := { sample := 0, warnRun := 0, recoverRun := 0 }
    ctl := { st := .starting, ret := none, listenCount := 0, listenOver := false, slot := s.ctl.slot,
             size := s.ctl.size, resetHeld := true, firstValid := false }
    card := { response := .noneYet, take := 0, transfer := .idle,
              discarded := s.card.discarded || s.card.transfer != .idle, shifted := s.card.shifted }
    events := .clear
    notices := []
    lamp := { mode := .fast, position := 0 } }

/-- The shelf size of the two size pins (0.7). -/
def shelfSize (pins : Nat) : Nat :=
  if pins = 0 then 8 else if pins = 1 then 12 else if pins = 2 then 16 else 24

/-- The reset cause ends and the straps are read: STRAP FAULT, or the first judgement of the store (R150, R151). The last
sender becomes the own slot, now known (R137; log 10). -/
def State.readStraps (slotPins sizePins : Nat) (s : State) : State :=
  if s.ctl.st = .starting ∧ s.ctl.resetHeld = true then
    let s1 : State := { s with
      ctl := { s.ctl with slot := slotPins, size := shelfSize sizePins, resetHeld := false }
      line := { s.line with lastSender := slotPins } }
    if shelfSize sizePins ≤ slotPins then s1.setStation .strapFault
    else { s1 with ctl := { s1.ctl with firstValid := s1.storeValid } }
  else s

/-- The start may end: a recovery has been given in STARTING, and the store is judged a second time (R151). -/
def State.startDue (s : State) : Bool :=
  s.ctl.st == .starting && !s.ctl.resetHeld && s.supply.recoverRun == 4

/-- The sweep clock starts a fresh interval (R49). -/
def State.freshInterval (s : State) : State :=
  { s with sweep := { s.sweep with remaining := some s.store.settings.period } }

/-- The pace timer on entry to RELINK (R110). -/
def State.relinkTimer (s : State) : State :=
  match s.seq.mode with
  | .continuous => s.startCount
  | .step => s

/-- Entry to RELINK with listen count 0, every roll OWED, a BEACON and the pace timer (R152, R154). -/
def State.enterRelink (s : State) : State :=
  ((State.setStation .relink { s with ctl := { s.ctl with listenCount := 0, listenOver := false } }).oweAll).announce.relinkTimer

/-- The end of a warm start (R152). -/
def State.endWarm (s : State) : State :=
  let s1 := State.closeEdit { s with store := { s.store with epoch := s.store.epoch + 1 } }
  ((s1.freshLinks.freshInterval).enterRelink).raise .start

/-- The cold rewrite (R18): empty table, default configuration, the strap readings, epoch 0, a zero sum, the keep-alive
mark. -/
def State.coldRewrite (s : State) : State :=
  let store : Store :=
    { s.store with settings := defaultSettings, keptSlot := s.ctl.slot, keptSize := s.ctl.size, epoch := 0,
                   keepAlive := true }
  State.closeEdit { s with records := [], store := store }

/-- Entry to SETUP by a cold start or PURGE, with its BEACON and START (R153, R161). -/
def State.enterSetup (s : State) : State := ((s.setStation .setup).announce).raise .start

/-- The end of a cold start (R153). -/
def State.endCold (s : State) : State := (s.coldRewrite.freshInterval).enterSetup

/-! ### GO and PURGE -/

/-- The effects of GO (R154, R172). -/
def State.takeGo (s : State) : State := s.enterRelink

/-- The line after PURGE: its start values, and a jam if a frame was aborted (R141, R161). -/
def LineCtl.purged (own : Nat) (l : LineCtl) : LineCtl :=
  { LineCtl.start own with out := if l.flying.isSome then .jam else l.out }

/-- The effects of PURGE (R161, R178). -/
def State.takePurge (s : State) : State :=
  let s1 : State := { s with
    peers := List.replicate 24 Peer.start
    sweep := { s.sweep with beaconCount := 0 }
    line := s.line.purged s.ctl.slot
    seq := Sequencer.start
    hw := HighwayPort.start
    supply := { s.supply with warnRun := 0, recoverRun := 0 }
    ctl := { s.ctl with ret := none, listenCount := 0, listenOver := false }
    events := .clear
    notices := [] }
  s1.coldRewrite.enterSetup

end Sys2Proof.Machine
end

