-- ==== Sys2Proof/Machine/Settle.lean ====
section
/-! DEFINITION. Machine/Settle.lean: the sweep event and the highway frame, which advance counters, and the due steps
that follow when a counter reaches its limit. Each due step is a row of the table of its own; `State.settle` takes the
due steps that the environment has not sent before any other row is taken (log 2). -/

namespace Sys2Proof.Machine

/-! ### The sweep event (R50) -/

/-- Presence ages (R54) and, where the station holds records up, the gap count of a RECEIVING channel rises (R79). -/
def Peer.age (holding : Bool) (x : Peer) : Peer :=
  { x with
    sinceHeard := if x.presence = .present then satSucc 12 x.sinceHeard else x.sinceHeard
    channel := match x.channel with
      | .idle => .idle
      | .receiving d n g => .receiving d n (if holding then satSucc 3 g else g) }

/-- Sweeps since send of an OFFERED record (R28). -/
def Circuit.age (r : Circuit) : Circuit :=
  if r.state = .offered ∧ r.sweepsSinceSend < 6 then
    { r with sweepsSinceSend := r.sweepsSinceSend + 1, resendDue := r.sweepsSinceSend + 1 == 6 }
  else r

/-- The sweep event in each block that counts in sweeps (R50): presence and gap counts, the beacon count (R61), sweeps
since send (R28), the listen count (R155). The next interval begins (R49). -/
def State.sweepEvent (s : State) : State :=
  { s with
    records := if s.holding then s.records.map Circuit.age else s.records
    peers := s.peers.map (Peer.age s.holding)
    sweep := { remaining := some s.store.settings.period,
               beaconCount := if s.awake && s.ctl.st != .quiesce then satSucc 4 s.sweep.beaconCount
                              else s.sweep.beaconCount }
    ctl := { s.ctl with listenCount := if s.ctl.st = .relink then satSucc 8 s.ctl.listenCount else s.ctl.listenCount } }

/-- A sweep event where the clock runs (R49). -/
def State.takeSweep (s : State) : State := if s.sweep.remaining.isSome then s.sweepEvent else s

/-! ### What is due after a sweep -/

/-- The peer reached 12 sweeps since heard (R54). -/
def Peer.silenceDue (x : Peer) : Bool := x.presence == .present && decide (12 ≤ x.sinceHeard)

/-- The RECEIVING channel reached a gap count of 3 (R79). -/
def Peer.abandonDue (x : Peer) : Bool :=
  match x.channel with
  | .idle => false
  | .receiving _ _ g => decide (3 ≤ g)

/-- The listen count reached 8 (R155). -/
def State.listenDue (s : State) : Bool := s.ctl.st == .relink && decide (8 ≤ s.ctl.listenCount) && !s.ctl.listenOver

/-- PEER_SILENT, where due (R54, R55, R42). -/
def State.takeSilence (p : Nat) (s : State) : State := if (s.peer p).silenceDue then s.goSilent p else s

/-- BEACON_DUE, where due: the count becomes 0 and a BEACON request is posted (R61). -/
def State.takeBeacon (s : State) : State := if 4 ≤ s.sweep.beaconCount then s.announce else s

/-- CLAIM_RESEND for the record in a place, where due (R28). -/
def State.takeResend (h : Nat) (s : State) : State :=
  match s.findPlace h with
  | none => s
  | some r =>
    if r.resendDue && r.state == .offered then
      if r.sendCount < 4 then
        (s.mapRec h (fun x => { x with resendDue := false, claimDue := true })).checkSingle r.farSlot
      else
        (((s.raise .deferral).moveTo r .deferred false 0).post .deferred r).settleChange
          (attemptCause r.state .deferred)
    else s

/-- ROLL_ABANDON, where due (R79). -/
def State.takeAbandon (p : Nat) (s : State) : State :=
  if (s.peer p).abandonDue then
    ((s.updPeer p (fun x => { x with channel := .idle })).clearScopeMarks p).raise .rollCheck
  else s

/-- LISTEN_INTERVAL_END, where due (R155, R67, R43, R156). -/
def State.takeListenEnd (s : State) : State :=
  if s.listenDue then
    let s1 := State.passAll { s with ctl := { s.ctl with listenOver := true } }
    (s1.deferMany (fun x => x == .parked) (s1.classOrder.filter (fun r => !(s1.peer r.farSlot).up))).judgeEnd
  else s

/-! ### The highway frame (R113, R116, R119, R121) -/

/-- The sample another card puts on a half in this frame; none when no other card drives it. -/
def carriedOn (h : HighwayInput) (lane : Nat) (half : Half) : Option Byte :=
  (h.carried.find? (fun x => x.lane == lane && x.half == half)).map HalfSample.sample

/-- The sample a local port transmits; the idle value when it sends nothing (R119). -/
def sentFrom (h : HighwayInput) (port : Nat) : Byte :=
  ((h.sent.find? (fun x => x.port == port)).map PortSample.sample).getD Config.idleSample

/-- One frame of a probe window (R116). -/
def Probe.watch (h : HighwayInput) (p : Probe) : Probe :=
  { p with remaining := p.remaining - 1, seen := p.seen || (carriedOn h p.lane p.half).isSome }

/-- The frame is mismatched for an OPEN record: the half it drives carries another sample than it drove (R121). -/
def mismatched (own : Nat) (h : HighwayInput) (r : Circuit) : Bool :=
  match carriedOn h r.lane (talkHalf own r) with
  | none => false
  | some x => x != sentFrom h r.localPort

/-- The echo watch of a gate in one frame: a mismatch raises the run, a match clears it (R121). -/
def Circuit.watch (own : Nat) (h : HighwayInput) (r : Circuit) : Circuit :=
  match r.state with
  | .opened n => { r with state := .opened (if mismatched own h r then satSucc 3 n else 0) }
  | .parked => r
  | .offered => r
  | .confirmed => r
  | .probing _ => r
  | .deferred => r
  | .refused _ => r
  | .clashed => r

/-- One highway frame (R113): every gate drives its talk half and delivers its listen half (R119), every window
advances, every echo watch compares. -/
def State.highwayFrame (h : HighwayInput) (s : State) : State :=
  { s with
    records := s.records.map (Circuit.watch s.ctl.slot h)
    hw := {
      probes := s.hw.probes.map (Probe.watch h)
      driven := s.gates.map (fun r =>
        { lane := r.lane, half := talkHalf s.ctl.slot r, sample := sentFrom h r.localPort })
      delivered := s.gates.map (fun r =>
        { port := r.localPort, sample := (carriedOn h r.lane (listenHalf s.ctl.slot r)).getD Config.idleSample }) } }

/-- A probe window has ended (R116). -/
def Probe.ended (p : Probe) : Bool := p.remaining == 0

/-- The run of the record's echo watch reached 3 (R121). -/
def Circuit.echoDue (r : Circuit) : Bool :=
  match r.state with
  | .opened n => decide (3 ≤ n)
  | .parked => false
  | .offered => false
  | .confirmed => false
  | .probing _ => false
  | .deferred => false
  | .refused _ => false
  | .clashed => false

/-- PROBE_COMPLETION, where due: the oldest window that has ended (R116), in RELINK and SERVICE (R23). -/
def State.takeCompletion (s : State) : State :=
  if s.running then
    match s.hw.probes.find? Probe.ended with
    | none => s
    | some p => s.completeProbe p
  else s

/-- ECHO_FAULT, where due: the first such gate in class order (R122, R39), in RELINK, SERVICE and QUIESCE (R23). -/
def State.takeEcho (s : State) : State :=
  if s.holding then
    match s.classOrder.find? Circuit.echoDue with
    | none => s
    | some r => (s.laneFault r).settleChange false
  else s

/-! ### The ends of a start (R151 to R153) -/

/-- WARM_START, where due and the second judgement finds the store valid (R152). -/
def State.takeWarm (s : State) : State := if s.startDue && s.storeValid then s.endWarm else s

/-- COLD_START, where due and the second judgement finds the store invalid (R153). -/
def State.takeCold (s : State) : State := if s.startDue && !s.storeValid then s.endCold else s

/-! ### Settling -/

/-- Some due step waits. -/
def State.anyDue (s : State) : Bool :=
  s.startDue || s.peers.any (fun x => x.silenceDue || x.abandonDue) || decide (4 ≤ s.sweep.beaconCount) ||
    s.records.any (fun r => r.resendDue && r.state == .offered) || s.listenDue ||
    (s.running && s.hw.probes.any Probe.ended) || (s.holding && s.records.any Circuit.echoDue)

/-- Every due step in the model's order (DESIGN CHOICE, log 2): the end of a start; then, as R50 lists the blocks,
silence by slot, the beacon, resends in class order, abandoned rolls by slot, the end of the listen interval; then probe
completions in start order and echo faults in class order. -/
def State.settleAll (s : State) : State :=
  let s1 := if s.startDue then (if s.storeValid then s.endWarm else s.endCold) else s
  let s2 := (s1.each (List.range 24) State.takeSilence).takeBeacon
  let s3 := (s2.each (s2.classOrder.map Circuit.place) State.takeResend).each (List.range 24) State.takeAbandon
  let s4 := s3.takeListenEnd
  let s5 := s4.each s4.hw.probes (fun _ s => s.takeCompletion)
  s5.each s5.records (fun _ s => s.takeEcho)

/-- Take every due step that waits. -/
def State.settle (s : State) : State := if s.anyDue then s.settleAll else s

end Sys2Proof.Machine
end

