-- ==== Sys2Proof/Machine/CardOps.lean ====
section
/-! DEFINITION. Machine/CardOps.lean: the card port (chapter 9): the transfer, the station-state table of R168, the seventeen
commands with their checks, effects and responses. -/

namespace Sys2Proof.Machine

/-- What a command record that passed checks 1 to 3 comes to. -/
inductive CardResult where
  /-- refused by check 4 or 5 of R166, with the payload the command's rule gives for that refusal -/
  | refuse (result : ResultCode) (payload : List Byte)
  /-- taken: the state after its effects, and the payload of the OK response -/
  | take (s : State) (payload : List Byte)
  /-- an accepted NOP: no response is built (R165) -/
  | silent

/-! ### Station states (R168) -/

/-- The table of R168: none when the station state takes the command, else its result. -/
def CardCommand.gate (c : CardCommand) (x : StationState) : Option ResultCode :=
  match c with
  | .nop => none
  | .status => none
  | .configure _ =>
    match x with
    | .setup => none
    | .quiesce => some .frozen
    | .starting => some .state
    | .strapFault => some .state
    | .relink => some .state
    | .service => some .state
  | .go =>
    match x with
    | .setup => none
    | .quiesce => some .state
    | .starting => some .state
    | .strapFault => some .state
    | .relink => some .state
    | .service => some .state
  | .provision _ => editGate x
  | .drop _ => editGate x
  | .setPace _ _ => editGate x
  | .rearm _ =>
    match x with
    | .relink => none
    | .service => none
    | .quiesce => some .frozen
    | .starting => some .state
    | .strapFault => some .state
    | .setup => some .state
  | .stepPace =>
    match x with
    | .relink => none
    | .service => none
    | .quiesce => some .state
    | .starting => some .state
    | .strapFault => some .state
    | .setup => some .state
  | .query _ => readGate x
  | .readEntry _ _ => readGate x
  | .readPeer _ => readGate x
  | .readNotices => readGate x
  | .readEvents => readGate x
  | .setEnables _ => readGate x
  | .purge => readGate x
  | .unmute =>
    match x with
    | .starting => some .state
    | .strapFault => none
    | .setup => none
    | .relink => none
    | .service => none
    | .quiesce => none
where
  /-- PROVISION, DROP and SET PACE: taken in SETUP, RELINK and SERVICE, FROZEN in QUIESCE -/
  editGate : StationState → Option ResultCode
    | .setup => none
    | .relink => none
    | .service => none
    | .quiesce => some .frozen
    | .starting => some .state
    | .strapFault => some .state
  /-- reads, enables and PURGE: taken in SETUP, RELINK, SERVICE and QUIESCE -/
  readGate : StationState → Option ResultCode
    | .setup => none
    | .relink => none
    | .service => none
    | .quiesce => none
    | .starting => some .state
    | .strapFault => some .state

/-! ### STATUS (R170) -/

/-- The eight relink-state counts, PARKED to CLASHED (R191). -/
def State.countBytes (s : State) : List Byte :=
  ([0, 1, 2, 3, 4, 5, 6, 7] : List Byte).flatMap (fun k => wordBytes (s.countOf k))

/-- The condition byte (R191); its bits 7 and 6 are 0 (log 32). -/
def State.conditionByte (s : State) : Byte :=
  byteOf (boolBit s.heldForSupply 0 + boolBit (s.seq.mode == .step) 1 + boolBit s.seq.timer.isRunning 2 +
    boolBit s.line.escalated 3 + boolBit s.line.retry 4 + boolBit s.line.muted 5)

/-- The 29 bytes of a STATUS response, by station state (R170, R191). In STARTING the counts, A and the line items report
0 and no; in STRAP FAULT every item but the station state, the straps and S does. -/
def State.statusBytes (s : State) : List Byte :=
  match s.ctl.st with
  | .starting =>
    [stationByte .starting, byteOf s.ctl.slot, byteOf s.ctl.size, if s.ctl.firstValid then s.store.epoch else 0] ++
      List.replicate 16 0 ++ [0, byteOf s.supply.sample] ++ wordBytes s.settingsInForce.reload ++
      [byteOf (boolBit s.heldForSupply 0), 0, 0, 0, 0]
  | .strapFault =>
    [stationByte .strapFault, byteOf s.ctl.slot, byteOf s.ctl.size, 0] ++ List.replicate 16 0 ++
      [0, byteOf s.supply.sample] ++ List.replicate 7 0
  | .setup => full
  | .relink => full
  | .service => full
  | .quiesce => full
where
  full : List Byte :=
    [stationByte s.ctl.st, byteOf s.ctl.slot, byteOf s.ctl.size, s.store.epoch] ++ s.countBytes ++
      [byteOf s.seq.allowance, byteOf s.supply.sample] ++ wordBytes s.store.settings.reload ++
      [s.conditionByte, byteOf s.line.queue.length, byteOf s.line.errors, byteOf s.line.collisions, byteOf s.line.stale]

/-! ### CONFIGURE and GO (R171, R172) -/

/-- A pace reload of 0 is taken as 1 (R108, R171). -/
def clampReload (n : Nat) : Nat := if n = 0 then 1 else n

/-- The order number of the first check of R171 that fails. -/
def configFails (c : Settings) : Option Nat :=
  if c.period ≠ 8 ∧ c.period ≠ 16 ∧ c.period ≠ 32 ∧ c.period ≠ 64 then some 1
  else if 255 < c.floor then some 2
  else if 255 < c.warn then some 3
  else if c.slope < 1 ∨ 15 < c.slope then some 4
  else if c.burst < 4 ∨ 63 < c.burst then some 5
  else if 1023 < c.reload then some 6
  else if c.floor < c.warn + 8 then some 7
  else none

/-- Write the configuration as one table edit (R171, R14). -/
def State.writeSettings (c : Settings) (s : State) : State :=
  State.closeEdit { s with store := { s.store with settings := c } }

def State.doConfigure (c : Settings) (s : State) : CardResult :=
  match configFails c with
  | some n => .refuse .range [byteOf n]
  | none =>
    let w := { c with reload := clampReload c.reload }
    .take (s.writeSettings w) (settingsBytes w)

def State.doGo (s : State) : CardResult :=
  let t := s.takeGo
  .take t ([t.store.epoch] ++ wordBytes t.records.length)

/-! ### PROVISION (R6 to R8, R173) -/

/-- Check 1 of R6, with the standby indication of R173. -/
def State.provisionRange (f : ProvisionFields) (s : State) : Bool :=
  f.tag == 0 || decide (65535 < f.tag) || decide (63 < f.localPort) || decide (63 < f.farPort) ||
    f.farSlot == s.ctl.slot || decide (s.ctl.size ≤ f.farSlot) || decide (1023 < f.primary) ||
    decide (1 < f.standbyInd) || (f.standbyInd == 1 && (decide (1023 < f.standbyLane) || f.standbyLane == f.primary)) ||
    decide (3 < f.cls) || f.weight == 0 || decide (7 < f.weight)

/-- The retained fields a PROVISION carries; a standby lane indicated absent is not kept (R6). -/
def ProvisionFields.fixed (f : ProvisionFields) : Fixed :=
  { tag := f.tag, localPort := f.localPort, farSlot := f.farSlot, farPort := f.farPort, primary := f.primary,
    standby := if f.standbyInd = 1 then some f.standbyLane else none, cls := f.cls, weight := f.weight }

/-- A lane value of the new record is in use in the table (R6, check 4). -/
def State.laneTaken (x : Fixed) (s : State) : Bool :=
  s.records.any (fun r => r.holdsLane x.primary ||
    match x.standby with
    | some l => r.holdsLane l
    | none => false)

/-- The checks of R6 in their order; a table with no free place uses every local port, so it answers PORT_TAKEN (R6). -/
def State.provisionRefusal (f : ProvisionFields) (s : State) : Option ResultCode :=
  if s.provisionRange f then some .range
  else if s.records.any (fun r => r.tag == f.tag) then some .duplicate
  else if s.records.any (fun r => r.localPort == f.localPort) || s.freePlace.isNone then some .portTaken
  else if s.laneTaken (ProvisionFields.fixed f) then some .laneTaken
  else none

/-- The state a new record is entered in: PARKED, or DEFERRED in RELINK and SERVICE when its peer is not up (R7, R8). -/
def State.entryState (farSlot : Nat) (s : State) : Relink :=
  if s.running && !(s.peer farSlot).up then .deferred else .parked

/-- The new record (R3, R7, R8). -/
def State.newRecord (f : ProvisionFields) (h : Nat) (s : State) : Circuit :=
  { toFixed := ProvisionFields.fixed f, place := h, clashMark := false, clashPending := false,
    state := s.entryState f.farSlot, inUse := .primary, sendCount := 0, sweepsSinceSend := 0, resendDue := false,
    claimDue := s.running, rollMark := false, scopeMark := false }

/-- A PROVISION taken (R7): the record at the tail of its class list, one table edit; in RELINK and SERVICE its claim is
let go and a SENDING roll to its far slot restarts (R8, R73, R71). -/
def State.takeProvision (f : ProvisionFields) (h : Nat) (s : State) : State :=
  let s1 := State.closeEdit { s with records := s.records ++ [s.newRecord f h] }
  if s.running then ((s1.checkSingle f.farSlot).restartRoll f.farSlot).settleChange false else s1

def State.doProvision (f : ProvisionFields) (s : State) : CardResult :=
  match s.provisionRefusal f, s.freePlace with
  | none, some h => .take (s.takeProvision f h) (wordBytes f.tag ++ [relinkByte (s.entryState f.farSlot)])
  | some c, _ => .refuse c (wordBytes f.tag)
  | none, none => .refuse .portTaken (wordBytes f.tag)

/-! ### DROP (R10, R45, R173) -/

/-- A RELEASE is needed when the record is OFFERED, CONFIRMED, PROBING or OPEN and its peer is PRESENT (R10). -/
def State.releaseNeeded (r : Circuit) (s : State) : Bool :=
  (r.state == .offered || r.state == .confirmed || r.state.isProbing || r.state.isOpen) &&
    (s.peer r.farSlot).presence == .present

/-- A DROP taken (R10, R45): removal, the RELEASE if needed, the restart of a SENDING roll (R71), the attempt of R94. -/
def State.takeDrop (r : Circuit) (s : State) : State :=
  let s1 := s.removeRecord r
  let s2 := if s.releaseNeeded r then s1.appendRelease r.farSlot r.tag else s1
  (s2.restartRoll r.farSlot).settleChange (removalCause r.state)

def State.doDrop (tag : Nat) (s : State) : CardResult :=
  match s.findTag tag with
  | none => .refuse .notFound []
  | some r =>
    if s.releaseNeeded r && decide (listCapacity ≤ (s.peer r.farSlot).releases.length) then
      .refuse .releaseBacklog (wordBytes r.tag ++ [byteOf r.farSlot])
    else
      .take (s.takeDrop r)
        (wordBytes r.tag ++ [relinkByte r.state, if s.releaseNeeded r then 0x01 else 0x00])

/-! ### REARM (R46, R174) -/

/-- A REARM taken on a CLASHED record (R46): PARKED on PRIMARY with its clash mark cleared as a table edit; its claim is
let go when the peer is up, else it goes at once to DEFERRED. -/
def State.takeRearm (r : Circuit) (s : State) : State :=
  let up := (s.peer r.farSlot).up
  let s1 := s.mapRec r.place (fun x => { x with clashMark := false, clashPending := false, inUse := .primary })
  let s2 := (s1.closeEdit).enter r.place .parked up 0
  if up then (s2.checkSingle r.farSlot).settleChange false
  else (s2.enter r.place .deferred false 0).settleChange (attemptCause .parked .deferred)

def State.doRearm (tag : Nat) (s : State) : CardResult :=
  match s.findTag tag with
  | none => .refuse .notFound []
  | some r =>
    if r.state = .clashed then
      .take (s.takeRearm r)
        (wordBytes r.tag ++ [relinkByte (if (s.peer r.farSlot).up then .parked else .deferred)])
    else .refuse .state (wordBytes r.tag ++ [relinkByte r.state])

/-! ### Reads (R11, R174, R175) -/

def State.doQuery (tag : Nat) (s : State) : CardResult :=
  match s.findTag tag with
  | none => .refuse .notFound []
  | some r => .take s (recordBytes r)

def State.doReadEntry (cls index : Nat) (s : State) : CardResult :=
  if 3 < cls then .refuse .range []
  else
    match (s.classList cls)[index]? with
    | some r => .take s (byteOf (s.classList cls).length :: recordBytes r)
    | none => .refuse .range [byteOf (s.classList cls).length]

def State.doReadPeer (slot : Nat) (s : State) : CardResult :=
  if 23 < slot then .refuse .range [] else .take s (peerBytes slot (s.peer slot))

/-! ### Notices and events (R176, R182, R185) -/

def State.doReadNotices (s : State) : CardResult :=
  let out := s.notices.take 4
  let left := s.notices.drop 4
  .take { s with notices := left } ([byteOf out.length, byteOf left.length] ++ out.flatMap noticeBytes)

/-- READ EVENTS (R176, R182); bits 15 to 12 of the flag word are 0 (log 32). -/
def State.doReadEvents (s : State) : CardResult :=
  .take { s with events := { s.events with flags := 0 } }
    (wordBytes s.events.flags.toNat ++ wordBytes s.events.enableWord.toNat)

def State.doSetEnables (w : BitVec 16) (s : State) : CardResult :=
  let t := { s with events := s.events.setEnables w }
  .take t (wordBytes 0 ++ wordBytes t.events.enableWord.toNat)

/-! ### Pacing (R107 to R109, R177) -/

/-- A SET PACE taken: the reload as a table edit (R108), the mode, and the count that a change to CONTINUOUS starts where
the timer is STOPPED in RELINK or SERVICE (R109). -/
def State.takeSetPace (reload : Nat) (mode : PaceMode) (s : State) : State :=
  let s1 := s.writeSettings { s.store.settings with reload := clampReload reload }
  let s2 := { s1 with seq := { s1.seq with mode := mode } }
  if s.seq.mode = .step ∧ mode = .continuous ∧ s.running = true ∧ s.seq.timer = .stopped then s2.startCount else s2

def State.doSetPace (reload mode : Nat) (s : State) : CardResult :=
  if 1023 < reload ∨ 1 < mode then .refuse .range []
  else
    let t := s.takeSetPace reload (if mode = 1 then .step else .continuous)
    .take t (wordBytes (clampReload reload) ++ [byteOf mode, if t.seq.timer.isRunning then 0x01 else 0x00])

def State.doStep (s : State) : CardResult :=
  match s.seq.mode with
  | .continuous => .refuse .state []
  | .step => if s.seq.timer.isRunning then .take s [0x01] else .take s.startCount [0x00]

/-! ### PURGE and UNMUTE (R178, R179) -/

def State.doPurge (s : State) : CardResult :=
  let t := s.takePurge
  .take t ([t.store.epoch] ++ wordBytes s.records.length)

/-- UNMUTE clears mute, ends retry mode and sets the consecutive retry collisions to 0 (R140). -/
def State.takeUnmute (s : State) : State :=
  State.judgeLamp { s with line := { s.line with muted := false, retry := false, consecutive := 0 } }

/-- UNMUTE (R179); bits 7 to 2 of its response byte are 0 (log 32). -/
def State.doUnmute (s : State) : CardResult :=
  .take s.takeUnmute [byteOf (boolBit s.line.muted 0 + boolBit s.line.retry 1)]

/-! ### A command record taken or refused (R166) -/

/-- Check 5 and the effects of a command, once the station state takes it. -/
def CardCommand.run (c : CardCommand) (s : State) : CardResult :=
  match c with
  | .nop => .silent
  | .status => .take s s.statusBytes
  | .configure c => s.doConfigure c
  | .go => s.doGo
  | .provision f => s.doProvision f
  | .drop tag => s.doDrop tag
  | .rearm tag => s.doRearm tag
  | .query tag => s.doQuery tag
  | .readEntry cls index => s.doReadEntry cls index
  | .readPeer slot => s.doReadPeer slot
  | .readNotices => s.doReadNotices
  | .readEvents => s.doReadEvents
  | .setEnables w => s.doSetEnables w
  | .setPace reload mode => s.doSetPace reload mode
  | .stepPace => s.doStep
  | .purge => s.doPurge
  | .unmute => s.doUnmute

/-- The payload of a refusal by station state: the tag for PROVISION (R173), none for the others (R166; log 13). -/
def CardCommand.gatePayload (c : CardCommand) : List Byte :=
  match c with
  | .provision f => wordBytes f.tag
  | .nop => []
  | .status => []
  | .configure _ => []
  | .go => []
  | .drop _ => []
  | .rearm _ => []
  | .query _ => []
  | .readEntry _ _ => []
  | .readPeer _ => []
  | .readNotices => []
  | .readEvents => []
  | .setEnables _ => []
  | .setPace _ _ => []
  | .stepPace => []
  | .purge => []
  | .unmute => []

/-- Checks 4 and 5 of R166. -/
def CardCommand.judge (c : CardCommand) (s : State) : CardResult :=
  match c.gate s.ctl.st with
  | some r => .refuse r c.gatePayload
  | none => c.run s

/-- Build a response and make it pending; the take number rises (R165, R167). -/
def State.respond (code : Byte) (result : ResultCode) (payload : List Byte) (s : State) : State :=
  let take := s.card.take + 1
  { s with card := { s.card with
    take := take, response := { code := code, take := take, result := result, payload := payload } } }

/-! ### Transfers (R163, R169) -/

/-- The bytes the transfer shifts out: those fixed at its assertion, or, for a transfer that comes whole, the pending
response as it stands (R163; log 16). -/
def CardPort.outgoing (c : CardPort) : List Byte :=
  match c.transfer with
  | .idle => c.response.bytes
  | .opened _ out => out

/-- The bytes received before those the row brings (R163). -/
def CardPort.received (c : CardPort) : List Byte :=
  match c.transfer with
  | .idle => []
  | .opened received _ => received

/-- Chip select is released after `n` bytes: the transfer ends (R163). -/
def State.endTransfer (n : Nat) (s : State) : State :=
  { s with card := { s.card with transfer := .idle, shifted := shiftOut s.card.outgoing n } }

/-- The port takes no part in this transfer: the reset cause persists, or the transfer was discarded (R169). -/
def State.portDead (s : State) : Bool := s.ctl.resetHeld || s.card.discarded

/-- A transfer without effect ends (R169). No byte of it is recorded as shifted out: the data output stays released while the
reset cause persists. DESIGN CHOICE (logs 16 and 34): nor is any byte that it shifted out before the start struck, or that it
clocks once the straps are read. -/
def State.endDead (s : State) : State :=
  { s with card := { s.card with transfer := .idle, discarded := false, shifted := [] } }

/-- Judge a command record and take it or refuse it (R164 to R167). -/
def State.takeCommand (c : CardCommand) (s : State) : State :=
  match c.judge s with
  | .refuse r payload => s.respond c.code r payload
  | .take t payload => t.respond c.code .ok payload
  | .silent => s

/-- A transfer that carries the record of a command and `filler` bytes after it ends (R163, R164). -/
def State.transfer (c : CardCommand) (filler : Nat) (s : State) : State :=
  if s.portDead then s.endDead
  else (s.endTransfer (c.record.length + filler)).takeCommand c

/-- A transfer whose record a check of R166 turns away. A record that no check turns away is no such event (log 3), and a
transfer of no bytes changes nothing (R163). -/
def State.rejectTransfer (bytes : List Byte) (s : State) : State :=
  if s.portDead then s.endDead
  else
    let all := s.card.received ++ bytes
    match judgeRecord all with
    | .empty => s.endTransfer 0
    | .rejected code r => (s.endTransfer all.length).respond code r []
    | .passes c =>
      match c.judge s with
      | .refuse r payload => (s.endTransfer all.length).respond c.code r payload
      | .take _ _ => s
      | .silent => s

/-- Chip select is asserted: a transfer opens and its bytes out are fixed (R163). While the reset cause persists the port
takes no part, and the transfer takes no command (R169). DESIGN CHOICE (log 33): that holds too where chip select is released only after
the straps are read, so the transfer is discarded here. -/
def State.assertSelect (s : State) : State :=
  if s.ctl.resetHeld then { s with card := { s.card with transfer := .idle, discarded := true } }
  else { s with card := { s.card with transfer := .opened [] s.card.response.bytes, discarded := false } }

end Sys2Proof.Machine
end

