-- ==== Sys2Proof/Machine/CardRows.lean ====
section
/-! DEFINITION. Machine/CardRows.lean: the meanings of the card port rows (chapter 9). Every row but a due step first
takes the due steps that wait (log 2). -/

namespace Sys2Proof.Machine

/-- An accepted NOP builds no response: the pending response goes out again (R165). -/
def execNop (filler : Nat) (s : State) : Host.Outcome State Fault Refusal :=
  .next (s.settle.transfer .nop filler)

/-- STATUS reports the items of R170 as they stand at the take. -/
def execStatus (filler : Nat) (s : State) : Host.Outcome State Fault Refusal :=
  .next (s.settle.transfer .status filler)

/-- CONFIGURE checks and writes the configuration in SETUP (R171). -/
def execConfigure (filler : Nat) (c : Settings) (s : State) : Host.Outcome State Fault Refusal :=
  .next (s.settle.transfer (.configure c) filler)

/-- GO moves the station from SETUP to RELINK (R154, R172). -/
def execGo (filler : Nat) (s : State) : Host.Outcome State Fault Refusal :=
  .next (s.settle.transfer .go filler)

/-- PROVISION checks a new record and enters it (R6 to R8, R173). -/
def execProvision (filler : Nat) (f : ProvisionFields) (s : State) : Host.Outcome State Fault Refusal :=
  .next (s.settle.transfer (.provision f) filler)

/-- DROP removes the record with a tag (R10, R45, R173). -/
def execDrop (filler : Nat) (tag : Nat) (s : State) : Host.Outcome State Fault Refusal :=
  .next (s.settle.transfer (.drop tag) filler)

/-- REARM takes a CLASHED record up again (R46, R174). -/
def execRearm (filler : Nat) (tag : Nat) (s : State) : Host.Outcome State Fault Refusal :=
  .next (s.settle.transfer (.rearm tag) filler)

/-- QUERY returns the record with a tag (R11, R174). -/
def execQuery (filler : Nat) (tag : Nat) (s : State) : Host.Outcome State Fault Refusal :=
  .next (s.settle.transfer (.query tag) filler)

/-- READ ENTRY returns an entry of a class list (R11, R175). -/
def execReadEntry (filler : Nat) (cls index : Nat) (s : State) : Host.Outcome State Fault Refusal :=
  .next (s.settle.transfer (.readEntry cls index) filler)

/-- READ PEER returns a peer record (R51, R175). -/
def execReadPeer (filler : Nat) (slot : Nat) (s : State) : Host.Outcome State Fault Refusal :=
  .next (s.settle.transfer (.readPeer slot) filler)

/-- READ NOTICES removes and returns up to 4 notices (R176, R185). -/
def execReadNotices (filler : Nat) (s : State) : Host.Outcome State Fault Refusal :=
  .next (s.settle.transfer .readNotices filler)

/-- READ EVENTS returns the flags and clears those it returned set (R176, R182). -/
def execReadEvents (filler : Nat) (s : State) : Host.Outcome State Fault Refusal :=
  .next (s.settle.transfer .readEvents filler)

/-- SET ENABLES writes the thirteen enables (R176, R182). -/
def execSetEnables (filler : Nat) (w : BitVec 16) (s : State) : Host.Outcome State Fault Refusal :=
  .next (s.settle.transfer (.setEnables w) filler)

/-- SET PACE writes the pace reload and the pace mode (R108, R109, R177). -/
def execSetPace (filler : Nat) (reload mode : Nat) (s : State) : Host.Outcome State Fault Refusal :=
  .next (s.settle.transfer (.setPace reload mode) filler)

/-- STEP starts one pace count in STEP mode (R107, R177). -/
def execStepPace (filler : Nat) (s : State) : Host.Outcome State Fault Refusal :=
  .next (s.settle.transfer .stepPace filler)

/-- PURGE brings the controller to the cold condition (R161, R178). -/
def execPurge (filler : Nat) (s : State) : Host.Outcome State Fault Refusal :=
  .next (s.settle.transfer .purge filler)

/-- UNMUTE clears mute and retry mode (R140, R179). -/
def execUnmute (filler : Nat) (s : State) : Host.Outcome State Fault Refusal :=
  .next (s.settle.transfer .unmute filler)

/-- A record that a check of R166 turns away changes only the pending response and the take number. -/
def execRejectedRecord (bytes : List Byte) (s : State) : Host.Outcome State Fault Refusal :=
  .next (s.settle.rejectTransfer bytes)

/-- Chip select opens a transfer and fixes the bytes it shifts out (R163). -/
def execChipSelectAsserted (s : State) : Host.Outcome State Fault Refusal :=
  .next s.settle.assertSelect

end Sys2Proof.Machine
end

