-- ==== Sys2Proof/Machine/LineOps.lean ====
section
/-! DEFINITION. Machine/LineOps.lean: shelf line access and reception (chapter 7): positions, the building of a frame,
a frame sent whole, collisions, the conversion of want marks, and the handing on of a received frame. -/

namespace Sys2Proof.Machine

/-! ### Positions (R132, R135, R136) -/

/-- The distance of the station: (own slot − last sender − 1) mod shelf size (R136). The term `32 × size` keeps the
subtraction above 0, as 0.6 has it. -/
def State.distance (s : State) : Nat :=
  (s.ctl.slot + 32 * s.ctl.size - (s.line.lastSender + 1)) % s.ctl.size

/-- A position in the counting of R135 is one of the station's (R136): its RETRY position in retry mode, else its NORMAL
position and, when escalated, its URGENT one. The counting begins again after 3 × size positions. -/
def State.ownPosition (pos : Nat) (s : State) : Bool :=
  let n := pos % (3 * s.ctl.size)
  if s.line.retry then n == 2 * s.ctl.size + s.ctl.slot
  else n == s.ctl.size + s.distance || (s.line.escalated && n == s.distance)

/-- The station is eligible to take a position (R132). -/
def State.eligible (s : State) : Bool :=
  (announcedOf s.ctl.st).isSome && !s.line.muted && !s.line.queue.isEmpty

/-! ### Building (R133, and the table of 7.2) -/

/-- A claim built from its record (R72). -/
def Circuit.claim (r : Circuit) : Claim :=
  { tag := r.tag, claimerPort := r.localPort, lane := r.lane, addresseePort := r.farPort }

/-- The records a roll OFFER towards p carries: the roll-marked ones in class order, up to 8 (R70). -/
def State.rollOfferSet (p : Nat) (s : State) : List Circuit := ((s.towards p).filter Circuit.rollMark).take 8

/-- The records a single OFFER towards p carries: those waiting for a single claim, up to 8 (R74). -/
def State.singleOfferSet (p : Nat) (s : State) : List Circuit := ((s.towards p).filter Circuit.waiting).take 8

/-- The roll set: every record towards p except CLASHED ones, in class order (R68). -/
def State.rollSet (p : Nat) (s : State) : List Circuit := (s.towards p).filter (fun r => r.state != .clashed)

/-- The request has nothing to carry (the table of 7.2). -/
def State.nothingToCarry (req : Request) (s : State) : Bool :=
  match req with
  | .beacon => false
  | .roll p => !s.releasable p
  | .rollOffer p => (s.rollOfferSet p).isEmpty
  | .singleOffer p => !(s.peer p).up || (s.singleOfferSet p).isEmpty
  | .answer p => (s.peer p).verdicts.isEmpty
  | .release p => (s.peer p).releases.isEmpty

/-- What the removal of a request with nothing to carry changes: a roll OFFER ends a roll that is SENDING (R70). -/
def State.passedOver (req : Request) (s : State) : State :=
  match req with
  | .rollOffer p => if (s.peer p).rollOut = .sending then (s.setRollOut p .none).judgeEnd else s
  | .beacon => s
  | .roll _ => s
  | .singleOffer _ => s
  | .answer _ => s
  | .release _ => s

/-- Start sending a frame (R133): header from the station as it stands, the given payload, and what its end will need. -/
def State.launch (req : Request) (kind : Byte) (dst : Nat) (payload : List Byte) (carried : List Nat) (items : Nat)
    (s : State) : State :=
  let bytes := frameBytes kind s.ctl.slot dst s.store.epoch ((announcedOf s.ctl.st).getD .setup) payload
  let f : InFlight := { req := req, queued := true, carried := carried, items := items, bytes := bytes }
  { s with line := { s.line with out := .sending f } }

/-- Build the frame of the head request, which has something to carry, and start it (R63, R68, R70, R74, R84, R88). -/
def State.build (req : Request) (s : State) : State :=
  match req with
  | .beacon => s.launch req kindBeacon 31 [byteOf s.ctl.size] [] 0
  | .roll p =>
    let n := (s.rollSet p).length
    let s1 := s.mapTowards p (fun r => if r.state = .clashed then r else { r with rollMark := true })
    (s1.setRollOut p .sending).launch req kindRoll p (wordBytes n) [] 0
  | .rollOffer p =>
    let rs := s.rollOfferSet p
    s.launch req kindOffer p (offerPayload true (rs.map Circuit.claim)) (rs.map Circuit.place) 0
  | .singleOffer p =>
    let rs := s.singleOfferSet p
    s.launch req kindOffer p (offerPayload false (rs.map Circuit.claim)) (rs.map Circuit.place) 0
  | .answer p =>
    let vs := (s.peer p).verdicts.take 8
    s.launch req kindAnswer p (answerPayload vs) [] vs.length
  | .release p =>
    let ts := (s.peer p).releases.take 8
    s.launch req kindRelease p (releasePayload ts) [] ts.length

/-! ### Want marks (R130) -/

/-- The requests that want marks can stand for, in the order of their conversion (R130). -/
def State.wantOrder (s : State) : List Request :=
  .beacon :: s.slotOrder.flatMap (fun p => [.roll p, .rollOffer p, .singleOffer p, .answer p, .release p])

/-- Convert one want mark, if it is set and the queue has room (R130). -/
def State.convertWant (req : Request) (s : State) : State :=
  if s.line.queue.length < queueCapacity && s.wanted req then (s.setWant req false).request req else s

/-- The conversion of want marks (R130). -/
def State.convertWants (s : State) : State := s.each s.wantOrder State.convertWant

/-! ### A position taken (R133) -/

/-- The turns of one position: requests with nothing to carry are removed until one yields a frame; when the queue is
empty the position passes and the conversion follows (R133, R130). -/
def State.takeTurns : Nat → State → State
  | 0, s => s
  | n + 1, s =>
    match s.line.queue with
    | [] => State.convertWants { s with line := { s.line with out := .released } }
    | req :: rest =>
      if s.nothingToCarry req then State.takeTurns n ((s.setQueue rest).passedOver req) else s.build req

/-- A position of the counting comes (R133): the station takes it when it is its own, it is eligible, and it is not
sending. Each turn removes a request, and at most one BEACON can join on the way (R156). -/
def State.takePosition (pos : Nat) (s : State) : State :=
  if s.line.flying.isNone && s.ownPosition pos && s.eligible then s.takeTurns (s.line.queue.length + 2) else s

/-! ### A frame sent whole (R134) -/

/-- The claims of an OFFER count as sent (R27), where claims act on records (R23). -/
def State.claimsSent (roll : Bool) (places : List Nat) (s : State) : State :=
  if s.running then s.each places (State.claimSent roll) else s

/-- The effects the rule of each kind places at a frame sent whole (R69, R70, R74, R84, R88). -/
def State.sentEffects (f : InFlight) (s : State) : State :=
  match f.req with
  | .beacon => s
  | .roll p =>
    match (s.peer p).rollOut with
    | .sending =>
      if (s.towards p).any Circuit.rollMark then s.request (.rollOffer p) else (s.setRollOut p .none).judgeEnd
    | .owed => s.pass p
    | .none => s
  | .rollOffer p =>
    let s1 := s.claimsSent true f.carried
    if (s1.peer p).rollOut = .sending then
      if (s1.towards p).any Circuit.rollMark then s1.request (.rollOffer p) else (s1.setRollOut p .none).judgeEnd
    else s1
  | .singleOffer p => (s.claimsSent false f.carried).checkSingle p
  | .answer p =>
    let s1 := s.updPeer p (fun x => { x with verdicts := x.verdicts.drop f.items })
    if (s1.peer p).verdicts.isEmpty then s1 else s1.request (.answer p)
  | .release p =>
    let s1 := s.updPeer p (fun x => { x with releases := x.releases.drop f.items })
    if (s1.peer p).releases.isEmpty then s1 else s1.request (.release p)

/-- The own frame went out whole (R134): its request leaves the queue, its effects are taken, the last sender becomes the
own slot, retry mode ends, and the conversion and the release pass follow (R130, R67). -/
def State.sentWhole (f : InFlight) (s : State) : State :=
  let s0 := { s with line := { s.line with out := .released } }
  let s1 := (if f.queued then s0.setQueue (s0.line.queue.drop 1) else s0).sentEffects f
  let s2 := { s1 with line := { s1.line with lastSender := s1.ctl.slot, retry := false, consecutive := 0 } }
  s2.convertWants.passAll

/-- A frame sent whole, where one is on the line. -/
def State.takeSentWhole (s : State) : State :=
  match s.line.flying with
  | none => s
  | some f => s.sentWhole f

/-! ### Collisions (R138, R139) -/

/-- Retry mode and mute at a collision (R138, R139). -/
def LineCtl.collide (l : LineCtl) : LineCtl :=
  if l.retry then
    { l with collisions := satSucc 255 l.collisions, consecutive := satSucc 2 l.consecutive,
             muted := l.muted || decide (2 ≤ l.consecutive + 1) }
  else { l with collisions := satSucc 255 l.collisions, retry := true, consecutive := 0 }

/-- A mismatch while the station sends (R138): the frame is aborted with a jam, the collision counted, retry mode entered
or advanced; a station newly muted raises SLOT_CONFLICT (R139). -/
def State.takeCollision (s : State) : State :=
  if s.line.flying.isSome then
    let s1 := State.jamFrame { s with line := s.line.collide }
    (s1.raiseIf (s.line.retry && decide (2 ≤ s.line.consecutive + 1)) .slotConflict).judgeLamp
  else s

/-! ### Reception (R142, R143) -/

/-- A ROLL, OFFER, ANSWER or RELEASE handed on in a station state that takes it: a payload that does not fit is a line
error (R82), and one from a source that is not addressable is not acted on (R80). -/
def State.actOn {α : Type} (src : Nat) (read : Option α) (act : α → State → State) (s : State) : State :=
  match read with
  | none => s.lineError
  | some x => if s.addressable src then act x s else s

/-- The handing on of a good frame (R143), after its header has been taken. -/
def State.handOn (kind : Byte) (f : LineFrame) (s : State) : State :=
  if f.dst ≠ s.ctl.slot ∧ f.dst ≠ 31 then s
  else if kind = kindBeacon then
    if f.payload = [byteOf s.ctl.size] then s else s.lineError
  else if kind ≠ kindRoll ∧ kind ≠ kindOffer ∧ kind ≠ kindAnswer ∧ kind ≠ kindRelease then s.lineError
  else if f.dst = 31 then s.lineError
  else if kind = kindOffer then
    if s.running ∨ s.ctl.st = .setup then
      s.actOn f.src (readOffer f.payload) (fun x s => s.takeOffer f.src x.1 x.2)
    else s
  else if s.running then
    if kind = kindRoll then s.actOn f.src (readRoll f.payload) (fun n s => s.takeRoll f.src n)
    else if kind = kindAnswer then
      s.actOn f.src (readAnswer f.payload) (fun vs s => s.each vs (State.takeVerdict f.src))
    else s.actOn f.src (readRelease f.payload) (fun ts s => s.each ts (State.takeRelease f.src))
  else s

/-- A good frame (R142): the last sender (R137), the header (R53), the payload (R143). While the reset cause persists no
frame is received (R149). -/
def State.receive (kind : Byte) (f : LineFrame) (s : State) : State :=
  if s.ctl.resetHeld then s
  else
    let s1 := { s with line := { s.line with lastSender := f.src } }
    (s1.heard f.src f.epoch f.st).handOn kind f

end Sys2Proof.Machine
end

