-- ==== Sys2Proof/Machine/LineRows.lean ====
section
/-! DEFINITION. Machine/LineRows.lean: the meanings of the shelf line rows (chapters 3, 4 and 7). Every row but a due
step first takes the due steps that wait (log 2). -/

namespace Sys2Proof.Machine

/-- An access position comes (R133). -/
def execLinePosition (pos : Nat) (s : State) : Host.Outcome State Fault Refusal :=
  .next (s.settle.takePosition pos)

/-- The last CRC bit of the own frame is sent without a mismatch (R134). -/
def execFrameSentWhole (s : State) : Host.Outcome State Fault Refusal :=
  .next s.settle.takeSentWhole

/-- A read-back mismatch while the station sends (R138, R139). -/
def execCollision (s : State) : Host.Outcome State Fault Refusal :=
  .next s.settle.takeCollision

/-- A good BEACON: heard, and its shelf size checked (R64). -/
def execBeaconReceived (f : LineFrame) (s : State) : Host.Outcome State Fault Refusal :=
  .next (s.settle.receive kindBeacon f)

/-- A good ROLL (R76). -/
def execRollReceived (f : LineFrame) (s : State) : Host.Outcome State Fault Refusal :=
  .next (s.settle.receive kindRoll f)

/-- A good OFFER (R80, R81). -/
def execOfferReceived (f : LineFrame) (s : State) : Host.Outcome State Fault Refusal :=
  .next (s.settle.receive kindOffer f)

/-- A good ANSWER (R85). -/
def execAnswerReceived (f : LineFrame) (s : State) : Host.Outcome State Fault Refusal :=
  .next (s.settle.receive kindAnswer f)

/-- A good RELEASE (R89, R44). -/
def execReleaseReceived (f : LineFrame) (s : State) : Host.Outcome State Fault Refusal :=
  .next (s.settle.receive kindRelease f)

/-- A good frame that is misaddressed or of unknown kind (R143). -/
def execOtherFrameReceived (kind : Byte) (f : LineFrame) (s : State) : Host.Outcome State Fault Refusal :=
  .next (s.settle.receive kind f)

/-- A frame that is cut off, or whose end or CRC is wrong, counts a line error (R142). Bytes that make up a good frame are
no such event (log 3). -/
def State.receiveBad (raw : List Byte) (cutOff : Bool) (s : State) : State :=
  if s.ctl.resetHeld then s
  else if cutOff || !frameGood raw then s.lineError
  else s

/-- A bad frame (R142). -/
def execBadFrameReceived (raw : List Byte) (cutOff : Bool) (s : State) : Host.Outcome State Fault Refusal :=
  .next (s.settle.receiveBad raw cutOff)

/-- A jam: the frame being received is dropped and nothing is counted (R142). Its bits are the environment's (log 15). -/
def execJamReceived (s : State) : Host.Outcome State Fault Refusal :=
  .next s.settle

end Sys2Proof.Machine
end

