-- ==== Sys2Proof/Machine/StationRows.lean ====
section
/-! DEFINITION. Machine/StationRows.lean: the meanings of the start and supply rows (chapter 8) and of KEEP_ALIVE_CLEAR
(R16). Every row but a due step first takes the due steps that wait (log 2). -/

namespace Sys2Proof.Machine

/-- Power-up, a brownout reset or the RESET pin enters STARTING, alike for the three causes (R149). -/
def execStart (_cause : StartCause) (cut : EditCut) (s : State) : Host.Outcome State Fault Refusal :=
  .next (s.settle.enterStarting cut)

/-- The reset cause ends and the straps are read (R150, R151). -/
def execStrapRead (slotPins sizePins : Nat) (s : State) : Host.Outcome State Fault Refusal :=
  .next (s.settle.readStraps slotPins sizePins)

/-- Due step: the start ends warm (R152). -/
def execWarmStart (s : State) : Host.Outcome State Fault Refusal := .next s.takeWarm

/-- Due step: the start ends cold (R153). -/
def execColdStart (s : State) : Host.Outcome State Fault Refusal := .next s.takeCold

/-- Clear the keep-alive mark (R16). -/
def State.clearKeepAlive (s : State) : State := { s with store := { s.store with keepAlive := false } }

/-- The hold-up supply falls below the retention level (R16). -/
def execKeepAliveClear (s : State) : Host.Outcome State Fault Refusal := .next s.settle.clearKeepAlive

/-- A Supply Monitor result (R145 to R148, R158, R160). -/
def execConversionResult (millivolts : Nat) (s : State) : Host.Outcome State Fault Refusal :=
  .next (s.settle.convert millivolts)

end Sys2Proof.Machine
end

