-- ==== Sys2Proof/Machine/TimerRows.lean ====
section
/-! DEFINITION. Machine/TimerRows.lean: the meanings of the rows of the sweep (chapter 3), of the pace timer (chapter 5),
of the highway (chapter 6) and of the lamp (chapter 10), and the millisecond that passes on an empty queue (log 1). Every
row but a due step first takes the due steps that wait (log 2). -/

namespace Sys2Proof.Machine

/-! ### Sweep (chapter 3) -/

/-- A sweep event (R50). -/
def execSweep (s : State) : Host.Outcome State Fault Refusal := .next s.settle.takeSweep

/-- Due step: a peer goes SILENT (R54, R55, R42). -/
def execPeerSilent (slot : Nat) (s : State) : Host.Outcome State Fault Refusal := .next (s.takeSilence slot)

/-- Due step: the beacon count reached 4 (R61). -/
def execBeaconDue (s : State) : Host.Outcome State Fault Refusal := .next s.takeBeacon

/-- CLAIM_RESEND by tag (R28). -/
def State.resendTag (tag : Nat) (s : State) : State :=
  match s.findTag tag with
  | none => s
  | some r => s.takeResend r.place

/-- Due step: an OFFERED record reached 6 sweeps since send (R28). -/
def execClaimResend (tag : Nat) (s : State) : Host.Outcome State Fault Refusal := .next (s.resendTag tag)

/-- Due step: a roll-in channel reached a gap count of 3 (R79). -/
def execRollAbandon (slot : Nat) (s : State) : Host.Outcome State Fault Refusal := .next (s.takeAbandon slot)

/-- Due step: the listen count reached 8 (R155). -/
def execListenIntervalEnd (s : State) : Host.Outcome State Fault Refusal := .next s.takeListenEnd

/-! ### Pace timer (chapter 5) -/

/-- A pace expiry in a running station whose timer is RUNNING: the grant, the timer by the pace mode, an attempt (R104,
R106, R107, R94). -/
def State.expirePace (s : State) : State :=
  if s.running && s.seq.timer.isRunning then
    let s1 := s.credit s.grant
    let s2 :=
      match s1.seq.mode with
      | .continuous => s1.startCount
      | .step => s1.stopTimer
    s2.settleChange true
  else s

/-- A pace expiry (R104). -/
def execPaceExpiry (s : State) : Host.Outcome State Fault Refusal := .next s.settle.expirePace

/-! ### Highway (chapter 6) -/

/-- Due step: a probe window has ended (R116, R36, R38). -/
def execProbeCompletion (s : State) : Host.Outcome State Fault Refusal := .next s.takeCompletion

/-- Due step: the run of a gate reached 3 (R122, R39). -/
def execEchoFault (s : State) : Host.Outcome State Fault Refusal := .next s.takeEcho

/-- One highway frame (R113, R116, R119, R121). -/
def execHighwayFrame (h : HighwayInput) (s : State) : Host.Outcome State Fault Refusal :=
  .next (s.settle.highwayFrame h)

/-! ### Lamp (chapter 10) -/

/-- A new lamp period (R186, R187). -/
def execLampPeriod (s : State) : Host.Outcome State Fault Refusal := .next s.settle.newLampPeriod

/-! ### One millisecond (R49, R105, R186) -/

/-- The lamp in one millisecond: its position, or a new period at the end of this one (R186, R187). -/
def State.tickLamp (s : State) : State :=
  match s.lamp.mode.period with
  | none => s
  | some n =>
    if s.lamp.position + 1 < n then { s with lamp := { s.lamp with position := s.lamp.position + 1 } }
    else s.newLampPeriod

/-- The pace timer in one millisecond; at zero it expires (R104, R105). -/
def State.tickPace (s : State) : State :=
  match s.seq.timer with
  | .stopped => s
  | .running n =>
    if n ≤ 1 then s.expirePace else { s with seq := { s.seq with timer := .running (n - 1) } }

/-- The sweep clock in one millisecond; at zero it raises a sweep event (R49). -/
def State.tickSweep (s : State) : State :=
  match s.sweep.remaining with
  | none => s
  | some n => if n ≤ 1 then s.takeSweep else { s with sweep := { s.sweep with remaining := some (n - 1) } }

/-- One millisecond of the controller's own clocks, after the due steps that wait (DESIGN CHOICE, log 1, log 24). -/
def State.tick (s : State) : State := s.settle.tickLamp.tickPace.tickSweep

end Sys2Proof.Machine
end

