-- ==== Sys2Proof/Machine/Dispatch.lean ====
section
/-! DEFINITION. Machine/Dispatch.lean: one arm per row of the table. -/

namespace Sys2Proof.Machine

def exec (i : Instr) (s : State) : Host.Outcome State Fault Refusal :=
  match i with
  | .nop filler => Sys2Proof.Machine.execNop filler s
  | .status filler => Sys2Proof.Machine.execStatus filler s
  | .configure filler c => Sys2Proof.Machine.execConfigure filler c s
  | .go filler => Sys2Proof.Machine.execGo filler s
  | .provision filler f => Sys2Proof.Machine.execProvision filler f s
  | .drop filler tag => Sys2Proof.Machine.execDrop filler tag s
  | .rearm filler tag => Sys2Proof.Machine.execRearm filler tag s
  | .query filler tag => Sys2Proof.Machine.execQuery filler tag s
  | .readEntry filler cls index => Sys2Proof.Machine.execReadEntry filler cls index s
  | .readPeer filler slot => Sys2Proof.Machine.execReadPeer filler slot s
  | .readNotices filler => Sys2Proof.Machine.execReadNotices filler s
  | .readEvents filler => Sys2Proof.Machine.execReadEvents filler s
  | .setEnables filler w => Sys2Proof.Machine.execSetEnables filler w s
  | .setPace filler reload mode => Sys2Proof.Machine.execSetPace filler reload mode s
  | .stepPace filler => Sys2Proof.Machine.execStepPace filler s
  | .purge filler => Sys2Proof.Machine.execPurge filler s
  | .unmute filler => Sys2Proof.Machine.execUnmute filler s
  | .rejectedRecord bytes => Sys2Proof.Machine.execRejectedRecord bytes s
  | .start cause cut => Sys2Proof.Machine.execStart cause cut s
  | .strapRead slotPins sizePins => Sys2Proof.Machine.execStrapRead slotPins sizePins s
  | .warmStart => Sys2Proof.Machine.execWarmStart s
  | .coldStart => Sys2Proof.Machine.execColdStart s
  | .keepAliveClear => Sys2Proof.Machine.execKeepAliveClear s
  | .conversionResult millivolts => Sys2Proof.Machine.execConversionResult millivolts s
  | .sweep => Sys2Proof.Machine.execSweep s
  | .peerSilent slot => Sys2Proof.Machine.execPeerSilent slot s
  | .beaconDue => Sys2Proof.Machine.execBeaconDue s
  | .claimResend tag => Sys2Proof.Machine.execClaimResend tag s
  | .rollAbandon slot => Sys2Proof.Machine.execRollAbandon slot s
  | .listenIntervalEnd => Sys2Proof.Machine.execListenIntervalEnd s
  | .paceExpiry => Sys2Proof.Machine.execPaceExpiry s
  | .probeCompletion => Sys2Proof.Machine.execProbeCompletion s
  | .echoFault => Sys2Proof.Machine.execEchoFault s
  | .linePosition pos => Sys2Proof.Machine.execLinePosition pos s
  | .frameSentWhole => Sys2Proof.Machine.execFrameSentWhole s
  | .collision => Sys2Proof.Machine.execCollision s
  | .beaconReceived f => Sys2Proof.Machine.execBeaconReceived f s
  | .rollReceived f => Sys2Proof.Machine.execRollReceived f s
  | .offerReceived f => Sys2Proof.Machine.execOfferReceived f s
  | .answerReceived f => Sys2Proof.Machine.execAnswerReceived f s
  | .releaseReceived f => Sys2Proof.Machine.execReleaseReceived f s
  | .otherFrameReceived kind f => Sys2Proof.Machine.execOtherFrameReceived kind f s
  | .badFrameReceived raw cutOff => Sys2Proof.Machine.execBadFrameReceived raw cutOff s
  | .jamReceived => Sys2Proof.Machine.execJamReceived s
  | .lampPeriod => Sys2Proof.Machine.execLampPeriod s
  | .highwayFrame h => Sys2Proof.Machine.execHighwayFrame h s
  | .chipSelectAsserted => Sys2Proof.Machine.execChipSelectAsserted s

end Sys2Proof.Machine
end

