-- ==== Sys2Proof/WellFormed.lean ====
section
/-! DEFINITION. WellFormed.lean: which commands can be sent at all: every operand fits the field that carries it
(chapter 11, 0.7). A command that fits but holds a value out of the range a rule gives is well formed: its rule says
how it is refused. -/

namespace Sys2Proof

/-- A number that one byte carries. -/
def fitsByte (n : Nat) : Bool := n < 256

/-- A number that two bytes carry. -/
def fitsWord (n : Nat) : Bool := n < 65536

/-- The fields of CONFIGURE fit their bytes (R190). -/
def Settings.wf (c : Settings) : Bool :=
  fitsByte c.period && fitsByte c.floor && fitsByte c.warn && fitsByte c.slope && fitsByte c.burst && fitsWord c.reload

/-- The fields of PROVISION fit their bytes (R190). -/
def ProvisionFields.wf (f : ProvisionFields) : Bool :=
  fitsWord f.tag && fitsByte f.localPort && fitsByte f.farSlot && fitsByte f.farPort && fitsWord f.primary &&
    fitsByte f.standbyInd && fitsWord f.standbyLane && fitsByte f.cls && fitsByte f.weight

/-- The slots fit five bits and the payload is at most 48 bytes (R127, R188). -/
def LineFrame.wf (f : LineFrame) : Bool :=
  decide (f.src < 32) && decide (f.dst < 32) && decide (f.payload.length ≤ 48)

/-- Lanes and local ports of a highway frame exist (0.8, R113), and each half and each port is given one sample. -/
def HighwayInput.wf (h : HighwayInput) : Bool :=
  h.carried.all (fun x => decide (x.lane < 1024)) && h.sent.all (fun x => decide (x.port < 64)) &&
    decide ((h.carried.map (fun x => (x.lane, x.half))).Nodup) && decide ((h.sent.map PortSample.port).Nodup)

/-- The command can be sent: every operand fits its field. -/
def Instr.wf : Instr → Bool
  | .nop _ => true
  | .status _ => true
  | .configure _ c => c.wf
  | .go _ => true
  | .provision _ f => f.wf
  | .drop _ tag => fitsWord tag
  | .rearm _ tag => fitsWord tag
  | .query _ tag => fitsWord tag
  | .readEntry _ cls index => fitsByte cls && fitsByte index
  | .readPeer _ slot => fitsByte slot
  | .readNotices _ => true
  | .readEvents _ => true
  | .setEnables _ _ => true
  | .setPace _ reload mode => fitsWord reload && fitsByte mode
  | .stepPace _ => true
  | .purge _ => true
  | .unmute _ => true
  | .rejectedRecord _ => true
  | .start _ _ => true
  | .strapRead slotPins sizePins => decide (slotPins < 32) && decide (sizePins < 4)
  | .warmStart => true
  | .coldStart => true
  | .keepAliveClear => true
  | .conversionResult _ => true
  | .sweep => true
  | .peerSilent slot => decide (slot < 24)
  | .beaconDue => true
  | .claimResend tag => fitsWord tag
  | .rollAbandon slot => decide (slot < 24)
  | .listenIntervalEnd => true
  | .paceExpiry => true
  | .probeCompletion => true
  | .echoFault => true
  | .linePosition _ => true
  | .frameSentWhole => true
  | .collision => true
  | .beaconReceived f => f.wf
  | .rollReceived f => f.wf
  | .offerReceived f => f.wf
  | .answerReceived f => f.wf
  | .releaseReceived f => f.wf
  | .otherFrameReceived _ f => f.wf
  | .badFrameReceived _ _ => true
  | .jamReceived => true
  | .lampPeriod => true
  | .highwayFrame h => h.wf
  | .chipSelectAsserted => true

end Sys2Proof
end

