-- ==== Sys2Proof/Safety.lean ====
section
/-! DEFINITION. Safety.lean: what a safe state is, in the limits and the agreements that the rules lay down for the
whole controller, and the words the statements are made of. -/

namespace Sys2Proof.Machine

/-! ### The limits of each block -/

/-- The lane values a record holds: one, or two with a standby lane (R1). -/
def Circuit.lanes (r : Circuit) : List Nat := r.primary :: r.standby.toList

/-- One record within its ranges (R1, R3): a record without a standby lane keeps in-use lane PRIMARY. -/
abbrev Circuit.inRange (r : Circuit) : Prop :=
  r.place < 64 ∧ (1 ≤ r.tag ∧ r.tag ≤ 65535) ∧ r.localPort ≤ 63 ∧ r.farPort ≤ 63 ∧ (∀ l ∈ r.lanes, l ≤ 1023) ∧
    r.cls ≤ 3 ∧ (1 ≤ r.weight ∧ r.weight ≤ 7) ∧ r.sendCount ≤ 4 ∧ r.sweepsSinceSend ≤ 6 ∧
    (r.inUse = .standby → r.standby.isSome)

/-- The Circuit Table: at most 64 records, no two with one tag, one local port, one place or one lane value (R2, R4). -/
abbrev State.tableOk (s : State) : Prop :=
  s.records.length ≤ 64 ∧ (s.records.map (·.tag)).Nodup ∧ (s.records.map (·.localPort)).Nodup ∧
    (s.records.map (·.place)).Nodup ∧ (s.records.flatMap Circuit.lanes).Nodup ∧ ∀ r ∈ s.records, r.inRange

/-- The Outbound Queue: at most 24 requests, never two alike (R128). -/
abbrev State.queueOk (s : State) : Prop := s.line.queue.length ≤ 24 ∧ s.line.queue.Nodup

/-- The counts of the Line Controller that saturate (R86, R139, R144). -/
abbrev LineCtl.countsOk (l : LineCtl) : Prop :=
  l.collisions ≤ 255 ∧ l.errors ≤ 255 ∧ l.stale ≤ 255 ∧ l.consecutive ≤ 2

/-- A RECEIVING channel within its ranges: a roll declares at most 64 claims, is complete as soon as it has received them
all, and is abandoned at a gap count of 3 (R51, R75, R77 to R79). -/
def Channel.inRange : Channel → Bool
  | .idle => true
  | .receiving declared received gap => decide (declared ≤ 64) && decide (received < declared) && decide (gap ≤ 3)

/-- One peer record within its ranges (R51, R65, R75). -/
abbrev Peer.inRange (x : Peer) : Prop :=
  x.sinceHeard ≤ 12 ∧ x.verdicts.length ≤ 16 ∧ x.releases.length ≤ 16 ∧ x.overrun ≤ 255 ∧ x.channel.inRange = true

/-- The Peer Table: 24 records, each within its ranges (R51). -/
abbrev State.peersOk (s : State) : Prop := s.peers.length = 24 ∧ ∀ x ∈ s.peers, x.inRange

/-- The Notice Queue: at most 32 notices (R184). -/
abbrev State.noticesOk (s : State) : Prop := s.notices.length ≤ 32

/-- The Supply Monitor and the listen count within their ranges (R145 to R147, R155). -/
abbrev State.supplyOk (s : State) : Prop :=
  s.supply.sample ≤ 255 ∧ s.supply.warnRun ≤ 2 ∧ s.supply.recoverRun ≤ 4 ∧ s.ctl.listenCount ≤ 8

/-! ### Agreements between the blocks -/

/-- The allowance stays within its cap; it is 0, and no record is PROBING, wherever the station cannot open circuits from
a fresh table; no record is PROBING in QUIESCE (R22, R47, R95, R97). -/
abbrev State.paceOk (s : State) : Prop :=
  s.seq.allowance ≤ s.cap ∧
    (s.ctl.st = .starting ∨ s.ctl.st = .strapFault ∨ s.ctl.st = .setup ∨
        (s.ctl.st = .quiesce ∧ s.ctl.ret = some .setup) → s.seq.allowance = 0) ∧
    (s.running = false → ∀ r ∈ s.records, r.state.isProbing = false)

/-- The HELD probe slots are the slots of the PROBING records: different slots 0 to 3, one record each (R114). -/
abbrev State.probesOk (s : State) : Prop :=
  (s.hw.probes.map (·.slot)).Nodup ∧ (s.hw.probes.map (·.place)).Nodup ∧ (∀ p ∈ s.hw.probes, p.slot < 4) ∧
    (∀ p ∈ s.hw.probes, ∃ r ∈ s.records, r.place = p.place ∧ r.state = .probing p.slot) ∧
    (∀ r ∈ s.records, ∀ k, r.state = .probing k → ∃ p ∈ s.hw.probes, p.place = r.place ∧ p.slot = k)

/-- The record of a slot that is not addressable stays at its start values (R51), and before the straps are read every
record is at them (R52). -/
abbrev State.absentOk (s : State) : Prop :=
  ∀ p, (s.ctl.resetHeld = true ∨ s.addressable p = false) → s.peer p = Peer.start

/-- No record carries a scope mark towards a peer whose channel is IDLE (R75), on a shelf of at most 24 slots (0.7). -/
abbrev State.scopeOk (s : State) : Prop :=
  s.ctl.size ≤ 24 ∧ ∀ r ∈ s.records, r.scopeMark = true → (s.peer r.farSlot).channel ≠ .idle

/-- The reset cause persists in STARTING alone (R149), and once the straps are read the own slot is below the shelf size in
every station state but STRAP FAULT (R150). -/
abbrev State.slotOk (s : State) : Prop :=
  (s.ctl.resetHeld = true → s.ctl.st = .starting) ∧
    (s.ctl.resetHeld = false → s.ctl.st ≠ .strapFault → s.ctl.slot < s.ctl.size)

/-- In SETUP, and in a QUIESCE that returns to it, every record is PARKED (R22), or DEFERRED where the free value of log 29
lets a peer's silence or cold restart defer it there (R23). -/
abbrev State.setupOk (s : State) : Prop :=
  s.ctl.st = .setup ∨ (s.ctl.st = .quiesce ∧ s.ctl.ret = some .setup) →
    ∀ r ∈ s.records, r.state = .parked ∨ (Config.setupRecordsDefer = true ∧ r.state = .deferred)

/-! ### A safe state -/

/-- Every limit and every agreement holds. -/
structure State.Safe (s : State) : Prop where
  table : s.tableOk
  queue : s.queueOk
  counts : s.line.countsOk
  peers : s.peersOk
  notices : s.noticesOk
  supply : s.supplyOk
  pace : s.paceOk
  probes : s.probesOk

/-! ### The words of the statements -/

/-- No due step waits. -/
abbrev State.calm (s : State) : Prop := s.anyDue = false

/-- The card port takes part in transfers, and no due step waits. -/
abbrev State.portReady (s : State) : Prop := s.calm ∧ s.ctl.resetHeld = false ∧ s.card.discarded = false

/-- The transfer of a command record of `n` bytes ends and its response is made pending: the take number rises by one
(R163, R165, R167). Nothing else changes. -/
def State.answered (n : Nat) (code : Byte) (result : ResultCode) (payload : List Byte) (s : State) : State :=
  { s with card := { s.card with
      transfer := .idle
      shifted := shiftOut s.card.outgoing n
      take := s.card.take + 1
      response := { code := code, take := s.card.take + 1, result := result, payload := payload } } }

/-- A request stands on the Outbound Queue, or its want mark is set (R128, R129). -/
abbrev State.owes (req : Request) (s : State) : Prop := req ∈ s.line.queue ∨ s.wanted req = true

/-- A peer's silence and cold restart act on records (R23): in a QUIESCE that returns to SETUP, if the free value of log 29
says so. -/
abbrev State.Minds (s : State) : Prop :=
  s.running = true ∨ (s.ctl.st = .quiesce ∧ (s.ctl.ret = some .setup → Config.setupRecordsDefer = true))

/-- The records that pass a test, in class order (R5). -/
def State.inClassOrder (test : Circuit → Bool) (s : State) : List Circuit :=
  (List.range 4).flatMap (fun c => s.records.filter (fun r => r.cls == c && test r))

/-- One notice of a kind for each of the records, in their order (R26, R184). -/
def noticesOf (k : NoticeKind) (rs : List Circuit) : List Notice :=
  rs.map (fun r => { tag := r.tag, kind := k, cls := r.cls })

/-- The weight that is spent on probes (R98). -/
def State.probingWeight (s : State) : Nat := ((s.records.filter (fun r => r.state.isProbing)).map (fun r => r.weight)).sum

/-- An attempt would open nothing: there is no candidate, it does not fit the allowance, or every slot is held (R92). -/
abbrev State.Exhausted (s : State) : Prop :=
  ∀ r, s.candidate = some r → s.seq.allowance < r.weight ∨ s.hw.probes.length = 4

/-- The want marks that are set, in the order of their conversion (R130). -/
def State.wantedInOrder (s : State) : List Request :=
  (.beacon :: s.slotOrder.flatMap (fun p => [.roll p, .rollOffer p, .singleOffer p, .answer p, .release p])).filter
    (fun req => s.wanted req)

/-- The want marks are converted into the requests that the queue, of length `n`, has room for; the others stay (R130). -/
abbrev State.Converted (n : Nat) (wanted : List Request) (t : State) : Prop :=
  (∀ req ∈ wanted.take (24 - n), t.wanted req = false) ∧ ∀ req ∈ wanted.drop (24 - n), t.wanted req = true

/-- What a local clash of a record tells its peer: a CLASH at the tail of its verdicts and an ANSWER for it, an overrun where
they are full, nothing where the peer is not PRESENT (R37, R65). -/
abbrev State.TellsClash (r : Circuit) (s t : State) : Prop :=
  let x := s.peer r.farSlot
  let y := t.peer r.farSlot
  let room := x.presence = .present ∧ x.verdicts.length < 16
  y.verdicts = (if room then x.verdicts ++ [{ tag := r.tag, kind := .clash }] else x.verdicts) ∧
    (room → t.owes (.answer r.farSlot)) ∧
    y.overrun = if x.presence = .present ∧ ¬ x.verdicts.length < 16 then min 255 (x.overrun + 1) else x.overrun

/-- The lowest-numbered free place of the table (R4). -/
abbrev State.LowestFree (h : Nat) (s : State) : Prop :=
  h < 64 ∧ h ∉ s.records.map (·.place) ∧ ∀ g < h, g ∈ s.records.map (·.place)

/-- The station state takes table edits (R168). -/
abbrev State.edits (s : State) : Prop := s.ctl.st = .setup ∨ s.ctl.st = .relink ∨ s.ctl.st = .service

/-- A RELEASE is needed when the record is dropped (R10). -/
abbrev State.NeedsRelease (r : Circuit) (s : State) : Prop :=
  (r.state = .offered ∨ r.state = .confirmed ∨ r.state.isProbing = true ∨ r.state.isOpen = true) ∧
    (s.peer r.farSlot).presence = .present

/-- The 20 bytes of a record (R191). -/
def Circuit.items (r : Circuit) : List Byte :=
  [byteOf (r.tag / 256), byteOf r.tag, byteOf r.localPort, byteOf r.farSlot, byteOf r.farPort,
    byteOf (r.primary / 256), byteOf r.primary, if r.standby = none then 0x00 else 0x01,
    byteOf (r.standby.getD 0 / 256), byteOf (r.standby.getD 0), byteOf r.cls, byteOf r.weight,
    byteOf ((if r.clashMark = true ∨ r.clashPending = true then 1 else 0) + (if r.clashPending = true then 2 else 0)),
    relinkByte r.state, if r.inUse = .primary then 0x00 else 0x01, byteOf r.sendCount, byteOf r.sweepsSinceSend,
    byteOf ((if r.claimDue = true then 1 else 0) + (if r.rollMark = true then 2 else 0) +
      (if r.scopeMark = true then 4 else 0)),
    match r.state with
    | .refused .unknown => 0x01
    | .refused .mismatch => 0x02
    | .refused .orphan => 0x03
    | _ => 0x00,
    match r.state with
    | .probing k => byteOf k
    | _ => 0xFF]

/-- The header of a received frame says nothing new: its source is addressable and PRESENT with the epoch and the
station state of the header (R53, R56). -/
abbrev State.Expects (f : LineFrame) (s : State) : Prop :=
  s.addressable f.src = true ∧ (s.peer f.src).presence = .present ∧ (s.peer f.src).epoch = some f.epoch ∧
    (s.peer f.src).st = some f.st

/-- What hearing such a frame changes: the sweeps since heard of its source and the last sender (R53, R137). -/
def State.refreshed (f : LineFrame) (s : State) : State :=
  { s with peers := s.peers.set f.src { s.peer f.src with sinceHeard := 0 }
           line := { s.line with lastSender := f.src } }

/-- A frame that expects an answer in this state is received: no due step waits, the reset cause is over, RELINK is not
about to end, and the header says nothing new. -/
abbrev State.hears (f : LineFrame) (s : State) : Prop :=
  s.calm ∧ s.ctl.resetHeld = false ∧ s.relinkDone = false ∧ s.Expects f

/-- The state with one line error more and LINE_ERROR raised (R142, R144). -/
def State.withLineError (s : State) : State :=
  { s with line := { s.line with errors := min 255 (s.line.errors + 1) }, events := s.events.raise .lineError }

/-- A claim whose fields fit a frame (R189). -/
abbrev Claim.fits (c : Claim) : Prop := c.tag < 65536 ∧ c.claimerPort < 64 ∧ c.lane < 1024 ∧ c.addresseePort < 64

/-- A verdict whose fields fit a frame (R189). -/
abbrev Verdict.fits (v : Verdict) : Prop := v.tag < 65536 ∧ ∀ lane, v.kind = .accept lane → lane < 65536

/-- A command whose operands fit its record (R190). -/
def CardCommand.fits : CardCommand → Bool
  | .nop => true
  | .status => true
  | .configure c => c.wf
  | .go => true
  | .provision f => f.wf
  | .drop tag => fitsWord tag
  | .rearm tag => fitsWord tag
  | .query tag => fitsWord tag
  | .readEntry cls index => fitsByte cls && fitsByte index
  | .readPeer slot => fitsByte slot
  | .readNotices => true
  | .readEvents => true
  | .setEnables _ => true
  | .setPace reload mode => fitsWord reload && fitsByte mode
  | .stepPace => true
  | .purge => true
  | .unmute => true

/-- Every list that waits for a peer has its request queued or wanted, and a frame on the line whose request is still
queued has it at the head (R83, R88, R133, R134). -/
abbrev State.listsCarried (s : State) : Prop :=
  s.line.queue.Nodup ∧ (∀ f, s.line.out = .sending f → f.queued = true → s.line.queue.head? = some f.req) ∧
    (∀ p, (s.peer p).verdicts ≠ [] → s.owes (.answer p)) ∧ ∀ p, (s.peer p).releases ≠ [] → s.owes (.release p)

/-- The lamp is in the highest mode of R186 whose condition holds. -/
abbrev State.lampOk (s : State) : Prop :=
  let set (m : LampMode) : Prop := s.lamp.mode = m
  if s.ctl.st = .strapFault ∨ s.line.muted = true then set .steady
  else if s.ctl.st = .starting ∨ s.ctl.st = .quiesce then set .fast
  else if s.ctl.st = .relink then ∃ d, set (.progress d)
  else if s.ctl.st = .service ∧ ∃ r ∈ s.records, r.state.isRefused = true ∨ r.state = .clashed then set .wink
  else set .off

/-- The retained fields of a record, with its place and its clash mark (R1, R4). -/
def Circuit.retained (r : Circuit) : Nat × Fixed × Bool := (r.place, r.toFixed, r.clashMark)

end Sys2Proof.Machine

namespace Sys2Proof

open Machine

/-- Check 1 of R6, the standby indication of R173 included. -/
abbrev ProvisionFields.OutOfRange (f : ProvisionFields) (s : State) : Prop :=
  f.tag = 0 ∨ 65535 < f.tag ∨ 63 < f.localPort ∨ 63 < f.farPort ∨ f.farSlot = s.ctl.slot ∨ s.ctl.size ≤ f.farSlot ∨
    1023 < f.primary ∨ 1 < f.standbyInd ∨ (f.standbyInd = 1 ∧ (1023 < f.standbyLane ∨ f.standbyLane = f.primary)) ∨
    3 < f.cls ∨ f.weight = 0 ∨ 7 < f.weight

/-- Check 4 of R6: a lane the command indicates is a lane of a record in the table. -/
abbrev ProvisionFields.LaneInUse (f : ProvisionFields) (s : State) : Prop :=
  ∃ r ∈ s.records, f.primary ∈ r.lanes ∨ (f.standbyInd = 1 ∧ f.standbyLane ∈ r.lanes)

/-- The record a PROVISION enters in a place and a relink state (R3, R7, R8). -/
def ProvisionFields.entered (f : ProvisionFields) (place : Nat) (state : Relink) (claimDue : Bool) : Circuit :=
  { tag := f.tag, localPort := f.localPort, farSlot := f.farSlot, farPort := f.farPort, primary := f.primary,
    standby := if f.standbyInd = 1 then some f.standbyLane else none, cls := f.cls, weight := f.weight, place := place,
    clashMark := false, clashPending := false, state := state, inUse := .primary, sendCount := 0, sweepsSinceSend := 0,
    resendDue := false, claimDue := claimDue, rollMark := false, scopeMark := false }

/-- The rows that are due steps: they follow from a counter that has reached its limit (log 2). -/
def Instr.isDueStep : Instr → Bool
  | .nop _ => false
  | .status _ => false
  | .configure _ _ => false
  | .go _ => false
  | .provision _ _ => false
  | .drop _ _ => false
  | .rearm _ _ => false
  | .query _ _ => false
  | .readEntry _ _ _ => false
  | .readPeer _ _ => false
  | .readNotices _ => false
  | .readEvents _ => false
  | .setEnables _ _ => false
  | .setPace _ _ _ => false
  | .stepPace _ => false
  | .purge _ => false
  | .unmute _ => false
  | .rejectedRecord _ => false
  | .start _ _ => false
  | .strapRead _ _ => false
  | .warmStart => true
  | .coldStart => true
  | .keepAliveClear => false
  | .conversionResult _ => false
  | .sweep => false
  | .peerSilent _ => true
  | .beaconDue => true
  | .claimResend _ => true
  | .rollAbandon _ => true
  | .listenIntervalEnd => true
  | .paceExpiry => false
  | .probeCompletion => true
  | .echoFault => true
  | .linePosition _ => false
  | .frameSentWhole => false
  | .collision => false
  | .beaconReceived _ => false
  | .rollReceived _ => false
  | .offerReceived _ => false
  | .answerReceived _ => false
  | .releaseReceived _ => false
  | .otherFrameReceived _ _ => false
  | .badFrameReceived _ _ => false
  | .jamReceived => false
  | .lampPeriod => false
  | .highwayFrame _ => false
  | .chipSelectAsserted => false

/-- The rows that end a transfer at the card port (R163). -/
def Instr.isCardRow : Instr → Bool
  | .nop _ => true
  | .status _ => true
  | .configure _ _ => true
  | .go _ => true
  | .provision _ _ => true
  | .drop _ _ => true
  | .rearm _ _ => true
  | .query _ _ => true
  | .readEntry _ _ _ => true
  | .readPeer _ _ => true
  | .readNotices _ => true
  | .readEvents _ => true
  | .setEnables _ _ => true
  | .setPace _ _ _ => true
  | .stepPace _ => true
  | .purge _ => true
  | .unmute _ => true
  | .rejectedRecord _ => true
  | .start _ _ => false
  | .strapRead _ _ => false
  | .warmStart => false
  | .coldStart => false
  | .keepAliveClear => false
  | .conversionResult _ => false
  | .sweep => false
  | .peerSilent _ => false
  | .beaconDue => false
  | .claimResend _ => false
  | .rollAbandon _ => false
  | .listenIntervalEnd => false
  | .paceExpiry => false
  | .probeCompletion => false
  | .echoFault => false
  | .linePosition _ => false
  | .frameSentWhole => false
  | .collision => false
  | .beaconReceived _ => false
  | .rollReceived _ => false
  | .offerReceived _ => false
  | .answerReceived _ => false
  | .releaseReceived _ => false
  | .otherFrameReceived _ _ => false
  | .badFrameReceived _ _ => false
  | .jamReceived => false
  | .lampPeriod => false
  | .highwayFrame _ => false
  | .chipSelectAsserted => false

end Sys2Proof
end

