-- ==== Sys2Proof/Certificates/Slice0/Obligations.lean ====
section
/-! DEFINITION. Certificates/Slice0/Obligations.lean: what is claimed of the controller, for the provers. -/

open Sys2Proof Sys2Proof.Machine

/-! ### The queue, the step and the port -/

/-- The step takes the command at the front of the queue and runs it with the queue's rest. -/
def Obligations.StepRunsFront : Prop :=
  ∀ (c : Instr) (rest : List Instr) (s : State),
    step { s with pending := c :: rest } = exec c { s with pending := rest }

/-- On an empty queue a step is one millisecond: both counters fall by one while neither is at its end. The model's
choice (log 1). -/
def Obligations.IdleStepIsMillisecond : Prop :=
  ∀ (s : State) (n m : Nat), s.pending = [] → s.calm → s.seq.timer = .running (n + 2) →
    s.sweep.remaining = some (m + 2) → s.lamp.mode.period = none →
    step s = .next { s with seq := { s.seq with timer := .running (n + 1) },
                            sweep := { s.sweep with remaining := some (m + 1) } }

/-- Every row completes from every state, and none of them touches the queue of waiting commands. That this holds of operands
that fit no field and of rows whose event does not arise is the model's reading of the book (logs 3 and 28). -/
def Obligations.EveryRowCompletes : Prop :=
  ∀ (c : Instr) (s : State), ∃ t, exec c s = .next t ∧ t.pending = s.pending

/-- A row that is no due step acts on the state in which the due steps that wait have been taken. The model's choice
(log 2). -/
def Obligations.DueStepsComeFirst : Prop :=
  ∀ (c : Instr) (s : State), c.isDueStep = false → s.anyDue = true → s.settleAll.calm →
    exec c s = exec c s.settleAll

/-- An accepted NOP ends its transfer and leaves the pending response and the take number as they stand; asserting chip
select fixes the bytes out; and while the reset cause persists, or after a discarded transfer, no row of the card port
has an effect. That no byte counts as shifted out by a discarded transfer, the cause being over or the transfer older than the
start (logs 16 and 34), and that one asserted while the cause persists stays discarded (log 33), is the model's choice. -/
def Obligations.TransferRows : Prop :=
  (∀ (k : Nat) (s : State), s.portReady →
    exec (.nop k) s = .next { s with card := { s.card with
      transfer := .idle, shifted := shiftOut s.card.outgoing (2 + k) } }) ∧
  (∀ s : State, s.calm → s.ctl.resetHeld = false →
    exec .chipSelectAsserted s = .next { s with card := { s.card with
      transfer := .opened [] s.card.response.bytes, discarded := false } }) ∧
  (∀ s : State, s.calm → s.ctl.resetHeld = true →
    exec .chipSelectAsserted s = .next { s with card := { s.card with transfer := .idle, discarded := true } }) ∧
  (∀ (c : Instr) (s : State), c.isCardRow = true → s.calm → (s.ctl.resetHeld = true ∨ s.card.discarded = true) →
    exec c s = .next { s with card := { s.card with transfer := .idle, discarded := false, shifted := [] } })

/-- No row but those of the card port and a start touches the transfer, the pending response or the take number. -/
def Obligations.PortKeptByOtherRows : Prop :=
  ∀ (c : Instr) (s t : State), c.isCardRow = false → c ≠ .chipSelectAsserted → (∀ a b, c ≠ .start a b) →
    exec c s = .next t → t.card = s.card

/-! ### STATUS -/

/-- STATUS answers the 29 bytes of its layout, each item as it stands, in every station state; in STARTING and STRAP FAULT
it answers what is left of them there. That in STARTING with an invalid store the headroom is judged by the default F = 168
is the model's reading (log 11), and that bits 7 and 6 of the condition byte are 0 is its choice (log 32). -/
def Obligations.StatusReports : Prop :=
  ∀ (k : Nat) (s : State), s.portReady →
    ((s.ctl.st = .setup ∨ s.ctl.st = .relink ∨ s.ctl.st = .service ∨ s.ctl.st = .quiesce) →
      exec (.status k) s = .next (s.answered (2 + k) 0x10 .ok (
        [stationByte s.ctl.st, byteOf s.ctl.slot, byteOf s.ctl.size, s.store.epoch] ++
        wordBytes (s.records.countP (fun r => r.state == .parked)) ++
        wordBytes (s.records.countP (fun r => r.state == .offered)) ++
        wordBytes (s.records.countP (fun r => r.state == .confirmed)) ++
        wordBytes (s.records.countP (fun r => r.state.isProbing)) ++
        wordBytes (s.records.countP (fun r => r.state.isOpen)) ++
        wordBytes (s.records.countP (fun r => r.state == .deferred)) ++
        wordBytes (s.records.countP (fun r => r.state.isRefused)) ++
        wordBytes (s.records.countP (fun r => r.state == .clashed)) ++
        [byteOf s.seq.allowance, byteOf s.supply.sample] ++ wordBytes s.store.settings.reload ++
        [byteOf ((if s.supply.sample ≤ s.store.settings.floor then 1 else 0) + (if s.seq.mode = .step then 2 else 0) +
            (if s.seq.timer = .stopped then 0 else 4) + (if s.line.escalated = true then 8 else 0) +
            (if s.line.retry = true then 16 else 0) + (if s.line.muted = true then 32 else 0)),
          byteOf s.line.queue.length, byteOf s.line.errors, byteOf s.line.collisions, byteOf s.line.stale]))) ∧
    (s.ctl.st = .starting →
      exec (.status k) s = .next (s.answered (2 + k) 0x10 .ok (
        [0x00, byteOf s.ctl.slot, byteOf s.ctl.size, if s.ctl.firstValid = true then s.store.epoch else 0] ++
        List.replicate 17 0 ++ [byteOf s.supply.sample] ++
        wordBytes (if s.ctl.firstValid = true then s.store.settings.reload else 20) ++
        [if s.supply.sample ≤ (if s.ctl.firstValid = true then s.store.settings.floor else 168) then 1 else 0,
          0, 0, 0, 0]))) ∧
    (s.ctl.st = .strapFault →
      exec (.status k) s = .next (s.answered (2 + k) 0x10 .ok (
        [0x01, byteOf s.ctl.slot, byteOf s.ctl.size] ++ List.replicate 18 0 ++ [byteOf s.supply.sample] ++
        List.replicate 7 0)))

/-! ### CONFIGURE and GO -/

/-- CONFIGURE in SETUP: the first check that fails is named and nothing else changes; else the six values are written as
one table edit, a pace reload of 0 as 1, and answered as written. -/
def Obligations.ConfigureByChecks : Prop :=
  ∀ (k : Nat) (c : Settings) (s : State), s.portReady → s.ctl.st = .setup →
    let refused (n : Byte) := exec (.configure k c) s = .next (s.answered (9 + k) 0x11 .range [n])
    if c.period ≠ 8 ∧ c.period ≠ 16 ∧ c.period ≠ 32 ∧ c.period ≠ 64 then refused 1
    else if 255 < c.floor then refused 2
    else if 255 < c.warn then refused 3
    else if c.slope = 0 ∨ 15 < c.slope then refused 4
    else if c.burst < 4 ∨ 63 < c.burst then refused 5
    else if 1023 < c.reload then refused 6
    else if c.floor < c.warn + 8 then refused 7
    else ∃ (word : BitVec 16) (t : State),
      let reload := if c.reload = 0 then 1 else c.reload
      exec (.configure k c) s = .next t ∧ t.sumZero = true ∧
      t = { s.answered (9 + k) 0x11 .ok ([byteOf c.period, byteOf c.floor, byteOf c.warn, byteOf c.slope,
              byteOf c.burst] ++ wordBytes reload) with
            store := { s.store with settings := { c with reload := reload }, checkWord := word } }

/-- GO in SETUP: RELINK with listen count 0, every roll to an addressable slot OWED, a BEACON posted, the pace timer by
its mode, and the configuration, the table and the sweep interval as they were. -/
def Obligations.GoEntersRelink : Prop :=
  ∀ (k : Nat) (s : State), s.portReady → s.ctl.st = .setup →
    ∃ t, exec (.go k) s = .next t ∧
      t.ctl = { s.ctl with st := .relink, listenCount := 0, listenOver := false } ∧
      t.seq = { s.seq with timer := if s.seq.mode = .continuous then .running s.store.settings.reload
                                    else s.seq.timer } ∧
      t.sweep = { s.sweep with beaconCount := 0 } ∧ t.owes .beacon ∧
      (∀ p, p < s.peers.length →
        t.peer p = if s.addressable p = true then { s.peer p with rollOut := .owed } else s.peer p) ∧
      t.card = (s.answered (2 + k) 0x12 .ok ([s.store.epoch] ++ wordBytes s.records.length)).card ∧
      t.records = s.records ∧ t.store = s.store ∧ t.hw = s.hw ∧ t.supply = s.supply ∧ t.events = s.events ∧
      t.notices = s.notices

/-! ### PROVISION -/

/-- PROVISION is judged by the station state, then by RANGE, DUPLICATE, PORT_TAKEN and LANE_TAKEN in that order; a refusal
changes the response alone; a full table that passes checks 1 and 2 is PORT_TAKEN; and what passes is entered, with a
standby lane only where it is indicated. -/
def Obligations.ProvisionByChecks : Prop :=
  ∀ (k : Nat) (f : ProvisionFields) (s : State), s.portReady →
    let refused (r : ResultCode) := exec (.provision k f) s = .next (s.answered (14 + k) 0x20 r (wordBytes f.tag))
    let dup := ∃ r ∈ s.records, r.tag = f.tag
    let port := ∃ r ∈ s.records, r.localPort = f.localPort
    (s.ctl.st = .quiesce → refused .frozen) ∧
    (s.ctl.st = .starting ∨ s.ctl.st = .strapFault → refused .state) ∧
    (s.edits →
      (f.OutOfRange s → refused .range) ∧
      (¬ f.OutOfRange s → dup → refused .duplicate) ∧
      (¬ f.OutOfRange s → ¬ dup → port → refused .portTaken) ∧
      (s.tableOk → s.records.length = 64 → ¬ f.OutOfRange s → ¬ dup → refused .portTaken) ∧
      (s.tableOk → ¬ f.OutOfRange s → ¬ dup → ¬ port → f.LaneInUse s → refused .laneTaken) ∧
      (s.tableOk → ¬ f.OutOfRange s → ¬ dup → ¬ port → ¬ f.LaneInUse s →
        ∃ t, exec (.provision k f) s = .next t ∧ t.card.response.result = .ok ∧
          ∃ r ∈ t.records, r.tag = f.tag ∧ r.standby = if f.standbyInd = 1 then some f.standbyLane else none))

/-- A PROVISION that passes its checks: the record at the end of the order of provisioning, in the lowest free place,
as one table edit. In SETUP nothing else changes; in RELINK and SERVICE its claim is due, and it is PARKED with its single
OFFER posted where its peer is up, DEFERRED without a notice where it is not. A roll that is SENDING to its far slot starts
again beside all this: it is OWED, its marks are cleared, and its ROLL is posted where the roll is releasable. -/
def Obligations.ProvisionTaken : Prop :=
  ∀ (k h : Nat) (f : ProvisionFields) (s : State), s.portReady → s.LowestFree h → ¬ f.OutOfRange s →
    (∀ r ∈ s.records, r.tag ≠ f.tag ∧ r.localPort ≠ f.localPort) → ¬ f.LaneInUse s →
    (s.ctl.st = .setup → ∃ (word : BitVec 16) (t : State), exec (.provision k f) s = .next t ∧ t.sumZero = true ∧
      t = { s.answered (14 + k) 0x20 .ok (wordBytes f.tag ++ [0x00]) with
            records := s.records ++ [f.entered h .parked false], store := { s.store with checkWord := word } }) ∧
    (s.running = true →
      let up := (s.peer f.farSlot).up = true
      let restarts := (s.peer f.farSlot).rollOut = .sending
      ∃ (word : BitVec 16) (t : State), exec (.provision k f) s = .next t ∧ t.sumZero = true ∧
        t.records = s.records.map (fun r => if restarts ∧ r.farSlot = f.farSlot then { r with rollMark := false } else r) ++
          [f.entered h (if up then .parked else .deferred) true] ∧
        (t.peer f.farSlot).rollOut = (if restarts then .owed else (s.peer f.farSlot).rollOut) ∧
        (restarts → s.ctl.st = .service ∨ s.ctl.listenOver = true → up → t.owes (.roll f.farSlot)) ∧
        (up → t.owes (.singleOffer f.farSlot)) ∧
        t.store = { s.store with checkWord := word } ∧ t.notices = s.notices ∧ t.hw = s.hw ∧ t.seq = s.seq ∧
        t.card = (s.answered (14 + k) 0x20 .ok (wordBytes f.tag ++ [if up then 0x00 else 0x05])).card)

/-! ### DROP and REARM -/

/-- A DROP taken: its record leaves the table as one table edit and frees its probe slot, the others keep their retained
fields and their order; the tag goes to the far slot's pending release list where a RELEASE is needed; a roll that is SENDING to
the far slot starts again; no notice, and no
event but RELINK_DONE where the removal ends RELINK. -/
def Obligations.DropTaken : Prop :=
  ∀ (k tag : Nat) (r : Circuit) (s : State), s.Safe → s.portReady → s.edits → r ∈ s.records → r.tag = tag →
    (s.NeedsRelease r → (s.peer r.farSlot).releases.length < 16) →
    ∃ t, exec (.drop k tag) s = .next t ∧ t.sumZero = true ∧
      t.records.map Circuit.retained = (s.records.filter (fun x => x.tag ≠ tag)).map Circuit.retained ∧
      (∀ p ∈ t.hw.probes, p.place ≠ r.place) ∧
      (∀ p, (t.peer p).releases =
        if s.NeedsRelease r ∧ p = r.farSlot then (s.peer p).releases ++ [tag] else (s.peer p).releases) ∧
      (s.NeedsRelease r → t.owes (.release r.farSlot)) ∧ t.notices = s.notices ∧
      ((s.peer r.farSlot).rollOut = .sending → (t.peer r.farSlot).rollOut = .owed ∧
        ∀ x ∈ t.records, x.farSlot = r.farSlot → x.rollMark = false) ∧
      (t.events = s.events ∨ t.events = s.events.raise .relinkDone) ∧
      t.card = (s.answered (4 + k) 0x21 .ok (wordBytes tag ++
        [relinkByte r.state, if s.NeedsRelease r then 0x01 else 0x00])).card

/-- A REARM taken: the CLASHED record loses its clash mark as a table edit and comes back on PRIMARY, PARKED with its
claim due and its single OFFER posted where its peer is up, DEFERRED where it is not; no notice. -/
def Obligations.RearmTaken : Prop :=
  ∀ (k tag : Nat) (r : Circuit) (s : State), s.tableOk → s.portReady → s.running = true → r ∈ s.records →
    r.tag = tag → r.state = .clashed →
    let up := (s.peer r.farSlot).up = true
    ∃ t, exec (.rearm k tag) s = .next t ∧ t.sumZero = true ∧ t.notices = s.notices ∧
      (∃ x ∈ t.records, x.retained = (r.place, r.toFixed, false) ∧ x.clashPending = false ∧ x.inUse = .primary ∧
        x.state = (if up then .parked else .deferred) ∧ x.sendCount = 0 ∧ x.sweepsSinceSend = 0 ∧
        (x.claimDue = true ↔ up)) ∧
      (up → r.rollMark = false → t.owes (.singleOffer r.farSlot)) ∧
      t.card = (s.answered (4 + k) 0x22 .ok (wordBytes tag ++ [if up then 0x00 else 0x05])).card

/-- The refusals of the commands that look something up change the response alone: NOT_FOUND for a tag that no record
carries, RELEASE_BACKLOG, STATE for a REARM of a record that is not CLASHED, RANGE past the end of what is read. What the refusals
of REARM and of a class above 3 carry is read from R174, R175 and R191 (log 13). -/
def Obligations.LookupRefusals : Prop :=
  ∀ (k : Nat) (s : State), s.portReady →
    (∀ tag, (∀ r ∈ s.records, r.tag ≠ tag) →
      (s.edits → exec (.drop k tag) s = .next (s.answered (4 + k) 0x21 .notFound [])) ∧
      (s.running = true → exec (.rearm k tag) s = .next (s.answered (4 + k) 0x22 .notFound [])) ∧
      (s.edits ∨ s.ctl.st = .quiesce → exec (.query k tag) s = .next (s.answered (4 + k) 0x23 .notFound []))) ∧
    (∀ r ∈ s.records, s.tableOk →
      (s.edits → s.NeedsRelease r → 16 ≤ (s.peer r.farSlot).releases.length →
        exec (.drop k r.tag) s =
          .next (s.answered (4 + k) 0x21 .releaseBacklog (wordBytes r.tag ++ [byteOf r.farSlot]))) ∧
      (s.running = true → r.state ≠ .clashed →
        exec (.rearm k r.tag) s =
          .next (s.answered (4 + k) 0x22 .state (wordBytes r.tag ++ [relinkByte r.state])))) ∧
    (s.edits ∨ s.ctl.st = .quiesce →
      (∀ cls index, 3 < cls →
        exec (.readEntry k cls index) s = .next (s.answered (4 + k) 0x24 .range [])) ∧
      (∀ cls index, cls ≤ 3 → s.records.countP (fun r => r.cls == cls) ≤ index →
        exec (.readEntry k cls index) s =
          .next (s.answered (4 + k) 0x24 .range [byteOf (s.records.countP (fun r => r.cls == cls))])) ∧
      (∀ slot, 23 < slot → exec (.readPeer k slot) s = .next (s.answered (3 + k) 0x25 .range [])))

/-! ### Reads -/

/-- The reads answer what they name and change nothing else: QUERY a record, READ ENTRY the length of a class list and
its record at the index, READ PEER a peer record, READ NOTICES the oldest notices, up to 4, which leave their queue. That the
count bytes of an IDLE channel are 0 (log 31), and the unassigned bits of the bit bytes (log 32), is the model's choice. -/
def Obligations.ReadsAnswer : Prop :=
  ∀ (k : Nat) (s : State), s.portReady → s.edits ∨ s.ctl.st = .quiesce →
    (∀ r ∈ s.records, s.tableOk → exec (.query k r.tag) s = .next (s.answered (4 + k) 0x23 .ok r.items)) ∧
    (∀ cls index r, cls ≤ 3 → (s.records.filter (fun x => x.cls == cls))[index]? = some r →
      exec (.readEntry k cls index) s =
        .next (s.answered (4 + k) 0x24 .ok (byteOf (s.records.countP (fun x => x.cls == cls)) :: r.items))) ∧
    (∀ slot, slot < 24 → exec (.readPeer k slot) s = .next (s.answered (3 + k) 0x25 .ok (
      let x := s.peer slot
      [byteOf slot, match x.presence with
        | .unheard => 0x00
        | .present => 0x01
        | .silent => 0x02,
        byteOf x.sinceHeard, x.epoch.getD 0, match x.st with
        | some .setup => 0x02
        | some .relink => 0x03
        | some .service => 0x04
        | none => 0xFF,
        match x.rollOut with
        | .none => 0x00
        | .owed => 0x01
        | .sending => 0x02] ++
      (match x.channel with
        | .idle => [0, 0, 0, 0, 0, 0]
        | .receiving d n g => [0x01] ++ wordBytes d ++ wordBytes n ++ [byteOf g]) ++
      [byteOf x.verdicts.length, byteOf x.releases.length, byteOf x.overrun,
        byteOf ((if x.wants.roll = true then 1 else 0) + (if x.wants.rollOffer = true then 2 else 0) +
          (if x.wants.singleOffer = true then 4 else 0) + (if x.wants.answer = true then 8 else 0) +
          (if x.wants.release = true then 16 else 0))]))) ∧
    exec (.readNotices k) s = .next (({ s with notices := s.notices.drop 4 } : State).answered (2 + k) 0x30 .ok (
      [byteOf (min 4 s.notices.length), byteOf (s.notices.length - 4)] ++
        (s.notices.take 4).flatMap (fun n => wordBytes n.tag ++ ((match n.kind with
          | .opened => [0x01, 0x00]
          | .refused .unknown => [0x02, 0x01]
          | .refused .mismatch => [0x02, 0x02]
          | .refused .orphan => [0x02, 0x03]
          | .clashed => [0x03, 0x00]
          | .deferred => [0x04, 0x00]
          | .removed => [0x05, 0x00]
          | .laneMoved => [0x06, 0x00]) : List Byte) ++ [byteOf n.cls])))

/-! ### Events and ATTN -/

/-- READ EVENTS returns the twelve flags and the enables and clears the flags; SET ENABLES writes the thirteen enables and
changes no flag. -/
def Obligations.EventsReadAndEnabled : Prop :=
  ∀ (k : Nat) (s : State), s.portReady → s.edits ∨ s.ctl.st = .quiesce →
    (∃ w : BitVec 16, (∀ i, i < 12 → w.getLsbD i = s.events.flags.getLsbD i) ∧
      exec (.readEvents k) s = .next (({ s with events := { s.events with flags := 0 } } : State).answered (2 + k) 0x31 .ok
        (wordBytes w.toNat ++
          wordBytes (s.events.enables.toNat + if s.events.master = true then 32768 else 0)))) ∧
    ∀ w : BitVec 16, exec (.setEnables k w) s = .next (
      ({ s with events := { flags := s.events.flags, enables := w.setWidth 12, master := w.getLsbD 15 } } :
        State).answered (4 + k) 0x32 .ok ([0, 0] ++ wordBytes (w &&& 0x8FFF).toNat))

/-- ATTN is asserted exactly while the master enable is set and some flag is set whose enable is set; a raised flag is set
and stays set, and raising it changes no other flag and no enable. -/
def Obligations.AttnFollowsFlags : Prop :=
  (∀ s : State, s.attn = true ↔
    s.events.master = true ∧ ∃ i, i < 12 ∧ s.events.flags.getLsbD i = true ∧ s.events.enables.getLsbD i = true) ∧
  (∀ (f : EventFlag) (e : EventUnit), (e.raise f).has f = true ∧ (e.raise f).enables = e.enables ∧
    (e.raise f).master = e.master ∧ ∀ g, g ≠ f → (e.raise f).has g = e.has g)

/-! ### Pacing, PURGE, UNMUTE -/

/-- SET PACE: a reload above 1023 or an unknown mode is RANGE and changes nothing; else the reload, 0 as 1, is written as
a table edit, the mode is set, and a change from STEP to CONTINUOUS starts a count where the timer is STOPPED in RELINK or
SERVICE. STEP in RELINK and SERVICE: STATE in CONTINUOUS mode; in STEP mode it starts one count where the timer is STOPPED
and leaves a RUNNING count as it is. -/
def Obligations.PaceCommands : Prop :=
  ∀ (k : Nat) (s : State), s.portReady →
    (∀ reload mode, s.edits →
      (1023 < reload ∨ 1 < mode → exec (.setPace k reload mode) s = .next (s.answered (5 + k) 0x40 .range [])) ∧
      (reload ≤ 1023 → mode ≤ 1 →
        let w := if reload = 0 then 1 else reload
        let m := if mode = 1 then PaceMode.step else PaceMode.continuous
        let timer := if s.seq.mode = .step ∧ m = .continuous ∧ s.running = true ∧ s.seq.timer = .stopped
          then PaceTimer.running w else s.seq.timer
        ∃ (word : BitVec 16) (t : State), exec (.setPace k reload mode) s = .next t ∧ t.sumZero = true ∧
          t = { s.answered (5 + k) 0x40 .ok (wordBytes w ++ [byteOf mode, if timer = .stopped then 0 else 1]) with
                store := { s.store with settings := { s.store.settings with reload := w }, checkWord := word },
                seq := { s.seq with mode := m, timer := timer } })) ∧
    (s.running = true →
      (s.seq.mode = .continuous → exec (.stepPace k) s = .next (s.answered (2 + k) 0x41 .state [])) ∧
      (s.seq.mode = .step → s.seq.timer = .stopped →
        exec (.stepPace k) s = .next (({ s with seq := { s.seq with timer := .running s.store.settings.reload } } :
          State).answered (2 + k) 0x41 .ok [0x00])) ∧
      (∀ n, s.seq.mode = .step → s.seq.timer = .running n →
        exec (.stepPace k) s = .next (s.answered (2 + k) 0x41 .ok [0x01])))

/-- PURGE in SETUP, RELINK, SERVICE and QUIESCE brings every block to its cold values, keeps the sample in hand, the sweep
interval, the strap readings and the take number raised by its take, posts a BEACON and raises START. -/
def Obligations.PurgeToCold : Prop :=
  ∀ (k : Nat) (s : State), s.portReady → s.edits ∨ s.ctl.st = .quiesce →
    ∃ (word : BitVec 16) (t : State), exec (.purge k) s = .next t ∧ t.sumZero = true ∧
      t = { s.answered (2 + k) 0x50 .ok ([0x00] ++ wordBytes s.records.length) with
        records := []
        store := { settings := { period := 16, floor := 168, warn := 152, slope := 4, burst := 12, reload := 20 },
                   keptSlot := s.ctl.slot, keptSize := s.ctl.size, epoch := 0, checkWord := word, keepAlive := true }
        peers := List.replicate 24 Peer.start
        sweep := { s.sweep with beaconCount := 0 }
        line := { queue := [.beacon], beaconWant := false, lastSender := s.ctl.slot, escalated := false, retry := false,
                  consecutive := 0, muted := false, collisions := 0, errors := 0, stale := 0,
                  out := if s.line.flying.isSome then .jam else s.line.out }
        seq := { allowance := 0, timer := .stopped, mode := .continuous, heldStep := false }
        hw := { probes := [], driven := [], delivered := [] }
        supply := { s.supply with warnRun := 0, recoverRun := 0 }
        ctl := { s.ctl with st := .setup, ret := none, listenCount := 0, listenOver := false }
        events := { flags := 1, enables := 0, master := false }
        notices := []
        lamp := if s.lamp.mode = .off then s.lamp else { mode := .off, position := 0 } }

/-- UNMUTE, in every station state but STARTING, clears mute, ends retry mode and sets the consecutive retry collisions to
0; it answers whether the station was muted and in retry mode; the lamp follows. -/
def Obligations.UnmuteClears : Prop :=
  ∀ (k : Nat) (s : State), s.portReady → s.ctl.st ≠ .starting →
    ∃ b : Byte, b.getLsbD 0 = s.line.muted ∧ b.getLsbD 1 = s.line.retry ∧
      exec (.unmute k) s = .next (State.answered (2 + k) 0x51 .ok [b]
        (State.judgeLamp { s with line := { s.line with muted := false, retry := false, consecutive := 0 } }))

/-! ### Refused records -/

/-- A record that fails a check of R166 changes the response and the take number alone: BAD_LENGTH for a lone code byte,
UNKNOWN_CMD for a code that is no command, BAD_LENGTH for a length byte that is not the command's or a payload cut short,
and STATE or FROZEN by the table of R168. A transfer of no bytes changes nothing but that it ends. -/
def Obligations.RefusedRecords : Prop :=
  ∀ s : State, s.portReady →
    (s.card.received = [] → exec (.rejectedRecord []) s = .next { s with card := { s.card with
      transfer := .idle, shifted := [] } }) ∧
    (∀ (bytes : List Byte) (code : Byte), s.card.received ++ bytes = [code] →
      exec (.rejectedRecord bytes) s = .next (s.answered 1 code .badLength [])) ∧
    (∀ (bytes rest : List Byte) (code len : Byte), s.card.received ++ bytes = code :: len :: rest →
      let lengths : List (Byte × Nat) := [(0x10, 0), (0x11, 7), (0x12, 0), (0x20, 12), (0x21, 2), (0x22, 2), (0x23, 2),
        (0x24, 2), (0x25, 1), (0x30, 0), (0x31, 0), (0x32, 2), (0x40, 3), (0x41, 0), (0x50, 0), (0x51, 0), (0xFF, 0)]
      ((∀ n, (code, n) ∉ lengths) →
        exec (.rejectedRecord bytes) s = .next (s.answered (2 + rest.length) code .unknownCmd [])) ∧
      (∀ n, (code, n) ∈ lengths → len.toNat ≠ n ∨ rest.length < n →
        exec (.rejectedRecord bytes) s = .next (s.answered (2 + rest.length) code .badLength []))) ∧
    (∀ (k a b : Nat) (c : Settings) (w : BitVec 16),
      let no (i : Instr) (n : Nat) (code : Byte) (r : ResultCode) := exec i s = .next (s.answered (n + k) code r [])
      (s.ctl.st = .quiesce → no (.configure k c) 9 0x11 .frozen ∧ no (.drop k a) 4 0x21 .frozen ∧
        no (.rearm k a) 4 0x22 .frozen ∧ no (.setPace k a b) 5 0x40 .frozen ∧ no (.go k) 2 0x12 .state ∧
        no (.stepPace k) 2 0x41 .state) ∧
      (s.running = true → no (.configure k c) 9 0x11 .state ∧ no (.go k) 2 0x12 .state) ∧
      (s.ctl.st = .setup → no (.rearm k a) 4 0x22 .state ∧ no (.stepPace k) 2 0x41 .state) ∧
      (s.ctl.st = .starting → no (.unmute k) 2 0x51 .state) ∧
      (s.ctl.st = .starting ∨ s.ctl.st = .strapFault → no (.configure k c) 9 0x11 .state ∧ no (.go k) 2 0x12 .state ∧
        no (.drop k a) 4 0x21 .state ∧ no (.rearm k a) 4 0x22 .state ∧ no (.setPace k a b) 5 0x40 .state ∧
        no (.stepPace k) 2 0x41 .state ∧ no (.query k a) 4 0x23 .state ∧ no (.readEntry k a b) 4 0x24 .state ∧
        no (.readPeer k a) 3 0x25 .state ∧ no (.readNotices k) 2 0x30 .state ∧ no (.readEvents k) 2 0x31 .state ∧
        no (.setEnables k w) 4 0x32 .state ∧ no (.purge k) 2 0x50 .state))

/-! ### Starts -/

/-- A start, from any of its causes and in any station state, resets every block but the Retention Store; the records keep
their retained fields and come back at rest; an edit that the start cuts short leaves the store with a wrong sum
(log 7). The last sender keeps the slot last read until the straps are read (log 10). That the records stand PARKED or
CLASHED on PRIMARY from the entry to STARTING on, and not only at the end of a warm start, is the model's reading (log 23). -/
def Obligations.StartResets : Prop :=
  ∀ (cause : StartCause) (cut : EditCut) (s : State), s.calm →
    ∃ t, exec (.start cause cut) s = .next t ∧
      t.ctl = { s.ctl with st := .starting, ret := none, listenCount := 0, listenOver := false, resetHeld := true,
                           firstValid := false } ∧
      t.peers = List.replicate 24 Peer.start ∧ t.sweep = { remaining := none, beaconCount := 0 } ∧
      t.line = { queue := [], beaconWant := false, lastSender := s.ctl.slot, escalated := false, retry := false,
                 consecutive := 0, muted := false, collisions := 0, errors := 0, stale := 0, out := .released } ∧
      t.seq = { allowance := 0, timer := .stopped, mode := .continuous, heldStep := false } ∧
      t.hw = { probes := [], driven := [], delivered := [] } ∧
      t.supply = { sample := 0, warnRun := 0, recoverRun := 0 } ∧
      t.card.response.bytes = [0x00, 0x00, 0x01, 0x00] ∧ t.card.take = 0 ∧ t.card.transfer = .idle ∧
      (s.card.transfer ≠ .idle → t.card.discarded = true) ∧
      t.events = { flags := 0, enables := 0, master := false } ∧ t.notices = [] ∧
      t.lamp = { mode := .fast, position := 0 } ∧
      t.records.map Circuit.retained = s.records.map Circuit.retained ∧
      (∀ r ∈ t.records, r.state = (if r.clashMark = true then .clashed else .parked) ∧ r.inUse = .primary ∧
        r.clashPending = false) ∧
      (cut = .none → t.store = s.store) ∧ (cut ≠ .none → t.sumZero = false)

/-- The straps are read when the reset cause ends: STRAP FAULT for a slot at or above the shelf size; else the station
stays in STARTING with the first judgement of the store, and the last sender is the own slot. -/
def Obligations.StrapsRead : Prop :=
  ∀ (slot pins : Nat) (s : State), s.calm → s.ctl.st = .starting → s.ctl.resetHeld = true → slot < 32 → pins < 4 →
    let size := if pins = 0 then 8 else if pins = 1 then 12 else if pins = 2 then 16 else 24
    ∃ t, exec (.strapRead slot pins) s = .next t ∧ t.ctl.slot = slot ∧ t.ctl.size = size ∧ t.ctl.resetHeld = false ∧
      t.line = { s.line with lastSender := slot } ∧ t.records = s.records ∧ t.store = s.store ∧ t.peers = s.peers ∧
      t.supply = s.supply ∧ t.card = s.card ∧ t.events = s.events ∧ t.seq = s.seq ∧
      (size ≤ slot → t.ctl.st = .strapFault ∧ t.lamp.mode = .steady) ∧
      (slot < size → t.ctl.st = .starting ∧ t.lamp = s.lamp ∧
        (t.ctl.firstValid = true ↔ s.store.keepAlive = true ∧ s.sumZero = true ∧
          (s.store.settings.period ∈ [8, 16, 32, 64] ∧ s.store.settings.floor ≤ 255 ∧ s.store.settings.warn ≤ 255 ∧
            1 ≤ s.store.settings.slope ∧ s.store.settings.slope ≤ 15 ∧ 4 ≤ s.store.settings.burst ∧
            s.store.settings.burst ≤ 63 ∧ 1 ≤ s.store.settings.reload ∧ s.store.settings.reload ≤ 1023 ∧ s.store.settings.warn + 8 ≤ s.store.settings.floor) ∧
          s.store.keptSlot = slot ∧ s.store.keptSize = size))

/-- The end of a start, four results at or above the recovery level after its straps were read: with a valid store warm,
with an invalid one cold, each with its effects on every block. -/
def Obligations.StartEnds : Prop :=
  ∀ s : State, s.ctl.st = .starting → s.ctl.resetHeld = false → s.supply.recoverRun = 4 →
    (s.storeValid = true → ∃ t, exec .warmStart s = .next t ∧ exec .coldStart s = .next s ∧
      t.store.epoch = s.store.epoch + 1 ∧ t.store.settings = s.store.settings ∧ t.store.keepAlive = true ∧
      t.sumZero = true ∧ t.ctl = { s.ctl with st := .relink, listenCount := 0, listenOver := false } ∧
      t.records.map Circuit.retained = s.records.map Circuit.retained ∧
      (∀ r ∈ t.records, r.state = (if r.clashMark = true then .clashed else .parked) ∧ r.inUse = .primary ∧
        r.sendCount = 0 ∧ r.sweepsSinceSend = 0 ∧ r.claimDue = false ∧ r.rollMark = false ∧ r.scopeMark = false) ∧
      t.sweep = { remaining := some s.store.settings.period, beaconCount := 0 } ∧ t.owes .beacon ∧
      (∀ p, p < s.peers.length →
        t.peer p = if s.addressable p = true then { s.peer p with rollOut := .owed } else s.peer p) ∧
      (s.seq.mode = .continuous → t.seq = { s.seq with timer := .running s.store.settings.reload }) ∧
      t.events = s.events.raise .start ∧ t.notices = s.notices) ∧
    (s.storeValid = false → ∃ t, exec .coldStart s = .next t ∧ exec .warmStart s = .next s ∧
      t.records = [] ∧ t.store.settings = { period := 16, floor := 168, warn := 152, slope := 4, burst := 12,
                                            reload := 20 } ∧
      t.store.keptSlot = s.ctl.slot ∧ t.store.keptSize = s.ctl.size ∧ t.store.epoch = 0 ∧ t.store.keepAlive = true ∧
      t.sumZero = true ∧ t.ctl = { s.ctl with st := .setup } ∧
      t.sweep = { remaining := some 16, beaconCount := 0 } ∧ t.owes .beacon ∧ t.peers = s.peers ∧ t.seq = s.seq ∧
      t.events = s.events.raise .start ∧ t.notices = s.notices)

/-- The keep-alive mark is cleared whenever the hold-up supply falls, with no other effect, and stays clear through every
row but PURGE until a cold start; a store without it is not valid. -/
def Obligations.KeepAliveStaysClear : Prop :=
  (∀ s : State, s.calm → exec .keepAliveClear s = .next { s with store := { s.store with keepAlive := false } }) ∧
  (∀ s : State, s.store.keepAlive = false → s.storeValid = false) ∧
  (∀ (c : Instr) (s t : State), s.store.keepAlive = false → s.startDue = false → (∀ k, c ≠ .purge k) →
    exec c s = .next t → t.store.keepAlive = false)

/-! ### Supply Monitor -/

/-- A result becomes the sample in hand and takes both runs by the threshold of the station state; where it gives no sag
warning and no recovery that the station state acts on, nothing else changes; while the reset cause persists there is no
result. The threshold in STRAP FAULT is a free value (log 9). -/
def Obligations.SupplyRuns : Prop :=
  ∀ (mv : Nat) (s : State), s.calm →
    (s.ctl.resetHeld = true → exec (.conversionResult mv) s = .next s) ∧
    (s.ctl.resetHeld = false →
      let r := min 255 (mv / 250)
      let w := if s.ctl.st = .strapFault then Config.strapFaultThreshold
        else if s.ctl.st = .starting ∧ s.ctl.firstValid = false then 152 else s.store.settings.warn
      ¬ (r < w ∧ s.supply.warnRun = 1 ∧ s.edits) →
      ¬ (w + 8 ≤ r ∧ s.supply.recoverRun = 3 ∧ s.ctl.st = .quiesce) →
      exec (.conversionResult mv) s = .next { s with supply :=
        { sample := r
          warnRun := if r < w then min 2 (s.supply.warnRun + 1) else 0
          recoverRun := if w + 8 ≤ r then min 4 (s.supply.recoverRun + 1) else 0 } })

/-- The second result in a row below W moves a station in SETUP, RELINK or SERVICE to QUIESCE: the state it left is the
return state, every PROBING record is CONFIRMED with its slot freed and its weight refunded, the pace timer stops with the
held step mark by its mode, a frame being sent is aborted with its request kept and no collision counted, SAG is raised,
and no notice is posted. -/
def Obligations.SagWarningQuiesces : Prop :=
  ∀ (mv : Nat) (a : Announced) (s : State), s.Safe → s.calm → s.ctl.resetHeld = false →
    s.ctl.st = stationOf a → s.supply.warnRun = 1 → min 255 (mv / 250) < s.store.settings.warn →
    ∃ t, exec (.conversionResult mv) s = .next t ∧
      t.ctl = { s.ctl with st := .quiesce, ret := some a } ∧
      t.supply = { sample := min 255 (mv / 250), warnRun := 2, recoverRun := 0 } ∧
      t.hw = { s.hw with probes := [] } ∧ (∀ r ∈ t.records, r.state.isProbing = false) ∧
      t.seq.allowance = min (2 * s.store.settings.burst) (s.seq.allowance + s.probingWeight) ∧
      t.seq.timer = .stopped ∧ t.seq.mode = s.seq.mode ∧
      (t.seq.heldStep = true ↔ s.seq.mode = .step ∧ s.seq.timer ≠ .stopped) ∧
      t.line.queue = s.line.queue ∧ t.line.collisions = s.line.collisions ∧ t.line.retry = s.line.retry ∧
      (s.line.flying.isSome → t.line.out = .jam) ∧
      (s.line.flying = none → t.line = s.line ∧ t.records = s.records.map (fun r =>
        if r.state.isProbing = true then
          { r with state := .confirmed, sendCount := 0, sweepsSinceSend := 0, resendDue := false, claimDue := false }
        else r)) ∧
      t.events = s.events.raise .sag ∧ t.notices = s.notices ∧ t.store = s.store ∧ t.sweep = s.sweep

/-- The fourth result in a row at or above W + 8 brings a station in QUIESCE back to its return state: RECOVER is raised, a
BEACON is posted, the pending clash marks are written as a table edit, the pace timer starts as its mode and the held step
mark say, the listen count stands, and no notice is posted. In RELINK and SERVICE the releasable rolls and then the single
OFFERs that wait are posted, by slot, and an attempt is made, which spends what it opens; no other record changes state. -/
def Obligations.RecoveryReturns : Prop :=
  ∀ (mv : Nat) (a : Announced) (s : State), s.calm → s.ctl.resetHeld = false → s.ctl.st = .quiesce →
    s.ctl.ret = some a → s.supply.recoverRun = 3 → s.store.settings.warn + 8 ≤ min 255 (mv / 250) →
    ∃ t, exec (.conversionResult mv) s = .next t ∧ t.ctl.ret = none ∧ t.ctl.listenCount = s.ctl.listenCount ∧
      t.ctl.listenOver = s.ctl.listenOver ∧
      (t.ctl.st = stationOf a ∨ (a = .relink ∧ s.ctl.listenOver = true ∧ t.ctl.st = .service)) ∧
      t.events.has .recover = true ∧ t.owes .beacon ∧ t.notices = s.notices ∧
      t.records.map Circuit.retained =
        s.records.map (fun r => (r.place, r.toFixed, r.clashMark || r.clashPending)) ∧
      (∀ r ∈ t.records, r.clashPending = false) ∧ (s.sumZero = true → t.sumZero = true) ∧
      t.seq.timer = (if a = .setup then .stopped
        else if s.seq.mode = .continuous ∨ s.seq.heldStep = true then .running s.store.settings.reload
        else s.seq.timer) ∧
      (s.seq.mode = .step → t.seq.heldStep = false) ∧ t.peers.length = s.peers.length ∧
      (s.Safe → s.ctl.size ≤ 24 →
        let rolls := s.slotOrder.filter (fun p => (s.peer p).up && (s.peer p).rollOut == .owed &&
          (a == .service || (a == .relink && s.ctl.listenOver)))
        let singles := s.slotOrder.filter (fun p => (s.peer p).up && a != .setup &&
          s.records.any (fun r => r.farSlot == p && r.claimDue && !r.rollMark))
        let posts : List Request := .beacon :: (rolls.map .roll ++ singles.map .singleOffer)
        let fresh := posts.filter (fun req => !s.line.queue.contains req)
        (∀ req ∈ posts, t.owes req) ∧
        (s.line.queue.length + fresh.length ≤ 24 → t.line.queue = s.line.queue ++ fresh) ∧
        (a ≠ .setup → t.Exhausted) ∧ t.seq.allowance + t.probingWeight = s.seq.allowance ∧
        ∀ r ∈ s.records, ∃ x ∈ t.records, x.place = r.place ∧ x.inUse = r.inUse ∧ x.rollMark = r.rollMark ∧
          (x.state = r.state ∧ x.claimDue = r.claimDue ∨
            a ≠ .setup ∧ r.state = .confirmed ∧ x.state.isProbing = true))

/-! ### Sweep -/

/-- A sweep event ages every PRESENT peer, and, each in the station states of its rule, counts the gap of every RECEIVING
channel, the sweeps since send of every OFFERED record, the beacon count and the listen count; a new interval begins; while
the clock is stopped there is none. The mark of a resend that is due is the model's own (log 2), and so is the moment in which
a beacon count stands at 4 (log 25): R61 has it become 0 and post the BEACON, which is the row BEACON_DUE here. -/
def Obligations.SweepAges : Prop :=
  ∀ s : State, s.calm →
    (s.sweep.remaining = none → exec .sweep s = .next s) ∧
    (s.sweep.remaining ≠ none → exec .sweep s = .next { s with
      peers := s.peers.map (fun x => { x with
        sinceHeard := if x.presence = .present then (if x.sinceHeard < 12 then x.sinceHeard + 1 else 12)
                      else x.sinceHeard
        channel := match x.channel with
          | .idle => .idle
          | .receiving d n g =>
            .receiving d n (if s.running = true ∨ s.ctl.st = .quiesce then (if g < 3 then g + 1 else 3) else g) })
      records := s.records.map (fun r =>
        if (s.running = true ∨ s.ctl.st = .quiesce) ∧ r.state = .offered ∧ r.sweepsSinceSend < 6 then
          { r with sweepsSinceSend := r.sweepsSinceSend + 1, resendDue := r.sweepsSinceSend == 5 }
        else r)
      sweep := { remaining := some s.store.settings.period
                 beaconCount := if s.edits then (if s.sweep.beaconCount < 4 then s.sweep.beaconCount + 1 else 4)
                                else s.sweep.beaconCount }
      ctl := { s.ctl with listenCount :=
        if s.ctl.st = .relink then (if s.ctl.listenCount < 8 then s.ctl.listenCount + 1 else 8)
        else s.ctl.listenCount } })

/-- A peer that reaches 12 sweeps since heard goes SILENT: its lists are empty, its channel IDLE, its want marks clear and
no request for it is queued, a SENDING roll is OWED again, no record towards it keeps a scope mark. Where the station minds
its records, each that is PARKED or OFFERED towards it goes to DEFERRED with a notice, in class order, and DEFERRAL is
raised; elsewhere none changes state. No other record changes state, but a CONFIRMED one that an opening takes. In a QUIESCE
that returns to SETUP a free value says whether records are minded (log 29). The other peers are untouched. -/
def Obligations.SilentPeer : Prop :=
  ∀ (p : Nat) (s : State), s.Safe → p < 24 → (s.peer p).presence = .present → 12 ≤ (s.peer p).sinceHeard →
    let hit := s.inClassOrder (fun r => r.farSlot == p && (r.state == .parked || r.state == .offered))
    let ended : Bool := (s.peer p).rollOut == .sending
    ∃ t, exec (.peerSilent p) s = .next t ∧
      t.peer p = { s.peer p with
        presence := .silent, channel := .idle, verdicts := [], releases := []
        rollOut := if (s.peer p).rollOut = .sending then .owed else (s.peer p).rollOut
        wants := { roll := false, rollOffer := false, singleOffer := false, answer := false, release := false } } ∧
      (∀ q, q ≠ p → t.peer q = s.peer q) ∧ (∀ req ∈ t.line.queue, req.peer ≠ some p) ∧
      (∀ req ∈ s.line.queue, req.peer ≠ some p → req ∈ t.line.queue) ∧
      (s.Minds →
        (s.notices.length + hit.length ≤ 32 → t.notices = s.notices ++ noticesOf .deferred hit) ∧
        (hit ≠ [] → t.events.has .deferral = true) ∧
        ∀ r ∈ hit, ∃ x ∈ t.records, x.retained = r.retained ∧ x.state = .deferred ∧ x.inUse = r.inUse ∧
          x.claimDue = false ∧ x.sendCount = 0) ∧
      (¬ s.Minds → t.notices = s.notices ∧ t.events = s.events ∧ t.records = s.records.map (fun r =>
        if r.farSlot = p then { r with scopeMark := false, rollMark := r.rollMark && !ended } else r)) ∧
      (∀ r ∈ s.records, (s.Minds → r ∉ hit) → ∃ x ∈ t.records, x.retained = r.retained ∧ x.inUse = r.inUse ∧
        (x.state = r.state ∨ (r.state = .confirmed ∧ x.state.isProbing = true))) ∧
      (∀ r ∈ t.records, r.farSlot = p → r.scopeMark = false ∧ (ended = true → r.rollMark = false) ∧
        (s.Minds → r.state ≠ .parked ∧ r.state ≠ .offered)) ∧
      t.store = s.store

/-- The beacon count that reached 4 becomes 0 and posts a BEACON, which an equal request absorbs and a full queue turns into
the beacon-want mark, with escalation judged by the new length; and a roll-in channel that reached a gap count of 3 is
abandoned with ROLL_CHECK and the scope marks towards its peer cleared, and nothing refused. -/
def Obligations.BeaconAndGap : Prop :=
  (∀ s : State, 4 ≤ s.sweep.beaconCount → exec .beaconDue s = .next { s with
    sweep := { s.sweep with beaconCount := 0 }
    line := if .beacon ∈ s.line.queue then s.line
      else if s.line.queue.length < 24 then { s.line with
        queue := s.line.queue ++ [.beacon]
        escalated := if 16 ≤ s.line.queue.length + 1 then true
          else if s.line.queue.length + 1 ≤ 6 then false else s.line.escalated }
      else { s.line with beaconWant := true } }) ∧
  (∀ s : State, s.sweep.beaconCount < 4 → exec .beaconDue s = .next s) ∧
  (∀ (p d n g : Nat) (s : State), (s.peer p).channel = .receiving d n g →
    (g < 3 → exec (.rollAbandon p) s = .next s) ∧
    (3 ≤ g → exec (.rollAbandon p) s = .next { s with
      peers := s.peers.set p { s.peer p with channel := .idle }
      records := s.records.map (fun r => if r.farSlot = p then { r with scopeMark := false } else r)
      events := s.events.raise .rollCheck }))

/-- An OFFERED record that reached 6 sweeps since send: with a send count below 4 its claim is due again and its single
OFFER is posted where its peer is up; with 4 it goes to DEFERRED, with DEFERRAL and its notice. -/
def Obligations.ClaimResent : Prop :=
  ∀ (r : Circuit) (s : State), s.tableOk → r ∈ s.records → r.state = .offered → r.resendDue = true →
    (r.sendCount < 4 → ∃ t, exec (.claimResend r.tag) s = .next t ∧
      t.records = s.records.map (fun x => if x.place = r.place then { r with resendDue := false, claimDue := true }
                                          else x) ∧
      (s.running = true → (s.peer r.farSlot).up = true → r.rollMark = false → t.owes (.singleOffer r.farSlot)) ∧
      t.notices = s.notices ∧ t.events = s.events ∧ t.store = s.store ∧ t.hw = s.hw ∧ t.seq = s.seq) ∧
    (4 ≤ r.sendCount → ∃ t, exec (.claimResend r.tag) s = .next t ∧
      (∃ x ∈ t.records, x.retained = r.retained ∧ x.state = .deferred ∧ x.sendCount = 0 ∧ x.sweepsSinceSend = 0 ∧
        x.claimDue = false) ∧
      t.events.has .deferral = true ∧
      (s.notices.length < 32 → t.notices = s.notices ++ [{ tag := r.tag, kind := .deferred, cls := r.cls }]) ∧
      t.records.map Circuit.retained = s.records.map Circuit.retained ∧ t.store = s.store)

/-- The listen count that reached 8 ends the listen interval once: every releasable roll has its ROLL posted, and every
PARKED record whose peer is absent or in SETUP goes to DEFERRED with a notice, in class order, and DEFERRAL is raised; the
records that were in another state, but for those that an opening has moved on, stay as they were. RELINK then ends exactly
where no PRESENT peer in RELINK or SERVICE has a roll OWED or SENDING and no record is PARKED, OFFERED, CONFIRMED or PROBING:
the station enters SERVICE, raises RELINK_DONE and posts a BEACON, and the pace timer stands as it was. -/
def Obligations.ListenIntervalEnds : Prop :=
  ∀ s : State, s.tableOk → s.peers.length = 24 → s.ctl.size ≤ 24 → s.ctl.slot < s.ctl.size → s.ctl.st = .relink →
    s.ctl.listenCount = 8 → s.ctl.listenOver = false →
    let absent := s.inClassOrder (fun r => r.state == .parked && !(s.peer r.farSlot).up)
    ∃ t, exec .listenIntervalEnd s = .next t ∧
      (∀ p, s.addressable p = true → (s.peer p).rollOut = .owed → (s.peer p).up = true → t.owes (.roll p)) ∧
      (s.notices.length + absent.length ≤ 32 → t.notices = s.notices ++ noticesOf .deferred absent) ∧
      (absent ≠ [] → t.events.has .deferral = true) ∧
      (∀ r ∈ absent, ∃ x ∈ t.records, x.retained = r.retained ∧ x.state = .deferred ∧ x.inUse = r.inUse ∧
        x.claimDue = false) ∧
      (∀ r ∈ s.records, r.state ≠ .confirmed → (r.state = .parked → (s.peer r.farSlot).up = true) → r ∈ t.records) ∧
      (∀ r ∈ s.records, r.state = .confirmed → ∃ x ∈ t.records, x.retained = r.retained ∧ x.inUse = r.inUse ∧
        (x.state = .confirmed ∨ x.state.isProbing = true)) ∧
      t.records.map Circuit.retained = s.records.map Circuit.retained ∧ t.store = s.store ∧
      t.seq = { s.seq with allowance := t.seq.allowance } ∧
      (s.Safe → t.seq.allowance + t.probingWeight = s.seq.allowance + s.probingWeight) ∧
      let ends := (∀ x ∈ s.peers, x.up = true → x.rollOut = .none) ∧
        ∀ r ∈ t.records, r.state.isOpen = true ∨ r.state = .deferred ∨ r.state.isRefused = true ∨ r.state = .clashed
      (ends → t.ctl = { s.ctl with st := .service, listenOver := true } ∧ t.events.has .relinkDone = true ∧
        t.owes .beacon ∧ t.sweep = { s.sweep with beaconCount := 0 }) ∧
      (¬ ends → t.ctl = { s.ctl with listenOver := true } ∧ t.sweep = s.sweep ∧
        t.events.has .relinkDone = s.events.has .relinkDone)

/-! ### Restore order and pacing -/

/-- The candidate is the first CONFIRMED record of the barrier class, the lowest class with a record that is PARKED, OFFERED
or CONFIRMED; where that class has no CONFIRMED record, or there is no such class, there is no candidate. -/
def Obligations.CandidateIsFirst : Prop :=
  ∀ s : State, (∀ r ∈ s.records, r.cls ≤ 3) → ∀ r : Circuit, s.candidate = some r ↔
    ∃ before after, s.records = before ++ r :: after ∧ r.state = .confirmed ∧
      (∀ x ∈ before, x.cls = r.cls → x.state ≠ .confirmed) ∧
      ∀ x ∈ s.records, x.state = .parked ∨ x.state = .offered ∨ x.state = .confirmed → r.cls ≤ x.cls

/-- A pace expiry in RELINK and SERVICE adds the grant, capped, and restarts or stops the timer by the pace mode; where no
record is CONFIRMED and RELINK does not end, that is all; where the timer is STOPPED or the station is in another state
there is no expiry. -/
def Obligations.PaceExpiryGrants : Prop :=
  ∀ s : State, s.calm →
    (s.running = false ∨ s.seq.timer = .stopped → exec .paceExpiry s = .next s) ∧
    (∀ n, s.running = true → s.seq.timer = .running n → (∀ r ∈ s.records, r.state ≠ .confirmed) →
      s.relinkDone = false →
      let c := s.store.settings
      let headroom := s.supply.sample - c.floor
      let grant := min c.burst (headroom * c.slope / 8)
      exec .paceExpiry s = .next { s with seq := { s.seq with
        allowance := min (2 * c.burst) (s.seq.allowance + grant)
        timer := if s.seq.mode = .continuous then .running c.reload else .stopped } })

/-- An expiry sends candidates to PROBING until none is left, the next does not fit the allowance, or every slot is held;
what it opens it pays for by weight; a record that goes to PROBING was CONFIRMED and stands at a slot on the talk half of
its in-use lane with a full window; and no other record changes. -/
def Obligations.AttemptLeavesNothingThatFits : Prop :=
  ∀ (n : Nat) (s : State), s.Safe → s.calm → s.running = true → s.seq.timer = .running n →
    ∃ t, exec .paceExpiry s = .next t ∧
      t.Exhausted ∧
      t.seq.allowance + t.probingWeight =
        min (2 * s.store.settings.burst) (s.seq.allowance +
            min s.store.settings.burst ((s.supply.sample - s.store.settings.floor) * s.store.settings.slope / 8)) +
          s.probingWeight ∧
      (∀ r ∈ t.records, r ∈ s.records ∨ ∃ x ∈ s.records, x.state = .confirmed ∧ r.retained = x.retained ∧
        r.inUse = x.inUse ∧ ∃ k, r.state = .probing k ∧
          { slot := k, place := x.place, lane := x.lane, half := if s.ctl.slot < x.farSlot then .a else .b,
            remaining := 16, seen := false : Probe } ∈ t.hw.probes) ∧
      t.records.map Circuit.retained = s.records.map Circuit.retained ∧ t.notices = s.notices ∧ t.store = s.store

/-! ### Highway -/

/-- The oldest window that has ended is reported: clear, and its record is OPEN with an OPEN notice; foul, and its record
moves to the standby lane, OFFERED with its claim due or DEFERRED without a notice by its peer, or to CLASHED with its mark,
its notice and a CLASH for its peer, which a full list turns into an overrun. The slot is freed in either case. A clear probe keeps its weight spent, a foul one is refunded, up to the
cap; and the attempt that follows opens all that fits, by its weight. -/
def Obligations.ProbeCompletes : Prop :=
  ∀ (p : Probe) (rest : List Probe) (r : Circuit) (s : State), s.Safe → s.running = true → s.hw.probes = p :: rest →
    p.remaining = 0 → r ∈ s.records → r.place = p.place →
    let note (k : NoticeKind) : Notice := { tag := r.tag, kind := k, cls := r.cls }
    ∃ t, exec .probeCompletion s = .next t ∧ (∀ q ∈ t.hw.probes, q.place ≠ r.place) ∧ t.Exhausted ∧
      t.seq.allowance + t.probingWeight + r.weight = s.probingWeight +
        (if p.seen = true then min (2 * s.store.settings.burst) (s.seq.allowance + r.weight) else s.seq.allowance) ∧
      (p.seen = false → (∃ x ∈ t.records, x.retained = r.retained ∧ x.state = .opened 0 ∧ x.inUse = r.inUse) ∧
        (s.notices.length < 32 → t.notices = s.notices ++ [note .opened])) ∧
      (p.seen = true → r.standby.isSome = true → r.inUse = .primary →
        (∃ x ∈ t.records, x.retained = r.retained ∧ x.inUse = .standby ∧
          (if (s.peer r.farSlot).up = true then x.state = .offered ∧ x.sendCount = 0 ∧ x.claimDue = true
           else x.state = .deferred ∧ x.claimDue = false)) ∧
        ((s.peer r.farSlot).up = true → r.rollMark = false → t.owes (.singleOffer r.farSlot)) ∧
        ((s.peer r.farSlot).up = false → t.events.has .deferral = true) ∧
        (s.notices.length < 32 → t.notices = s.notices ++ [note .laneMoved])) ∧
      (p.seen = true → r.standby = none ∨ r.inUse = .standby →
        (∃ x ∈ t.records, x.retained = (r.place, r.toFixed, true) ∧ x.state = .clashed ∧ x.scopeMark = false) ∧
        t.sumZero = true ∧ t.events.has .clash = true ∧
        (s.notices.length < 32 → t.notices = s.notices ++ [note .clashed]) ∧
        s.TellsClash r t)

/-- The gate whose run of mismatched frames reached 3, where no other has, is closed with no refund: its record moves to the
standby lane with a notice, OFFERED with its claim due and, outside QUIESCE, its single OFFER posted, or DEFERRED with
DEFERRAL, by its peer; or to CLASHED, with its notice, CLASH, a CLASH for its peer that a full list turns into an overrun, and
the mark written as a table edit, but held pending in QUIESCE. -/
def Obligations.EchoFaultMoves : Prop :=
  ∀ (r : Circuit) (n : Nat) (s : State), s.Safe → s.running = true ∨ s.ctl.st = .quiesce → r ∈ s.records →
    r.state = .opened n → 3 ≤ n → (∀ x ∈ s.records, ∀ m, x.state = .opened m → 3 ≤ m → x = r) →
    let note (k : NoticeKind) : Notice := { tag := r.tag, kind := k, cls := r.cls }
    ∃ t, exec .echoFault s = .next t ∧ t.seq.allowance = s.seq.allowance ∧ t.hw = s.hw ∧
      (r.standby.isSome = true → r.inUse = .primary →
        (∃ x ∈ t.records, x.retained = r.retained ∧ x.inUse = .standby ∧
          (if (s.peer r.farSlot).up = true then x.state = .offered ∧ x.sendCount = 0 ∧ x.claimDue = true
           else x.state = .deferred ∧ x.claimDue = false)) ∧
        (s.running = true → (s.peer r.farSlot).up = true → r.rollMark = false → t.owes (.singleOffer r.farSlot)) ∧
        (s.ctl.st = .quiesce → t.line = s.line) ∧
        ((s.peer r.farSlot).up = false → t.events.has .deferral = true) ∧ t.store = s.store ∧
        (s.notices.length < 32 → t.notices = s.notices ++ [note .laneMoved])) ∧
      (r.standby = none ∨ r.inUse = .standby →
        (∃ x ∈ t.records, x.state = .clashed ∧ x.clashMark = (if s.ctl.st = .quiesce then r.clashMark else true) ∧
          x.clashPending = (if s.ctl.st = .quiesce then true else r.clashPending) ∧ x.scopeMark = false ∧
          x.place = r.place ∧ x.toFixed = r.toFixed) ∧
        (s.running = true → t.sumZero = true) ∧ (s.ctl.st = .quiesce → t.store = s.store) ∧
        t.events.has .clash = true ∧ (s.notices.length < 32 → t.notices = s.notices ++ [note .clashed]) ∧
        s.TellsClash r t)

/-- One highway frame: a half is driven for each OPEN record, on its in-use lane and the talk half of its slot order, with
its local port's sample, or the idle value; every HELD probe slot counts a frame and notes a drive on its half; every gate's
run rises where the half it drives carries another sample, and is 0 where it does not. Nothing else changes. The idle value
is a free value (log 8), and the order in which the halves are listed is the model's (log 14). -/
def Obligations.HighwayFrameWatches : Prop :=
  ∀ (h : HighwayInput) (s : State), s.calm →
    let carried (lane : Nat) (half : Half) : Option Byte :=
      (h.carried.find? (fun x => x.lane == lane && x.half == half)).map HalfSample.sample
    let sent (port : Nat) : Byte := ((h.sent.find? (fun x => x.port == port)).map PortSample.sample).getD Config.idleSample
    let talk (r : Circuit) : Half := if s.ctl.slot < r.farSlot then .a else .b
    let listen (r : Circuit) : Half := if s.ctl.slot < r.farSlot then .b else .a
    let gates := (List.range 4).flatMap (fun c => s.records.filter (fun r => r.cls == c && r.state.isOpen))
    exec (.highwayFrame h) s = .next { s with
      records := s.records.map (fun r => match r.state with
        | .opened n =>
          let clash := match carried r.lane (talk r) with
            | some x => x != sent r.localPort
            | none => false
          { r with state := .opened (if clash = true then (if n < 3 then n + 1 else 3) else 0) }
        | _ => r)
      hw := {
        probes := s.hw.probes.map (fun p =>
          { p with remaining := p.remaining - 1, seen := p.seen || (carried p.lane p.half).isSome })
        driven := gates.map (fun r => { lane := r.lane, half := talk r, sample := sent r.localPort })
        delivered := gates.map (fun r =>
          { port := r.localPort, sample := (carried r.lane (listen r)).getD Config.idleSample }) } }

/-! ### Sending -/

/-- The windows of one counting of positions: an eligible station takes its NORMAL position, its URGENT one when escalated,
and its RETRY one alone in retry mode. A station that is not eligible, is sending, or whose position it is not, lets the
position pass unchanged. At its own position a BEACON at the head of the queue goes out from the state as it stands. -/
def Obligations.PositionSendsBeacon : Prop :=
  ∀ (pos : Nat) (s : State), s.calm →
    let d := (s.ctl.slot + 32 * s.ctl.size - (s.line.lastSender + 1)) % s.ctl.size
    let n := pos % (3 * s.ctl.size)
    let own := if s.line.retry = true then n = 2 * s.ctl.size + s.ctl.slot
      else n = s.ctl.size + d ∨ (s.line.escalated = true ∧ n = d)
    (¬ own ∨ ¬ s.edits ∨ s.line.muted = true ∨ s.line.queue = [] ∨ s.line.flying.isSome = true →
      exec (.linePosition pos) s = .next s) ∧
    (∀ a rest, own → s.ctl.st = stationOf a → s.line.muted = false → s.line.queue = .beacon :: rest →
      s.line.flying = none →
      exec (.linePosition pos) s = .next { s with line := { s.line with out := .sending {
        req := .beacon, queued := true, carried := [], items := 0,
        bytes := frameBytes 0x01 s.ctl.slot 31 s.store.epoch a [byteOf s.ctl.size] } } })

/-- What the other requests build when they stand at the head at the station's own position: a releasable ROLL marks its
roll set and declares its size; an OFFER carries up to 8 claims of roll-marked records, or of records waiting singly; an
ANSWER and a RELEASE carry the oldest 8 entries of their list. A request with nothing to carry is removed, a roll OFFER
among them ending a roll that is SENDING, and the next request is built in the same position; where none is left the
position passes and the want marks are converted, as many as the queue has room for. -/
def Obligations.PositionBuilds : Prop :=
  ∀ (pos p : Nat) (req : Request) (rest : List Request) (a : Announced) (s : State), s.calm →
    s.ownPosition pos = true → s.ctl.st = stationOf a → s.line.muted = false → s.line.flying = none →
    s.line.queue = req :: rest →
    let sends (kind : Byte) (payload : List Byte) (carried : List Nat) (items : Nat) (x : State) : State :=
      { x with line := { x.line with out := .sending {
        req := req, queued := true, carried := carried, items := items,
        bytes := frameBytes kind s.ctl.slot p s.store.epoch a payload } } }
    let marked := ((s.towards p).filter (fun r => r.rollMark)).take 8
    let waiting := ((s.towards p).filter (fun r => r.claimDue && !r.rollMark)).take 8
    let laneOf (r : Circuit) := if r.inUse = .primary then r.primary else r.standby.getD r.primary
    let claims (rs : List Circuit) := rs.flatMap (fun r =>
      claimBytes { tag := r.tag, claimerPort := r.localPort, lane := laneOf r, addresseePort := r.farPort })
    (req = .roll p → s.releasable p = true →
      exec (.linePosition pos) s = .next (sends 0x02 (wordBytes ((s.towards p).filter (fun r => r.state != .clashed)).length)
        [] 0 { s with
          records := s.records.map (fun r => if r.farSlot = p ∧ r.state ≠ .clashed then { r with rollMark := true } else r)
          peers := s.peers.set p { s.peer p with rollOut := .sending } })) ∧
    (req = .rollOffer p → marked ≠ [] →
      exec (.linePosition pos) s = .next (sends 0x03 (0x01 :: claims marked) (marked.map (·.place)) 0 s)) ∧
    (req = .singleOffer p → waiting ≠ [] → (s.peer p).up = true →
      exec (.linePosition pos) s = .next (sends 0x03 (0x00 :: claims waiting) (waiting.map (·.place)) 0 s)) ∧
    (req = .answer p → (s.peer p).verdicts ≠ [] →
      exec (.linePosition pos) s = .next (sends 0x04 (((s.peer p).verdicts.take 8).flatMap verdictBytes) []
        (min 8 (s.peer p).verdicts.length) s)) ∧
    (req = .release p → (s.peer p).releases ≠ [] →
      exec (.linePosition pos) s = .next (sends 0x05 (((s.peer p).releases.take 8).flatMap wordBytes) []
        (min 8 (s.peer p).releases.length) s)) ∧
    let cut : State := { s with line := { s.line with queue := rest, escalated :=
      if 16 ≤ rest.length then true else if rest.length ≤ 6 then false else s.line.escalated } }
    let left : State := if req = .rollOffer p ∧ (s.peer p).rollOut = .sending then
        State.judgeEnd { cut with peers := cut.peers.set p { cut.peer p with rollOut := .none } }
      else cut
    ((req = .roll p ∧ s.releasable p = false) ∨ (req = .rollOffer p ∧ marked = []) ∨
        (req = .singleOffer p ∧ (waiting = [] ∨ (s.peer p).up = false)) ∨ (req = .answer p ∧ (s.peer p).verdicts = []) ∨
        (req = .release p ∧ (s.peer p).releases = []) →
      (left.line.queue ≠ [] → ∀ next, left.ownPosition next = true →
        exec (.linePosition pos) s = exec (.linePosition next) left) ∧
      (left.line.queue = [] → ∃ t, exec (.linePosition pos) s = .next t ∧ t.line.out = .released ∧
        t.line.queue = s.wantedInOrder.take 24 ∧ t.Converted 0 s.wantedInOrder ∧
        (∀ q, (t.peer q).rollOut = if req = .rollOffer p ∧ q = p ∧ (s.peer p).rollOut = .sending then .none
          else (s.peer q).rollOut) ∧
        t.records = s.records ∧ t.store = s.store ∧ t.ctl = s.ctl ∧ t.events = s.events ∧ t.notices = s.notices))

/-- A frame sent whole: its request leaves the head of the queue, the last sender is the own slot, retry mode ends. A ROLL
is followed by its roll OFFERs, or ends where it marked nothing; a roll OFFER that carried every marked claim ends the roll,
and one that left a mark is followed by the next. An OFFER counts a claim sent for each record it carried, by the state the
record is in, and no other record changes; a single OFFER is followed by the next while a record waits; an ANSWER and a
RELEASE take the entries they carried off their list and post the next one while entries remain. The want marks are then
converted, in their order, as many as the queue has room for, and none is lost; the release pass follows. Where nothing is
being sent there is no such event. -/
def Obligations.SentWhole : Prop :=
  ∀ s : State, s.calm →
    (s.line.flying = none → exec .frameSentWhole s = .next s) ∧
    (∀ f, s.line.out = .sending f → ∃ t, exec .frameSentWhole s = .next t ∧ t.line.flying = none ∧
      t.line.lastSender = s.ctl.slot ∧ t.line.retry = false ∧ t.line.consecutive = 0 ∧
      t.line.collisions = s.line.collisions ∧ t.notices = s.notices ∧ t.store = s.store ∧
      (f.queued = true → s.line.queue.tail <+: t.line.queue) ∧ (∀ req, s.wanted req = true → t.owes req) ∧
      (f.req = .beacon → t.records = s.records ∧
        (s.ctl.slot < s.ctl.size → ∀ p, s.addressable p = true → s.releasable p = true → t.owes (.roll p)) ∧
        let kept := if f.queued = true then s.line.queue.tail else s.line.queue
        (kept.length ≤ 24 → (∀ req ∈ s.wantedInOrder, req ∉ kept) →
          (kept ++ s.wantedInOrder).take 24 <+: t.line.queue ∧ t.Converted kept.length s.wantedInOrder)) ∧
      (∀ p, f.req = .roll p → s.tableOk → (s.peer p).rollOut = .sending → t.records = s.records ∧
        ((∃ r ∈ s.records, r.farSlot = p ∧ r.rollMark = true) →
          (t.peer p).rollOut = .sending ∧ t.owes (.rollOffer p)) ∧
        ((∀ r ∈ s.records, r.farSlot = p → r.rollMark = false) → (t.peer p).rollOut = .none)) ∧
      (∀ p, f.req = .rollOffer p → s.tableOk → s.running = true → (s.peer p).rollOut = .sending →
        (∀ r ∈ s.records, r.farSlot = p → r.rollMark = true → r.place ∈ f.carried) →
        (t.peer p).rollOut = .none ∧ ∀ r ∈ t.records, r.farSlot = p → r.rollMark = false) ∧
      (∀ p, f.req = .rollOffer p → s.tableOk → s.running = true → (s.peer p).rollOut = .sending →
        (∃ r ∈ s.records, r.farSlot = p ∧ r.rollMark = true ∧ r.place ∉ f.carried) →
        (t.peer p).rollOut = .sending ∧ t.owes (.rollOffer p)) ∧
      (∀ p, f.req = .rollOffer p ∨ f.req = .singleOffer p → f.carried.Nodup → s.tableOk → s.running = true →
        (f.req = .singleOffer p → (s.peer p).up = true →
          (∃ x ∈ t.records, x.farSlot = p ∧ x.claimDue = true ∧ x.rollMark = false) → t.owes (.singleOffer p)) ∧
        ∀ r ∈ s.records, (r.place ∉ f.carried → r ∈ t.records) ∧
          (r.place ∈ f.carried → ∃ x ∈ t.records, x.retained = r.retained ∧ x.inUse = r.inUse ∧ x.claimDue = false ∧
            x.rollMark = (r.rollMark && f.req == .singleOffer p) ∧
            (r.state = .parked ∨ r.state = .deferred ∨ r.state.isRefused = true →
              x.state = .offered ∧ x.sendCount = 1 ∧ x.sweepsSinceSend = 0) ∧
            (r.state = .offered → x.state = .offered ∧ x.sweepsSinceSend = 0 ∧
              x.sendCount = if r.sendCount < 4 then r.sendCount + 1 else 4) ∧
            (r.state = .confirmed ∨ r.state.isProbing = true ∨ r.state.isOpen = true ∨ r.state = .clashed →
              x.state = r.state ∧ x.sendCount = r.sendCount))) ∧
      (∀ p, f.req = .answer p → (t.peer p).verdicts = (s.peer p).verdicts.drop f.items ∧
        ((t.peer p).verdicts ≠ [] → t.owes (.answer p))) ∧
      (∀ p, f.req = .release p → (t.peer p).releases = (s.peer p).releases.drop f.items ∧
        ((t.peer p).releases ≠ [] → t.owes (.release p))))

/-- A mismatch while the station sends: the frame is aborted with a jam, the collision counted, and retry mode entered, or
advanced to mute and SLOT_CONFLICT at the second collision in a row; the request stays queued; a ROLL goes back to OWED and
the marks of its build are cleared, and no other kind of frame changes anything. -/
def Obligations.CollisionBacksOff : Prop :=
  ∀ s : State, s.calm →
    (s.line.flying = none → exec .collision s = .next s) ∧
    (∀ f, s.line.out = .sending f → ∃ t, exec .collision s = .next t ∧
      t.line.out = .jam ∧ t.line.collisions = min 255 (s.line.collisions + 1) ∧ t.line.retry = true ∧
      t.line.consecutive = (if s.line.retry = true then min 2 (s.line.consecutive + 1) else 0) ∧
      t.line.muted = (s.line.muted || (s.line.retry && decide (1 ≤ s.line.consecutive))) ∧
      t.line.lastSender = s.line.lastSender ∧ s.line.queue <+: t.line.queue ∧
      t.events = (if s.line.retry = true ∧ 1 ≤ s.line.consecutive then s.events.raise .slotConflict else s.events) ∧
      t.store = s.store ∧ t.ctl = s.ctl ∧ t.notices = s.notices ∧
      ((∀ p, f.req ≠ .roll p) → t.records = s.records ∧ t.peers = s.peers ∧ t.line.queue = s.line.queue) ∧
      (∀ p, f.req = .roll p → (s.peer p).rollOut = .sending →
        (t.peer p).rollOut = .owed ∧ ∀ r ∈ t.records, r.farSlot = p → r.rollMark = false))

/-! ### Frames received -/

/-- A good BEACON is heard from an addressable source, in every station state; a payload that is not the own shelf size is
a line error, wherever the frame is handed on; a source that is not addressable changes the last sender alone. In STARTING
and STRAP FAULT the header is recorded and no restart is recognised. -/
def Obligations.BeaconHeard : Prop :=
  ∀ (f : LineFrame) (s : State), s.calm → s.ctl.resetHeld = false → s.relinkDone = false →
    let checked (x : State) : State :=
      if (f.dst = s.ctl.slot ∨ f.dst = 31) ∧ f.payload ≠ [byteOf s.ctl.size] then x.withLineError else x
    (s.Expects f → exec (.beaconReceived f) s = .next (checked (s.refreshed f))) ∧
    (s.addressable f.src = false →
      exec (.beaconReceived f) s = .next (checked { s with line := { s.line with lastSender := f.src } })) ∧
    (s.addressable f.src = true → s.ctl.st = .starting ∨ s.ctl.st = .strapFault →
      exec (.beaconReceived f) s = .next (checked { s with
        line := { s.line with lastSender := f.src }
        peers := s.peers.set f.src { s.peer f.src with
          presence := .present, sinceHeard := 0, epoch := some f.epoch, st := some f.st } }))

/-- What the header of a frame reveals: a cold restart empties the peer's lists, channel and roll and defers the records
towards it, with a notice for each in class order and DEFERRAL raised, where the station minds its records (in a QUIESCE that
returns to SETUP a free value says whether it does, log 29); a warm restart or an arrival makes its roll OWED, cuts its
channel and changes no record; leaving SETUP makes its roll OWED and raises nothing. This is said of a BEACON, which brings
nothing else. A frame of any other kind with the same header does first what that BEACON does, and its payload then finds a
state in which its header says nothing new. -/
def Obligations.RestartRecognised : Prop :=
  ∀ (f : LineFrame) (s : State), s.Safe → s.calm → s.ctl.resetHeld = false → s.relinkDone = false →
    s.edits ∨ s.ctl.st = .quiesce → s.addressable f.src = true → f.src < 24 → f.dst = 31 →
    f.payload = [byteOf s.ctl.size] →
    let p := f.src
    let x := s.peer p
    let met : Peer := { x with presence := .present, sinceHeard := 0, epoch := some f.epoch, st := some f.st }
    let cleared (roll scope : Bool) : List Circuit := s.records.map (fun r => if r.farSlot = p then
      { r with rollMark := r.rollMark && !roll, scopeMark := r.scopeMark && !scope } else r)
    let cut : Bool := x.channel != .idle
    let hit := s.inClassOrder (fun r => r.farSlot == p && r.state != .deferred && r.state != .clashed)
    (x.presence ≠ .unheard → f.st = .setup → x.st ≠ some .setup ∨ x.epoch ≠ some f.epoch →
      ∃ t, exec (.beaconReceived f) s = .next t ∧ t.events.has .peerRestart = true ∧
        t.peer p = { met with rollOut := .none, channel := .idle, verdicts := [], releases := [], wants :=
          { roll := false, rollOffer := false, singleOffer := false, answer := false, release := false } } ∧
        (¬ s.Minds → t.records = cleared (x.rollOut == .sending) true ∧ t.notices = s.notices) ∧
        (s.Minds → (∀ r ∈ t.records, r.farSlot = p → r.state = .deferred ∨ r.state = .clashed) ∧
          (hit ≠ [] → t.events.has .deferral = true) ∧
          (s.notices.length + hit.length ≤ 32 → t.notices = s.notices ++ noticesOf .deferred hit))) ∧
    (x.presence = .unheard ∨ (f.st ≠ .setup ∧ x.epoch ≠ some f.epoch) ∨
        (x.presence = .silent ∧ x.epoch = some f.epoch ∧ (f.st = .setup → x.st = some .setup)) →
      ∃ t, exec (.beaconReceived f) s = .next t ∧ t.events = s.events.raise .peerRestart ∧
        (∃ w, t.peer p = { met with rollOut := if f.st = .setup then x.rollOut else .owed, channel := .idle, wants := w }) ∧
        t.records = cleared (x.rollOut == .sending && f.st != .setup) cut ∧ t.notices = s.notices ∧ t.store = s.store ∧
        (s.ctl.st = .service ∨ (s.ctl.st = .relink ∧ s.ctl.listenOver = true) → f.st ≠ .setup → t.owes (.roll p))) ∧
    (x.presence = .present → x.st = some .setup → x.epoch = some f.epoch → f.st ≠ .setup →
      ∃ t, exec (.beaconReceived f) s = .next t ∧ t.events = s.events ∧
        (∃ w, t.peer p = { met with rollOut := .owed, wants := w }) ∧ t.records = s.records ∧ t.notices = s.notices) ∧
    ∀ (dst : Nat) (payload : List Byte) (kind : Byte),
      let g : LineFrame := { f with dst := dst, payload := payload }
      ∃ u, exec (.beaconReceived f) s = .next u ∧ u.hears g ∧
        ∀ row ∈ [Instr.rollReceived g, .offerReceived g, .answerReceived g, .releaseReceived g, .otherFrameReceived kind g],
          exec row s = exec row u

/-- A ROLL acted on opens the roll-in channel with its count and scope-marks every record towards its source but the CLASHED
ones; one that declares nothing completes at once, and every such record is REFUSED as ORPHAN, with a notice for each that
changes, in class order, and REFUSAL raised where any does. -/
def Obligations.RollReceivedMarks : Prop :=
  ∀ (f : LineFrame) (s : State), s.hears f → s.running = true → f.dst = s.ctl.slot → f.dst ≠ 31 →
    (∀ n, 1 ≤ n → n ≤ 64 → f.payload = wordBytes n → exec (.rollReceived f) s = .next { s.refreshed f with
      peers := s.peers.set f.src { s.peer f.src with sinceHeard := 0, channel := .receiving n 0 0 }
      records := s.records.map (fun r => if r.farSlot = f.src then { r with scopeMark := r.state != .clashed } else r) }) ∧
    (s.tableOk → f.payload = [0x00, 0x00] → ∃ t, exec (.rollReceived f) s = .next t ∧ (t.peer f.src).channel = .idle ∧
      (∀ r ∈ t.records, r.farSlot = f.src →
        r.scopeMark = false ∧ (r.state = .clashed ∨ r.state = .refused .orphan)) ∧
      (let orphans := s.inClassOrder (fun r => r.farSlot == f.src && r.state != .clashed && r.state != .refused .orphan)
       (s.notices.length + orphans.length ≤ 32 → t.notices = s.notices ++ noticesOf (.refused .orphan) orphans) ∧
       (orphans ≠ [] → t.events.has .refusal = true) ∧
       (orphans = [] → t.notices = s.notices ∧ t.events.has .refusal = s.events.has .refusal)) ∧
      t.records.map Circuit.retained = s.records.map Circuit.retained ∧ t.store = s.store)

/-- An OFFER acted on: without room the whole frame is an overrun; in SETUP every claim is answered WAIT; else a claim is
answered by the cases of R81, one that matches puts its record on the lane of convergence, one that differs refuses it, and
a roll-flagged one is counted and may complete the roll, which orphans what is still marked, with a notice for each that
changes, in class order, and REFUSAL raised where any does. An OFFER of several claims does
what its claims do one after the other, each in an OFFER of its own. -/
def Obligations.OfferAnswered : Prop :=
  ∀ (f : LineFrame) (roll : Bool) (cs : List Claim) (s : State), s.tableOk → s.hears f → f.dst = s.ctl.slot →
    f.dst ≠ 31 → 1 ≤ cs.length → cs.length ≤ 8 → (∀ c ∈ cs, c.fits) → f.payload = offerPayload roll cs →
    let p := f.src
    let x := s.peer p
    (s.edits → 16 < x.verdicts.length + cs.length → exec (.offerReceived f) s = .next { s.refreshed f with
      peers := s.peers.set p { x with sinceHeard := 0, overrun := min 255 (x.overrun + 1) } }) ∧
    (s.ctl.st = .setup → x.verdicts.length + cs.length ≤ 16 → ∃ t, exec (.offerReceived f) s = .next t ∧
      (t.peer p).verdicts = x.verdicts ++ cs.map (fun c => ({ tag := c.tag, kind := .wait } : Verdict)) ∧ t.owes (.answer p) ∧
      t.records = s.records ∧ t.store = s.store ∧ t.notices = s.notices ∧ t.events = s.events) ∧
    (∀ c ds u, s.running = true → cs = c :: ds → ds ≠ [] → x.verdicts.length + cs.length ≤ 16 →
      exec (.offerReceived { f with payload := offerPayload roll [c] }) s = .next u →
      exec (.offerReceived f) s = exec (.offerReceived { f with payload := offerPayload roll ds }) u) ∧
    ∀ c, s.running = true → x.verdicts.length < 16 → cs = [c] →
      let completes : Bool := roll && match x.channel with
        | .receiving d n _ => n + 1 == d
        | .idle => false
      let orphans := s.inClassOrder (fun r => completes && r.farSlot == p && r.scopeMark && r.tag != c.tag &&
        r.state != .clashed && r.state != .refused .orphan)
      ∃ t k, exec (.offerReceived f) s = .next t ∧ t.owes (.answer p) ∧
        (t.peer p).verdicts = x.verdicts ++ [{ tag := c.tag, kind := k }] ∧
        (t.peer p).channel = (match x.channel with
          | .receiving d n g => if roll = true then (if n + 1 = d then .idle else .receiving d (n + 1) 0)
                                else .receiving d n g
          | .idle => .idle) ∧
        (completes = true → (∀ r ∈ t.records, r.farSlot = p → r.scopeMark = false) ∧
          (∀ r ∈ s.records, r.farSlot = p → r.scopeMark = true → r.tag ≠ c.tag → r.state ≠ .clashed →
            ∃ y ∈ t.records, y.retained = r.retained ∧ y.state = .refused .orphan)) ∧
        (orphans ≠ [] → t.events.has .refusal = true) ∧
        let noted (own : List Notice) : Prop := s.notices.length + own.length + orphans.length ≤ 32 →
          t.notices = s.notices ++ own ++ noticesOf (.refused .orphan) orphans
        let unchanged : Prop := noted [] ∧ (completes = false → t.records = s.records ∧ t.notices = s.notices)
        ((∀ r ∈ s.records, r.tag ≠ c.tag) → k = .unknown ∧ unchanged) ∧
        ∀ r ∈ s.records, r.tag = c.tag →
          let differs := c.claimerPort ≠ r.farPort ∨ c.addresseePort ≠ r.localPort ∨ c.lane ∉ r.lanes
          let u : InUse := if r.standby = some c.lane ∨ r.inUse = .standby then .standby else .primary
          let own (k : NoticeKind) : List Notice := [{ tag := r.tag, kind := k, cls := r.cls }]
          (r.farSlot ≠ p → k = .mismatch ∧ unchanged) ∧
          (r.farSlot = p → differs → k = .mismatch ∧ ∃ y ∈ t.records, y.retained = r.retained ∧ y.scopeMark = false ∧
            (r.state = .clashed → y.state = .clashed) ∧
            (r.state ≠ .clashed → y.state = .refused .mismatch) ∧
            (r.state ≠ .clashed → r.state ≠ .refused .mismatch →
              t.events.has .refusal = true ∧ noted (own (.refused .mismatch))) ∧
            (r.state = .clashed ∨ r.state = .refused .mismatch → noted [])) ∧
          (r.farSlot = p → ¬ differs → ∃ y ∈ t.records, y.retained = r.retained ∧ y.scopeMark = false ∧
            (r.state = .clashed → k = .clash ∧ y.state = .clashed ∧ y.inUse = r.inUse ∧ noted []) ∧
            (r.state ≠ .clashed → k = .accept (if u = .primary then r.primary else r.standby.getD 0) ∧ y.inUse = u ∧
              (if u = r.inUse ∧ (r.state.isProbing = true ∨ r.state.isOpen = true) then y.state = r.state
               else y.state = .confirmed ∨ y.state.isProbing = true) ∧
              noted (if u = r.inUse then [] else own .laneMoved)))

/-- One verdict of an ANSWER acted on: it finds the record with its tag towards its source, or is stale. An ACCEPT puts the
record on the lane it names; UNKNOWN, MISMATCH and an ACCEPT on a lane the record does not hold refuse it; WAIT defers it
from PARKED or OFFERED; CLASH takes it to CLASHED. A CLASHED record stays as it is. An ANSWER of several verdicts does what
its verdicts do one after the other, each in an ANSWER of its own. -/
def Obligations.AnswerProcessed : Prop :=
  (∀ (f : LineFrame) (v : Verdict) (vs : List Verdict) (s u : State), s.tableOk → s.hears f → s.running = true →
    f.dst = s.ctl.slot → f.dst ≠ 31 → vs ≠ [] → vs.length < 8 → (∀ x ∈ v :: vs, x.fits) →
    exec (.answerReceived { f with payload := answerPayload [v] }) s = .next u →
    exec (.answerReceived { f with payload := answerPayload (v :: vs) }) s =
      exec (.answerReceived { f with payload := answerPayload vs }) u) ∧
  ∀ (f : LineFrame) (v : Verdict) (s : State), s.tableOk → s.hears f → s.running = true → f.dst = s.ctl.slot →
    f.dst ≠ 31 → v.fits → f.payload = answerPayload [v] →
    ((∀ r ∈ s.records, r.tag = v.tag → r.farSlot ≠ f.src) → exec (.answerReceived f) s = .next { s.refreshed f with
      line := { s.line with lastSender := f.src, stale := if s.line.stale < 255 then s.line.stale + 1 else 255 } }) ∧
    ∀ r ∈ s.records, r.tag = v.tag → r.farSlot = f.src →
      let named : Option InUse := match v.kind with
        | .accept lane => if lane = r.primary then some .primary
                          else if r.standby = some lane then some .standby else none
        | _ => none
      let refusal : Option Cause := match v.kind with
        | .accept _ => if named.isNone then some .mismatch else none
        | .unknown => some .unknown
        | .mismatch => some .mismatch
        | _ => none
      let unchanged : Prop := exec (.answerReceived f) s = .next (s.refreshed f)
      let noted (t : State) (k : NoticeKind) : Prop :=
        s.notices.length < 32 → t.notices = s.notices ++ [{ tag := r.tag, kind := k, cls := r.cls }]
      (r.state = .clashed → unchanged) ∧
      (∀ c, refusal = some c → r.state = .refused c → unchanged) ∧
      (∀ c, refusal = some c → r.state ≠ .clashed → r.state ≠ .refused c → ∃ t, exec (.answerReceived f) s = .next t ∧
        (∃ y ∈ t.records, y.retained = r.retained ∧ y.state = .refused c) ∧ t.events.has .refusal = true ∧
        noted t (.refused c)) ∧
      (∀ u, named = some u → r.state ≠ .clashed → ∃ t, exec (.answerReceived f) s = .next t ∧
        (∃ y ∈ t.records, y.retained = r.retained ∧ y.inUse = u ∧
          if u = r.inUse ∧ (r.state.isProbing = true ∨ r.state.isOpen = true) then y.state = r.state
          else y.state = .confirmed ∨ y.state.isProbing = true) ∧
        (u ≠ r.inUse → noted t .laneMoved) ∧ (u = r.inUse → t.notices = s.notices)) ∧
      (v.kind = .wait → r.state ≠ .parked → r.state ≠ .offered → unchanged) ∧
      (v.kind = .wait → r.state = .parked ∨ r.state = .offered → ∃ t, exec (.answerReceived f) s = .next t ∧
        (∃ y ∈ t.records, y.retained = r.retained ∧ y.state = .deferred) ∧ t.events.has .deferral = true ∧
        noted t .deferred) ∧
      (v.kind = .clash → r.state ≠ .clashed → ∃ t, exec (.answerReceived f) s = .next t ∧ t.sumZero = true ∧
        (∃ y ∈ t.records, y.retained = (r.place, r.toFixed, true) ∧ y.state = .clashed ∧ y.scopeMark = false) ∧
        t.events.has .clash = true ∧ noted t .clashed)

/-- A RELEASE acted on removes, for each of its tags, the record with the tag towards its source, from whatever state, with a
REMOVED notice for each and no event but RELINK_DONE where a removal ends RELINK; a tag that it names again finds nothing.
The others keep their retained fields. A removal while the roll to its source is SENDING starts that roll again: it is OWED,
its marks are cleared, its ROLL is posted where it is releasable, and a single OFFER for the claims that its marks held back. -/
def Obligations.ReleaseRemoves : Prop :=
  ∀ (f : LineFrame) (tags : List Nat) (s : State), s.Safe → s.hears f → s.running = true → f.dst = s.ctl.slot →
    f.dst ≠ 31 → 1 ≤ tags.length → tags.length ≤ 8 → (∀ g ∈ tags, g < 65536) →
    f.payload = releasePayload tags →
    let p := f.src
    let gone := tags.eraseDups.filterMap (fun g => s.records.find? (fun r => r.tag == g && r.farSlot == p))
    let restarts := gone ≠ [] ∧ (s.peer p).rollOut = .sending
    ∃ t, exec (.releaseReceived f) s = .next t ∧
      t.records.map Circuit.retained =
        (s.records.filter (fun r => !(tags.contains r.tag && r.farSlot == p))).map Circuit.retained ∧
      (∀ r ∈ gone, ∀ x ∈ t.hw.probes, x.place ≠ r.place) ∧ (s.sumZero = true → t.sumZero = true) ∧
      (s.notices.length + gone.length ≤ 32 →
        t.notices = s.notices ++ gone.map (fun r => { tag := r.tag, kind := .removed, cls := r.cls }) ∧
        (t.events = s.events ∨ t.events = s.events.raise .relinkDone)) ∧
      (t.peer p).releases = (s.peer p).releases ∧ (t.peer p).verdicts = (s.peer p).verdicts ∧
      (t.peer p).rollOut = (if restarts then .owed else (s.peer p).rollOut) ∧
      (restarts → (∀ r ∈ t.records, r.farSlot = p → r.rollMark = false) ∧
        ((s.peer p).up = true → s.ctl.st = .service ∨ s.ctl.listenOver = true → t.owes (.roll p)) ∧
        ((s.peer p).up = true → (∃ r ∈ t.records, r.farSlot = p ∧ r.claimDue = true) → t.owes (.singleOffer p)))

/-- Frames that change the header's record and nothing more, or count a line error: a frame for another slot; an unknown
kind; a broadcast that is no BEACON; a frame that the station state does not take; a payload that does not fit its kind; a
frame that is not good; and a jam. -/
def Obligations.FramesNotTaken : Prop :=
  (∀ (f : LineFrame) (kind : Byte) (s : State), s.hears f →
    let ignored (i : Instr) := exec i s = .next (s.refreshed f)
    let counted (i : Instr) := exec i s = .next (s.refreshed f).withLineError
    (f.dst ≠ s.ctl.slot → f.dst ≠ 31 → ignored (.beaconReceived f) ∧ ignored (.rollReceived f) ∧
      ignored (.offerReceived f) ∧ ignored (.answerReceived f) ∧ ignored (.releaseReceived f) ∧
      ignored (.otherFrameReceived kind f)) ∧
    (f.dst = s.ctl.slot ∨ f.dst = 31 → kind = 0 ∨ 5 < kind.toNat → counted (.otherFrameReceived kind f)) ∧
    (f.dst = 31 → counted (.rollReceived f) ∧ counted (.offerReceived f) ∧ counted (.answerReceived f) ∧
      counted (.releaseReceived f) ∧ (kind ≠ 1 → counted (.otherFrameReceived kind f))) ∧
    (f.dst = s.ctl.slot → f.dst ≠ 31 →
      (s.running = false → ignored (.rollReceived f) ∧ ignored (.answerReceived f) ∧ ignored (.releaseReceived f)) ∧
      (¬ s.edits → ignored (.offerReceived f)) ∧
      (s.running = true → f.payload.length ≠ 2 → counted (.rollReceived f)) ∧
      (s.running = true → (∃ n, 64 < n ∧ n < 65536 ∧ f.payload = wordBytes n) → counted (.rollReceived f)) ∧
      (s.edits → f.payload.length < 6 ∨ 41 < f.payload.length ∨ f.payload.length % 5 ≠ 1 →
        counted (.offerReceived f)) ∧
      (s.running = true → f.payload = [] ∨ 40 < f.payload.length ∨ f.payload.length % 5 ≠ 0 ∨
          (∃ i b, f.payload[5 * i + 2]? = some b ∧ (b = 0 ∨ 5 < b.toNat)) → counted (.answerReceived f)) ∧
      (s.running = true → f.payload = [] ∨ 16 < f.payload.length ∨ f.payload.length % 2 ≠ 0 →
        counted (.releaseReceived f)))) ∧
  (∀ (raw : List Byte) (cutOff : Bool) (s : State), s.calm → s.ctl.resetHeld = false →
    cutOff = true ∨ frameGood raw = false → exec (.badFrameReceived raw cutOff) s = .next s.withLineError) ∧
  (∀ s : State, s.calm → exec .jamReceived s = .next s)

/-! ### Lamp -/

/-- A new lamp period begins the pattern of the mode under way again; in PROGRESS the duty is judged then, 1 and 15 parts by
the share of OPEN records, 16 for an empty table. The output is lit for the part of the period that the mode gives. -/
def Obligations.LampPeriods : Prop :=
  (∀ s : State, s.calm →
    (s.lamp.mode = .steady ∨ s.lamp.mode = .off → exec .lampPeriod s = .next s) ∧
    (s.lamp.mode = .fast ∨ s.lamp.mode = .wink →
      exec .lampPeriod s = .next { s with lamp := { s.lamp with position := 0 } }) ∧
    (∀ d, s.lamp.mode = .progress d →
      let duty := if s.records = [] then 16
        else 1 + 15 * s.records.countP (fun r => r.state.isOpen) / s.records.length
      exec .lampPeriod s = .next { s with lamp := { mode := .progress duty, position := 0 } })) ∧
  (∀ s : State, s.lampLit = true ↔ s.lamp.mode = .steady ∨ (s.lamp.mode = .fast ∧ s.lamp.position < 125) ∨
    (∃ d, s.lamp.mode = .progress d ∧ s.lamp.position < 64 * d) ∨ (s.lamp.mode = .wink ∧ s.lamp.position < 64))

/-! ### What every step keeps -/

/-- After reset every limit and every agreement holds, no due step waits, and the lamp is in FAST. -/
def Obligations.ResetIsSafe : Prop :=
  State.reset.Safe ∧ State.reset.calm ∧ State.reset.slotOk ∧ State.reset.absentOk ∧ State.reset.scopeOk ∧ State.reset.setupOk ∧
    State.reset.listsCarried ∧ State.reset.lampOk

/-- Every step keeps the limits of the queue, of the saturating counts, of the notices and of the supply runs. -/
def Obligations.LimitsKept : Prop :=
  ∀ s t : State, s.queueOk → s.line.countsOk → s.noticesOk → s.supplyOk → step s = .next t →
    t.queueOk ∧ t.line.countsOk ∧ t.noticesOk ∧ t.supplyOk

/-- Every step keeps the Circuit Table within its limits, with no tag, local port, place or lane held twice; and every step
but a start that cuts a table edit keeps the zero sum of the retained content. -/
def Obligations.TableKept : Prop :=
  ∀ s t : State, s.tableOk → step s = .next t →
    t.tableOk ∧ (s.sumZero = true → (∀ a b rest, s.pending = .start a b :: rest → b = .none) → t.sumZero = true)

/-- Every step keeps the 24 peer records within their ranges, those of a roll-in channel among them, a slot that is not
addressable at its start values, and every record towards a peer whose channel is IDLE without a scope mark; and the own slot
below the shelf size in every station state but STRAP FAULT, once the straps are read. -/
def Obligations.PeersKept : Prop :=
  ∀ s t : State, s.peersOk → step s = .next t →
    t.peersOk ∧ (s.absentOk → t.absentOk) ∧ (s.tableOk → s.scopeOk → t.scopeOk) ∧ (s.slotOk → t.slotOk)

/-- Every step keeps the allowance within its cap, the HELD probe slots those of the PROBING records, and no record PROBING
outside RELINK and SERVICE; and in SETUP and a QUIESCE that returns to it every record PARKED, or DEFERRED where the free value
of log 29 allows it. -/
def Obligations.PaceAndProbesKept : Prop :=
  ∀ s t : State, s.tableOk → s.paceOk → s.probesOk → step s = .next t →
    t.paceOk ∧ t.probesOk ∧ (s.setupOk → t.setupOk)

/-- Through every step, a peer's pending verdicts keep an ANSWER request queued or wanted and its pending tags a RELEASE
request, and the frame on the line keeps its request at the head of the queue while it is queued. -/
def Obligations.ListsCarried : Prop := ∀ s t : State, s.listsCarried → step s = .next t → t.listsCarried

/-- Through every step the lamp stays in the highest mode whose condition holds. -/
def Obligations.LampFollows : Prop := ∀ s t : State, s.lampOk → step s = .next t → t.lampOk

/-! ### Formats -/

/-- Every command record reads back as its command, whatever bytes are clocked after it, and no two commands have one
record. -/
def Obligations.CommandRecordsReadBack : Prop :=
  ∀ c : CardCommand, c.fits = true →
    (∀ after : List Byte, judgeRecord (c.record ++ after) = .passes c) ∧
    (∀ d : CardCommand, d.fits = true → d.record = c.record → d = c)

/-- Every payload reads back as what was written; every frame of up to 48 payload bytes is good; and its bits on the line
hold no six equal ones in a row and give its bytes' bits back at the receiver. -/
def Obligations.FramesReadBack : Prop :=
  (∀ (roll : Bool) (cs : List Claim), 1 ≤ cs.length → cs.length ≤ 8 → (∀ c ∈ cs, c.fits) →
    readOffer (offerPayload roll cs) = some (roll, cs)) ∧
  (∀ vs : List Verdict, 1 ≤ vs.length → vs.length ≤ 8 → (∀ v ∈ vs, v.fits) → readAnswer (answerPayload vs) = some vs) ∧
  (∀ ts : List Nat, 1 ≤ ts.length → ts.length ≤ 8 → (∀ g ∈ ts, g < 65536) → readRelease (releasePayload ts) = some ts) ∧
  (∀ n : Nat, n ≤ 64 → readRoll (wordBytes n) = some n) ∧
  (∀ (kind epoch : Byte) (src dst : Nat) (st : Announced) (payload : List Byte), payload.length ≤ 48 →
    frameGood (frameBytes kind src dst epoch st payload) = true) ∧
  (∀ (bytes : List Byte) (b : Bool), ¬ List.replicate 6 b <:+: lineBits bytes ∧
    unstuffFrom false 1 ((lineBits bytes).drop 1) = bytes.flatMap bitsOf)
end

