-- ==== Sys2Proof/Laws/State.lean ====
section
/-! SUPPORT. Laws/State.lean: what each plain update of a block leaves unchanged, true by definition. -/

namespace Sys2Proof.Machine


@[simp] theorem State.raise_records (f : EventFlag) (s : State) : (s.raise f).records = s.records := rfl
@[simp] theorem State.raise_store (f : EventFlag) (s : State) : (s.raise f).store = s.store := rfl
@[simp] theorem State.raise_peers (f : EventFlag) (s : State) : (s.raise f).peers = s.peers := rfl
@[simp] theorem State.raise_sweep (f : EventFlag) (s : State) : (s.raise f).sweep = s.sweep := rfl
@[simp] theorem State.raise_line (f : EventFlag) (s : State) : (s.raise f).line = s.line := rfl
@[simp] theorem State.raise_seq (f : EventFlag) (s : State) : (s.raise f).seq = s.seq := rfl
@[simp] theorem State.raise_hw (f : EventFlag) (s : State) : (s.raise f).hw = s.hw := rfl
@[simp] theorem State.raise_supply (f : EventFlag) (s : State) : (s.raise f).supply = s.supply := rfl
@[simp] theorem State.raise_ctl (f : EventFlag) (s : State) : (s.raise f).ctl = s.ctl := rfl
@[simp] theorem State.raise_card (f : EventFlag) (s : State) : (s.raise f).card = s.card := rfl
@[simp] theorem State.raise_notices (f : EventFlag) (s : State) : (s.raise f).notices = s.notices := rfl
@[simp] theorem State.raise_lamp (f : EventFlag) (s : State) : (s.raise f).lamp = s.lamp := rfl
@[simp] theorem State.raise_pending (f : EventFlag) (s : State) : (s.raise f).pending = s.pending := rfl

@[simp] theorem State.mapRec_store (h : Nat) (f : Circuit → Circuit) (s : State) : (s.mapRec h f).store = s.store := rfl
@[simp] theorem State.mapRec_peers (h : Nat) (f : Circuit → Circuit) (s : State) : (s.mapRec h f).peers = s.peers := rfl
@[simp] theorem State.mapRec_sweep (h : Nat) (f : Circuit → Circuit) (s : State) : (s.mapRec h f).sweep = s.sweep := rfl
@[simp] theorem State.mapRec_line (h : Nat) (f : Circuit → Circuit) (s : State) : (s.mapRec h f).line = s.line := rfl
@[simp] theorem State.mapRec_seq (h : Nat) (f : Circuit → Circuit) (s : State) : (s.mapRec h f).seq = s.seq := rfl
@[simp] theorem State.mapRec_hw (h : Nat) (f : Circuit → Circuit) (s : State) : (s.mapRec h f).hw = s.hw := rfl
@[simp] theorem State.mapRec_supply (h : Nat) (f : Circuit → Circuit) (s : State) : (s.mapRec h f).supply = s.supply := rfl
@[simp] theorem State.mapRec_ctl (h : Nat) (f : Circuit → Circuit) (s : State) : (s.mapRec h f).ctl = s.ctl := rfl
@[simp] theorem State.mapRec_card (h : Nat) (f : Circuit → Circuit) (s : State) : (s.mapRec h f).card = s.card := rfl
@[simp] theorem State.mapRec_events (h : Nat) (f : Circuit → Circuit) (s : State) : (s.mapRec h f).events = s.events := rfl
@[simp] theorem State.mapRec_notices (h : Nat) (f : Circuit → Circuit) (s : State) : (s.mapRec h f).notices = s.notices := rfl
@[simp] theorem State.mapRec_lamp (h : Nat) (f : Circuit → Circuit) (s : State) : (s.mapRec h f).lamp = s.lamp := rfl
@[simp] theorem State.mapRec_pending (h : Nat) (f : Circuit → Circuit) (s : State) : (s.mapRec h f).pending = s.pending := rfl

@[simp] theorem State.mapTowards_store (p : Nat) (f : Circuit → Circuit) (s : State) : (s.mapTowards p f).store = s.store := rfl
@[simp] theorem State.mapTowards_peers (p : Nat) (f : Circuit → Circuit) (s : State) : (s.mapTowards p f).peers = s.peers := rfl
@[simp] theorem State.mapTowards_sweep (p : Nat) (f : Circuit → Circuit) (s : State) : (s.mapTowards p f).sweep = s.sweep := rfl
@[simp] theorem State.mapTowards_line (p : Nat) (f : Circuit → Circuit) (s : State) : (s.mapTowards p f).line = s.line := rfl
@[simp] theorem State.mapTowards_seq (p : Nat) (f : Circuit → Circuit) (s : State) : (s.mapTowards p f).seq = s.seq := rfl
@[simp] theorem State.mapTowards_hw (p : Nat) (f : Circuit → Circuit) (s : State) : (s.mapTowards p f).hw = s.hw := rfl
@[simp] theorem State.mapTowards_supply (p : Nat) (f : Circuit → Circuit) (s : State) : (s.mapTowards p f).supply = s.supply := rfl
@[simp] theorem State.mapTowards_ctl (p : Nat) (f : Circuit → Circuit) (s : State) : (s.mapTowards p f).ctl = s.ctl := rfl
@[simp] theorem State.mapTowards_card (p : Nat) (f : Circuit → Circuit) (s : State) : (s.mapTowards p f).card = s.card := rfl
@[simp] theorem State.mapTowards_events (p : Nat) (f : Circuit → Circuit) (s : State) : (s.mapTowards p f).events = s.events := rfl
@[simp] theorem State.mapTowards_notices (p : Nat) (f : Circuit → Circuit) (s : State) : (s.mapTowards p f).notices = s.notices := rfl
@[simp] theorem State.mapTowards_lamp (p : Nat) (f : Circuit → Circuit) (s : State) : (s.mapTowards p f).lamp = s.lamp := rfl
@[simp] theorem State.mapTowards_pending (p : Nat) (f : Circuit → Circuit) (s : State) : (s.mapTowards p f).pending = s.pending := rfl

@[simp] theorem State.closeEdit_records (s : State) : (s.closeEdit).records = s.records := rfl
@[simp] theorem State.closeEdit_peers (s : State) : (s.closeEdit).peers = s.peers := rfl
@[simp] theorem State.closeEdit_sweep (s : State) : (s.closeEdit).sweep = s.sweep := rfl
@[simp] theorem State.closeEdit_line (s : State) : (s.closeEdit).line = s.line := rfl
@[simp] theorem State.closeEdit_seq (s : State) : (s.closeEdit).seq = s.seq := rfl
@[simp] theorem State.closeEdit_hw (s : State) : (s.closeEdit).hw = s.hw := rfl
@[simp] theorem State.closeEdit_supply (s : State) : (s.closeEdit).supply = s.supply := rfl
@[simp] theorem State.closeEdit_ctl (s : State) : (s.closeEdit).ctl = s.ctl := rfl
@[simp] theorem State.closeEdit_card (s : State) : (s.closeEdit).card = s.card := rfl
@[simp] theorem State.closeEdit_events (s : State) : (s.closeEdit).events = s.events := rfl
@[simp] theorem State.closeEdit_notices (s : State) : (s.closeEdit).notices = s.notices := rfl
@[simp] theorem State.closeEdit_lamp (s : State) : (s.closeEdit).lamp = s.lamp := rfl
@[simp] theorem State.closeEdit_pending (s : State) : (s.closeEdit).pending = s.pending := rfl

@[simp] theorem State.cutEdit_records (s : State) : (s.cutEdit).records = s.records := rfl
@[simp] theorem State.cutEdit_peers (s : State) : (s.cutEdit).peers = s.peers := rfl
@[simp] theorem State.cutEdit_sweep (s : State) : (s.cutEdit).sweep = s.sweep := rfl
@[simp] theorem State.cutEdit_line (s : State) : (s.cutEdit).line = s.line := rfl
@[simp] theorem State.cutEdit_seq (s : State) : (s.cutEdit).seq = s.seq := rfl
@[simp] theorem State.cutEdit_hw (s : State) : (s.cutEdit).hw = s.hw := rfl
@[simp] theorem State.cutEdit_supply (s : State) : (s.cutEdit).supply = s.supply := rfl
@[simp] theorem State.cutEdit_ctl (s : State) : (s.cutEdit).ctl = s.ctl := rfl
@[simp] theorem State.cutEdit_card (s : State) : (s.cutEdit).card = s.card := rfl
@[simp] theorem State.cutEdit_events (s : State) : (s.cutEdit).events = s.events := rfl
@[simp] theorem State.cutEdit_notices (s : State) : (s.cutEdit).notices = s.notices := rfl
@[simp] theorem State.cutEdit_lamp (s : State) : (s.cutEdit).lamp = s.lamp := rfl
@[simp] theorem State.cutEdit_pending (s : State) : (s.cutEdit).pending = s.pending := rfl

@[simp] theorem State.setPeer_records (p : Nat) (x : Peer) (s : State) : (s.setPeer p x).records = s.records := rfl
@[simp] theorem State.setPeer_store (p : Nat) (x : Peer) (s : State) : (s.setPeer p x).store = s.store := rfl
@[simp] theorem State.setPeer_sweep (p : Nat) (x : Peer) (s : State) : (s.setPeer p x).sweep = s.sweep := rfl
@[simp] theorem State.setPeer_line (p : Nat) (x : Peer) (s : State) : (s.setPeer p x).line = s.line := rfl
@[simp] theorem State.setPeer_seq (p : Nat) (x : Peer) (s : State) : (s.setPeer p x).seq = s.seq := rfl
@[simp] theorem State.setPeer_hw (p : Nat) (x : Peer) (s : State) : (s.setPeer p x).hw = s.hw := rfl
@[simp] theorem State.setPeer_supply (p : Nat) (x : Peer) (s : State) : (s.setPeer p x).supply = s.supply := rfl
@[simp] theorem State.setPeer_ctl (p : Nat) (x : Peer) (s : State) : (s.setPeer p x).ctl = s.ctl := rfl
@[simp] theorem State.setPeer_card (p : Nat) (x : Peer) (s : State) : (s.setPeer p x).card = s.card := rfl
@[simp] theorem State.setPeer_events (p : Nat) (x : Peer) (s : State) : (s.setPeer p x).events = s.events := rfl
@[simp] theorem State.setPeer_notices (p : Nat) (x : Peer) (s : State) : (s.setPeer p x).notices = s.notices := rfl
@[simp] theorem State.setPeer_lamp (p : Nat) (x : Peer) (s : State) : (s.setPeer p x).lamp = s.lamp := rfl
@[simp] theorem State.setPeer_pending (p : Nat) (x : Peer) (s : State) : (s.setPeer p x).pending = s.pending := rfl

@[simp] theorem State.updPeer_records (p : Nat) (f : Peer → Peer) (s : State) : (s.updPeer p f).records = s.records := rfl
@[simp] theorem State.updPeer_store (p : Nat) (f : Peer → Peer) (s : State) : (s.updPeer p f).store = s.store := rfl
@[simp] theorem State.updPeer_sweep (p : Nat) (f : Peer → Peer) (s : State) : (s.updPeer p f).sweep = s.sweep := rfl
@[simp] theorem State.updPeer_line (p : Nat) (f : Peer → Peer) (s : State) : (s.updPeer p f).line = s.line := rfl
@[simp] theorem State.updPeer_seq (p : Nat) (f : Peer → Peer) (s : State) : (s.updPeer p f).seq = s.seq := rfl
@[simp] theorem State.updPeer_hw (p : Nat) (f : Peer → Peer) (s : State) : (s.updPeer p f).hw = s.hw := rfl
@[simp] theorem State.updPeer_supply (p : Nat) (f : Peer → Peer) (s : State) : (s.updPeer p f).supply = s.supply := rfl
@[simp] theorem State.updPeer_ctl (p : Nat) (f : Peer → Peer) (s : State) : (s.updPeer p f).ctl = s.ctl := rfl
@[simp] theorem State.updPeer_card (p : Nat) (f : Peer → Peer) (s : State) : (s.updPeer p f).card = s.card := rfl
@[simp] theorem State.updPeer_events (p : Nat) (f : Peer → Peer) (s : State) : (s.updPeer p f).events = s.events := rfl
@[simp] theorem State.updPeer_notices (p : Nat) (f : Peer → Peer) (s : State) : (s.updPeer p f).notices = s.notices := rfl
@[simp] theorem State.updPeer_lamp (p : Nat) (f : Peer → Peer) (s : State) : (s.updPeer p f).lamp = s.lamp := rfl
@[simp] theorem State.updPeer_pending (p : Nat) (f : Peer → Peer) (s : State) : (s.updPeer p f).pending = s.pending := rfl

@[simp] theorem State.setRollOut_records (p : Nat) (x : RollOut) (s : State) : (s.setRollOut p x).records = s.records := rfl
@[simp] theorem State.setRollOut_store (p : Nat) (x : RollOut) (s : State) : (s.setRollOut p x).store = s.store := rfl
@[simp] theorem State.setRollOut_sweep (p : Nat) (x : RollOut) (s : State) : (s.setRollOut p x).sweep = s.sweep := rfl
@[simp] theorem State.setRollOut_line (p : Nat) (x : RollOut) (s : State) : (s.setRollOut p x).line = s.line := rfl
@[simp] theorem State.setRollOut_seq (p : Nat) (x : RollOut) (s : State) : (s.setRollOut p x).seq = s.seq := rfl
@[simp] theorem State.setRollOut_hw (p : Nat) (x : RollOut) (s : State) : (s.setRollOut p x).hw = s.hw := rfl
@[simp] theorem State.setRollOut_supply (p : Nat) (x : RollOut) (s : State) : (s.setRollOut p x).supply = s.supply := rfl
@[simp] theorem State.setRollOut_ctl (p : Nat) (x : RollOut) (s : State) : (s.setRollOut p x).ctl = s.ctl := rfl
@[simp] theorem State.setRollOut_card (p : Nat) (x : RollOut) (s : State) : (s.setRollOut p x).card = s.card := rfl
@[simp] theorem State.setRollOut_events (p : Nat) (x : RollOut) (s : State) : (s.setRollOut p x).events = s.events := rfl
@[simp] theorem State.setRollOut_notices (p : Nat) (x : RollOut) (s : State) : (s.setRollOut p x).notices = s.notices := rfl
@[simp] theorem State.setRollOut_lamp (p : Nat) (x : RollOut) (s : State) : (s.setRollOut p x).lamp = s.lamp := rfl
@[simp] theorem State.setRollOut_pending (p : Nat) (x : RollOut) (s : State) : (s.setRollOut p x).pending = s.pending := rfl

@[simp] theorem State.oweAll_records (s : State) : (s.oweAll).records = s.records := rfl
@[simp] theorem State.oweAll_store (s : State) : (s.oweAll).store = s.store := rfl
@[simp] theorem State.oweAll_sweep (s : State) : (s.oweAll).sweep = s.sweep := rfl
@[simp] theorem State.oweAll_line (s : State) : (s.oweAll).line = s.line := rfl
@[simp] theorem State.oweAll_seq (s : State) : (s.oweAll).seq = s.seq := rfl
@[simp] theorem State.oweAll_hw (s : State) : (s.oweAll).hw = s.hw := rfl
@[simp] theorem State.oweAll_supply (s : State) : (s.oweAll).supply = s.supply := rfl
@[simp] theorem State.oweAll_ctl (s : State) : (s.oweAll).ctl = s.ctl := rfl
@[simp] theorem State.oweAll_card (s : State) : (s.oweAll).card = s.card := rfl
@[simp] theorem State.oweAll_events (s : State) : (s.oweAll).events = s.events := rfl
@[simp] theorem State.oweAll_notices (s : State) : (s.oweAll).notices = s.notices := rfl
@[simp] theorem State.oweAll_lamp (s : State) : (s.oweAll).lamp = s.lamp := rfl
@[simp] theorem State.oweAll_pending (s : State) : (s.oweAll).pending = s.pending := rfl

@[simp] theorem State.setQueue_records (q : List Request) (s : State) : (s.setQueue q).records = s.records := rfl
@[simp] theorem State.setQueue_store (q : List Request) (s : State) : (s.setQueue q).store = s.store := rfl
@[simp] theorem State.setQueue_peers (q : List Request) (s : State) : (s.setQueue q).peers = s.peers := rfl
@[simp] theorem State.setQueue_sweep (q : List Request) (s : State) : (s.setQueue q).sweep = s.sweep := rfl
@[simp] theorem State.setQueue_seq (q : List Request) (s : State) : (s.setQueue q).seq = s.seq := rfl
@[simp] theorem State.setQueue_hw (q : List Request) (s : State) : (s.setQueue q).hw = s.hw := rfl
@[simp] theorem State.setQueue_supply (q : List Request) (s : State) : (s.setQueue q).supply = s.supply := rfl
@[simp] theorem State.setQueue_ctl (q : List Request) (s : State) : (s.setQueue q).ctl = s.ctl := rfl
@[simp] theorem State.setQueue_card (q : List Request) (s : State) : (s.setQueue q).card = s.card := rfl
@[simp] theorem State.setQueue_events (q : List Request) (s : State) : (s.setQueue q).events = s.events := rfl
@[simp] theorem State.setQueue_notices (q : List Request) (s : State) : (s.setQueue q).notices = s.notices := rfl
@[simp] theorem State.setQueue_lamp (q : List Request) (s : State) : (s.setQueue q).lamp = s.lamp := rfl
@[simp] theorem State.setQueue_pending (q : List Request) (s : State) : (s.setQueue q).pending = s.pending := rfl

@[simp] theorem State.credit_records (n : Nat) (s : State) : (s.credit n).records = s.records := rfl
@[simp] theorem State.credit_store (n : Nat) (s : State) : (s.credit n).store = s.store := rfl
@[simp] theorem State.credit_peers (n : Nat) (s : State) : (s.credit n).peers = s.peers := rfl
@[simp] theorem State.credit_sweep (n : Nat) (s : State) : (s.credit n).sweep = s.sweep := rfl
@[simp] theorem State.credit_line (n : Nat) (s : State) : (s.credit n).line = s.line := rfl
@[simp] theorem State.credit_hw (n : Nat) (s : State) : (s.credit n).hw = s.hw := rfl
@[simp] theorem State.credit_supply (n : Nat) (s : State) : (s.credit n).supply = s.supply := rfl
@[simp] theorem State.credit_ctl (n : Nat) (s : State) : (s.credit n).ctl = s.ctl := rfl
@[simp] theorem State.credit_card (n : Nat) (s : State) : (s.credit n).card = s.card := rfl
@[simp] theorem State.credit_events (n : Nat) (s : State) : (s.credit n).events = s.events := rfl
@[simp] theorem State.credit_notices (n : Nat) (s : State) : (s.credit n).notices = s.notices := rfl
@[simp] theorem State.credit_lamp (n : Nat) (s : State) : (s.credit n).lamp = s.lamp := rfl
@[simp] theorem State.credit_pending (n : Nat) (s : State) : (s.credit n).pending = s.pending := rfl

@[simp] theorem State.startCount_records (s : State) : (s.startCount).records = s.records := rfl
@[simp] theorem State.startCount_store (s : State) : (s.startCount).store = s.store := rfl
@[simp] theorem State.startCount_peers (s : State) : (s.startCount).peers = s.peers := rfl
@[simp] theorem State.startCount_sweep (s : State) : (s.startCount).sweep = s.sweep := rfl
@[simp] theorem State.startCount_line (s : State) : (s.startCount).line = s.line := rfl
@[simp] theorem State.startCount_hw (s : State) : (s.startCount).hw = s.hw := rfl
@[simp] theorem State.startCount_supply (s : State) : (s.startCount).supply = s.supply := rfl
@[simp] theorem State.startCount_ctl (s : State) : (s.startCount).ctl = s.ctl := rfl
@[simp] theorem State.startCount_card (s : State) : (s.startCount).card = s.card := rfl
@[simp] theorem State.startCount_events (s : State) : (s.startCount).events = s.events := rfl
@[simp] theorem State.startCount_notices (s : State) : (s.startCount).notices = s.notices := rfl
@[simp] theorem State.startCount_lamp (s : State) : (s.startCount).lamp = s.lamp := rfl
@[simp] theorem State.startCount_pending (s : State) : (s.startCount).pending = s.pending := rfl

@[simp] theorem State.stopTimer_records (s : State) : (s.stopTimer).records = s.records := rfl
@[simp] theorem State.stopTimer_store (s : State) : (s.stopTimer).store = s.store := rfl
@[simp] theorem State.stopTimer_peers (s : State) : (s.stopTimer).peers = s.peers := rfl
@[simp] theorem State.stopTimer_sweep (s : State) : (s.stopTimer).sweep = s.sweep := rfl
@[simp] theorem State.stopTimer_line (s : State) : (s.stopTimer).line = s.line := rfl
@[simp] theorem State.stopTimer_hw (s : State) : (s.stopTimer).hw = s.hw := rfl
@[simp] theorem State.stopTimer_supply (s : State) : (s.stopTimer).supply = s.supply := rfl
@[simp] theorem State.stopTimer_ctl (s : State) : (s.stopTimer).ctl = s.ctl := rfl
@[simp] theorem State.stopTimer_card (s : State) : (s.stopTimer).card = s.card := rfl
@[simp] theorem State.stopTimer_events (s : State) : (s.stopTimer).events = s.events := rfl
@[simp] theorem State.stopTimer_notices (s : State) : (s.stopTimer).notices = s.notices := rfl
@[simp] theorem State.stopTimer_lamp (s : State) : (s.stopTimer).lamp = s.lamp := rfl
@[simp] theorem State.stopTimer_pending (s : State) : (s.stopTimer).pending = s.pending := rfl

@[simp] theorem State.freeProbe_records (h : Nat) (s : State) : (s.freeProbe h).records = s.records := rfl
@[simp] theorem State.freeProbe_store (h : Nat) (s : State) : (s.freeProbe h).store = s.store := rfl
@[simp] theorem State.freeProbe_peers (h : Nat) (s : State) : (s.freeProbe h).peers = s.peers := rfl
@[simp] theorem State.freeProbe_sweep (h : Nat) (s : State) : (s.freeProbe h).sweep = s.sweep := rfl
@[simp] theorem State.freeProbe_line (h : Nat) (s : State) : (s.freeProbe h).line = s.line := rfl
@[simp] theorem State.freeProbe_seq (h : Nat) (s : State) : (s.freeProbe h).seq = s.seq := rfl
@[simp] theorem State.freeProbe_supply (h : Nat) (s : State) : (s.freeProbe h).supply = s.supply := rfl
@[simp] theorem State.freeProbe_ctl (h : Nat) (s : State) : (s.freeProbe h).ctl = s.ctl := rfl
@[simp] theorem State.freeProbe_card (h : Nat) (s : State) : (s.freeProbe h).card = s.card := rfl
@[simp] theorem State.freeProbe_events (h : Nat) (s : State) : (s.freeProbe h).events = s.events := rfl
@[simp] theorem State.freeProbe_notices (h : Nat) (s : State) : (s.freeProbe h).notices = s.notices := rfl
@[simp] theorem State.freeProbe_lamp (h : Nat) (s : State) : (s.freeProbe h).lamp = s.lamp := rfl
@[simp] theorem State.freeProbe_pending (h : Nat) (s : State) : (s.freeProbe h).pending = s.pending := rfl

@[simp] theorem State.clearRollMarks_store (p : Nat) (s : State) : (s.clearRollMarks p).store = s.store := rfl
@[simp] theorem State.clearRollMarks_peers (p : Nat) (s : State) : (s.clearRollMarks p).peers = s.peers := rfl
@[simp] theorem State.clearRollMarks_sweep (p : Nat) (s : State) : (s.clearRollMarks p).sweep = s.sweep := rfl
@[simp] theorem State.clearRollMarks_line (p : Nat) (s : State) : (s.clearRollMarks p).line = s.line := rfl
@[simp] theorem State.clearRollMarks_seq (p : Nat) (s : State) : (s.clearRollMarks p).seq = s.seq := rfl
@[simp] theorem State.clearRollMarks_hw (p : Nat) (s : State) : (s.clearRollMarks p).hw = s.hw := rfl
@[simp] theorem State.clearRollMarks_supply (p : Nat) (s : State) : (s.clearRollMarks p).supply = s.supply := rfl
@[simp] theorem State.clearRollMarks_ctl (p : Nat) (s : State) : (s.clearRollMarks p).ctl = s.ctl := rfl
@[simp] theorem State.clearRollMarks_card (p : Nat) (s : State) : (s.clearRollMarks p).card = s.card := rfl
@[simp] theorem State.clearRollMarks_events (p : Nat) (s : State) : (s.clearRollMarks p).events = s.events := rfl
@[simp] theorem State.clearRollMarks_notices (p : Nat) (s : State) : (s.clearRollMarks p).notices = s.notices := rfl
@[simp] theorem State.clearRollMarks_lamp (p : Nat) (s : State) : (s.clearRollMarks p).lamp = s.lamp := rfl
@[simp] theorem State.clearRollMarks_pending (p : Nat) (s : State) : (s.clearRollMarks p).pending = s.pending := rfl

@[simp] theorem State.clearScopeMarks_store (p : Nat) (s : State) : (s.clearScopeMarks p).store = s.store := rfl
@[simp] theorem State.clearScopeMarks_peers (p : Nat) (s : State) : (s.clearScopeMarks p).peers = s.peers := rfl
@[simp] theorem State.clearScopeMarks_sweep (p : Nat) (s : State) : (s.clearScopeMarks p).sweep = s.sweep := rfl
@[simp] theorem State.clearScopeMarks_line (p : Nat) (s : State) : (s.clearScopeMarks p).line = s.line := rfl
@[simp] theorem State.clearScopeMarks_seq (p : Nat) (s : State) : (s.clearScopeMarks p).seq = s.seq := rfl
@[simp] theorem State.clearScopeMarks_hw (p : Nat) (s : State) : (s.clearScopeMarks p).hw = s.hw := rfl
@[simp] theorem State.clearScopeMarks_supply (p : Nat) (s : State) : (s.clearScopeMarks p).supply = s.supply := rfl
@[simp] theorem State.clearScopeMarks_ctl (p : Nat) (s : State) : (s.clearScopeMarks p).ctl = s.ctl := rfl
@[simp] theorem State.clearScopeMarks_card (p : Nat) (s : State) : (s.clearScopeMarks p).card = s.card := rfl
@[simp] theorem State.clearScopeMarks_events (p : Nat) (s : State) : (s.clearScopeMarks p).events = s.events := rfl
@[simp] theorem State.clearScopeMarks_notices (p : Nat) (s : State) : (s.clearScopeMarks p).notices = s.notices := rfl
@[simp] theorem State.clearScopeMarks_lamp (p : Nat) (s : State) : (s.clearScopeMarks p).lamp = s.lamp := rfl
@[simp] theorem State.clearScopeMarks_pending (p : Nat) (s : State) : (s.clearScopeMarks p).pending = s.pending := rfl

@[simp] theorem State.overrun_records (p : Nat) (s : State) : (s.overrun p).records = s.records := rfl
@[simp] theorem State.overrun_store (p : Nat) (s : State) : (s.overrun p).store = s.store := rfl
@[simp] theorem State.overrun_sweep (p : Nat) (s : State) : (s.overrun p).sweep = s.sweep := rfl
@[simp] theorem State.overrun_line (p : Nat) (s : State) : (s.overrun p).line = s.line := rfl
@[simp] theorem State.overrun_seq (p : Nat) (s : State) : (s.overrun p).seq = s.seq := rfl
@[simp] theorem State.overrun_hw (p : Nat) (s : State) : (s.overrun p).hw = s.hw := rfl
@[simp] theorem State.overrun_supply (p : Nat) (s : State) : (s.overrun p).supply = s.supply := rfl
@[simp] theorem State.overrun_ctl (p : Nat) (s : State) : (s.overrun p).ctl = s.ctl := rfl
@[simp] theorem State.overrun_card (p : Nat) (s : State) : (s.overrun p).card = s.card := rfl
@[simp] theorem State.overrun_events (p : Nat) (s : State) : (s.overrun p).events = s.events := rfl
@[simp] theorem State.overrun_notices (p : Nat) (s : State) : (s.overrun p).notices = s.notices := rfl
@[simp] theorem State.overrun_lamp (p : Nat) (s : State) : (s.overrun p).lamp = s.lamp := rfl
@[simp] theorem State.overrun_pending (p : Nat) (s : State) : (s.overrun p).pending = s.pending := rfl

@[simp] theorem State.writeSettings_records (c : Settings) (s : State) : (s.writeSettings c).records = s.records := rfl
@[simp] theorem State.writeSettings_peers (c : Settings) (s : State) : (s.writeSettings c).peers = s.peers := rfl
@[simp] theorem State.writeSettings_sweep (c : Settings) (s : State) : (s.writeSettings c).sweep = s.sweep := rfl
@[simp] theorem State.writeSettings_line (c : Settings) (s : State) : (s.writeSettings c).line = s.line := rfl
@[simp] theorem State.writeSettings_seq (c : Settings) (s : State) : (s.writeSettings c).seq = s.seq := rfl
@[simp] theorem State.writeSettings_hw (c : Settings) (s : State) : (s.writeSettings c).hw = s.hw := rfl
@[simp] theorem State.writeSettings_supply (c : Settings) (s : State) : (s.writeSettings c).supply = s.supply := rfl
@[simp] theorem State.writeSettings_ctl (c : Settings) (s : State) : (s.writeSettings c).ctl = s.ctl := rfl
@[simp] theorem State.writeSettings_card (c : Settings) (s : State) : (s.writeSettings c).card = s.card := rfl
@[simp] theorem State.writeSettings_events (c : Settings) (s : State) : (s.writeSettings c).events = s.events := rfl
@[simp] theorem State.writeSettings_notices (c : Settings) (s : State) : (s.writeSettings c).notices = s.notices := rfl
@[simp] theorem State.writeSettings_lamp (c : Settings) (s : State) : (s.writeSettings c).lamp = s.lamp := rfl
@[simp] theorem State.writeSettings_pending (c : Settings) (s : State) : (s.writeSettings c).pending = s.pending := rfl

@[simp] theorem State.freshLinks_store (s : State) : (s.freshLinks).store = s.store := rfl
@[simp] theorem State.freshLinks_peers (s : State) : (s.freshLinks).peers = s.peers := rfl
@[simp] theorem State.freshLinks_sweep (s : State) : (s.freshLinks).sweep = s.sweep := rfl
@[simp] theorem State.freshLinks_line (s : State) : (s.freshLinks).line = s.line := rfl
@[simp] theorem State.freshLinks_seq (s : State) : (s.freshLinks).seq = s.seq := rfl
@[simp] theorem State.freshLinks_hw (s : State) : (s.freshLinks).hw = s.hw := rfl
@[simp] theorem State.freshLinks_supply (s : State) : (s.freshLinks).supply = s.supply := rfl
@[simp] theorem State.freshLinks_ctl (s : State) : (s.freshLinks).ctl = s.ctl := rfl
@[simp] theorem State.freshLinks_card (s : State) : (s.freshLinks).card = s.card := rfl
@[simp] theorem State.freshLinks_events (s : State) : (s.freshLinks).events = s.events := rfl
@[simp] theorem State.freshLinks_notices (s : State) : (s.freshLinks).notices = s.notices := rfl
@[simp] theorem State.freshLinks_lamp (s : State) : (s.freshLinks).lamp = s.lamp := rfl
@[simp] theorem State.freshLinks_pending (s : State) : (s.freshLinks).pending = s.pending := rfl

@[simp] theorem State.freshInterval_records (s : State) : (s.freshInterval).records = s.records := rfl
@[simp] theorem State.freshInterval_store (s : State) : (s.freshInterval).store = s.store := rfl
@[simp] theorem State.freshInterval_peers (s : State) : (s.freshInterval).peers = s.peers := rfl
@[simp] theorem State.freshInterval_line (s : State) : (s.freshInterval).line = s.line := rfl
@[simp] theorem State.freshInterval_seq (s : State) : (s.freshInterval).seq = s.seq := rfl
@[simp] theorem State.freshInterval_hw (s : State) : (s.freshInterval).hw = s.hw := rfl
@[simp] theorem State.freshInterval_supply (s : State) : (s.freshInterval).supply = s.supply := rfl
@[simp] theorem State.freshInterval_ctl (s : State) : (s.freshInterval).ctl = s.ctl := rfl
@[simp] theorem State.freshInterval_card (s : State) : (s.freshInterval).card = s.card := rfl
@[simp] theorem State.freshInterval_events (s : State) : (s.freshInterval).events = s.events := rfl
@[simp] theorem State.freshInterval_notices (s : State) : (s.freshInterval).notices = s.notices := rfl
@[simp] theorem State.freshInterval_lamp (s : State) : (s.freshInterval).lamp = s.lamp := rfl
@[simp] theorem State.freshInterval_pending (s : State) : (s.freshInterval).pending = s.pending := rfl

@[simp] theorem State.coldRewrite_peers (s : State) : (s.coldRewrite).peers = s.peers := rfl
@[simp] theorem State.coldRewrite_sweep (s : State) : (s.coldRewrite).sweep = s.sweep := rfl
@[simp] theorem State.coldRewrite_line (s : State) : (s.coldRewrite).line = s.line := rfl
@[simp] theorem State.coldRewrite_seq (s : State) : (s.coldRewrite).seq = s.seq := rfl
@[simp] theorem State.coldRewrite_hw (s : State) : (s.coldRewrite).hw = s.hw := rfl
@[simp] theorem State.coldRewrite_supply (s : State) : (s.coldRewrite).supply = s.supply := rfl
@[simp] theorem State.coldRewrite_ctl (s : State) : (s.coldRewrite).ctl = s.ctl := rfl
@[simp] theorem State.coldRewrite_card (s : State) : (s.coldRewrite).card = s.card := rfl
@[simp] theorem State.coldRewrite_events (s : State) : (s.coldRewrite).events = s.events := rfl
@[simp] theorem State.coldRewrite_notices (s : State) : (s.coldRewrite).notices = s.notices := rfl
@[simp] theorem State.coldRewrite_lamp (s : State) : (s.coldRewrite).lamp = s.lamp := rfl
@[simp] theorem State.coldRewrite_pending (s : State) : (s.coldRewrite).pending = s.pending := rfl

@[simp] theorem State.clearKeepAlive_records (s : State) : (s.clearKeepAlive).records = s.records := rfl
@[simp] theorem State.clearKeepAlive_peers (s : State) : (s.clearKeepAlive).peers = s.peers := rfl
@[simp] theorem State.clearKeepAlive_sweep (s : State) : (s.clearKeepAlive).sweep = s.sweep := rfl
@[simp] theorem State.clearKeepAlive_line (s : State) : (s.clearKeepAlive).line = s.line := rfl
@[simp] theorem State.clearKeepAlive_seq (s : State) : (s.clearKeepAlive).seq = s.seq := rfl
@[simp] theorem State.clearKeepAlive_hw (s : State) : (s.clearKeepAlive).hw = s.hw := rfl
@[simp] theorem State.clearKeepAlive_supply (s : State) : (s.clearKeepAlive).supply = s.supply := rfl
@[simp] theorem State.clearKeepAlive_ctl (s : State) : (s.clearKeepAlive).ctl = s.ctl := rfl
@[simp] theorem State.clearKeepAlive_card (s : State) : (s.clearKeepAlive).card = s.card := rfl
@[simp] theorem State.clearKeepAlive_events (s : State) : (s.clearKeepAlive).events = s.events := rfl
@[simp] theorem State.clearKeepAlive_notices (s : State) : (s.clearKeepAlive).notices = s.notices := rfl
@[simp] theorem State.clearKeepAlive_lamp (s : State) : (s.clearKeepAlive).lamp = s.lamp := rfl
@[simp] theorem State.clearKeepAlive_pending (s : State) : (s.clearKeepAlive).pending = s.pending := rfl

@[simp] theorem State.respond_records (code : Byte) (result : ResultCode) (payload : List Byte) (s : State) : (s.respond code result payload).records = s.records := rfl
@[simp] theorem State.respond_store (code : Byte) (result : ResultCode) (payload : List Byte) (s : State) : (s.respond code result payload).store = s.store := rfl
@[simp] theorem State.respond_peers (code : Byte) (result : ResultCode) (payload : List Byte) (s : State) : (s.respond code result payload).peers = s.peers := rfl
@[simp] theorem State.respond_sweep (code : Byte) (result : ResultCode) (payload : List Byte) (s : State) : (s.respond code result payload).sweep = s.sweep := rfl
@[simp] theorem State.respond_line (code : Byte) (result : ResultCode) (payload : List Byte) (s : State) : (s.respond code result payload).line = s.line := rfl
@[simp] theorem State.respond_seq (code : Byte) (result : ResultCode) (payload : List Byte) (s : State) : (s.respond code result payload).seq = s.seq := rfl
@[simp] theorem State.respond_hw (code : Byte) (result : ResultCode) (payload : List Byte) (s : State) : (s.respond code result payload).hw = s.hw := rfl
@[simp] theorem State.respond_supply (code : Byte) (result : ResultCode) (payload : List Byte) (s : State) : (s.respond code result payload).supply = s.supply := rfl
@[simp] theorem State.respond_ctl (code : Byte) (result : ResultCode) (payload : List Byte) (s : State) : (s.respond code result payload).ctl = s.ctl := rfl
@[simp] theorem State.respond_events (code : Byte) (result : ResultCode) (payload : List Byte) (s : State) : (s.respond code result payload).events = s.events := rfl
@[simp] theorem State.respond_notices (code : Byte) (result : ResultCode) (payload : List Byte) (s : State) : (s.respond code result payload).notices = s.notices := rfl
@[simp] theorem State.respond_lamp (code : Byte) (result : ResultCode) (payload : List Byte) (s : State) : (s.respond code result payload).lamp = s.lamp := rfl
@[simp] theorem State.respond_pending (code : Byte) (result : ResultCode) (payload : List Byte) (s : State) : (s.respond code result payload).pending = s.pending := rfl

@[simp] theorem State.endTransfer_records (n : Nat) (s : State) : (s.endTransfer n).records = s.records := rfl
@[simp] theorem State.endTransfer_store (n : Nat) (s : State) : (s.endTransfer n).store = s.store := rfl
@[simp] theorem State.endTransfer_peers (n : Nat) (s : State) : (s.endTransfer n).peers = s.peers := rfl
@[simp] theorem State.endTransfer_sweep (n : Nat) (s : State) : (s.endTransfer n).sweep = s.sweep := rfl
@[simp] theorem State.endTransfer_line (n : Nat) (s : State) : (s.endTransfer n).line = s.line := rfl
@[simp] theorem State.endTransfer_seq (n : Nat) (s : State) : (s.endTransfer n).seq = s.seq := rfl
@[simp] theorem State.endTransfer_hw (n : Nat) (s : State) : (s.endTransfer n).hw = s.hw := rfl
@[simp] theorem State.endTransfer_supply (n : Nat) (s : State) : (s.endTransfer n).supply = s.supply := rfl
@[simp] theorem State.endTransfer_ctl (n : Nat) (s : State) : (s.endTransfer n).ctl = s.ctl := rfl
@[simp] theorem State.endTransfer_events (n : Nat) (s : State) : (s.endTransfer n).events = s.events := rfl
@[simp] theorem State.endTransfer_notices (n : Nat) (s : State) : (s.endTransfer n).notices = s.notices := rfl
@[simp] theorem State.endTransfer_lamp (n : Nat) (s : State) : (s.endTransfer n).lamp = s.lamp := rfl
@[simp] theorem State.endTransfer_pending (n : Nat) (s : State) : (s.endTransfer n).pending = s.pending := rfl

@[simp] theorem State.endDead_records (s : State) : (s.endDead).records = s.records := rfl
@[simp] theorem State.endDead_store (s : State) : (s.endDead).store = s.store := rfl
@[simp] theorem State.endDead_peers (s : State) : (s.endDead).peers = s.peers := rfl
@[simp] theorem State.endDead_sweep (s : State) : (s.endDead).sweep = s.sweep := rfl
@[simp] theorem State.endDead_line (s : State) : (s.endDead).line = s.line := rfl
@[simp] theorem State.endDead_seq (s : State) : (s.endDead).seq = s.seq := rfl
@[simp] theorem State.endDead_hw (s : State) : (s.endDead).hw = s.hw := rfl
@[simp] theorem State.endDead_supply (s : State) : (s.endDead).supply = s.supply := rfl
@[simp] theorem State.endDead_ctl (s : State) : (s.endDead).ctl = s.ctl := rfl
@[simp] theorem State.endDead_events (s : State) : (s.endDead).events = s.events := rfl
@[simp] theorem State.endDead_notices (s : State) : (s.endDead).notices = s.notices := rfl
@[simp] theorem State.endDead_lamp (s : State) : (s.endDead).lamp = s.lamp := rfl
@[simp] theorem State.endDead_pending (s : State) : (s.endDead).pending = s.pending := rfl
@[simp] theorem State.endDead_card (s : State) : (s.endDead).card =
    { s.card with transfer := .idle, discarded := false, shifted := [] } := rfl

@[simp] theorem State.highwayFrame_store (h : HighwayInput) (s : State) : (s.highwayFrame h).store = s.store := rfl
@[simp] theorem State.highwayFrame_peers (h : HighwayInput) (s : State) : (s.highwayFrame h).peers = s.peers := rfl
@[simp] theorem State.highwayFrame_sweep (h : HighwayInput) (s : State) : (s.highwayFrame h).sweep = s.sweep := rfl
@[simp] theorem State.highwayFrame_line (h : HighwayInput) (s : State) : (s.highwayFrame h).line = s.line := rfl
@[simp] theorem State.highwayFrame_seq (h : HighwayInput) (s : State) : (s.highwayFrame h).seq = s.seq := rfl
@[simp] theorem State.highwayFrame_supply (h : HighwayInput) (s : State) : (s.highwayFrame h).supply = s.supply := rfl
@[simp] theorem State.highwayFrame_ctl (h : HighwayInput) (s : State) : (s.highwayFrame h).ctl = s.ctl := rfl
@[simp] theorem State.highwayFrame_card (h : HighwayInput) (s : State) : (s.highwayFrame h).card = s.card := rfl
@[simp] theorem State.highwayFrame_events (h : HighwayInput) (s : State) : (s.highwayFrame h).events = s.events := rfl
@[simp] theorem State.highwayFrame_notices (h : HighwayInput) (s : State) : (s.highwayFrame h).notices = s.notices := rfl
@[simp] theorem State.highwayFrame_lamp (h : HighwayInput) (s : State) : (s.highwayFrame h).lamp = s.lamp := rfl
@[simp] theorem State.highwayFrame_pending (h : HighwayInput) (s : State) : (s.highwayFrame h).pending = s.pending := rfl

@[simp] theorem State.sweepEvent_store (s : State) : (s.sweepEvent).store = s.store := rfl
@[simp] theorem State.sweepEvent_line (s : State) : (s.sweepEvent).line = s.line := rfl
@[simp] theorem State.sweepEvent_seq (s : State) : (s.sweepEvent).seq = s.seq := rfl
@[simp] theorem State.sweepEvent_hw (s : State) : (s.sweepEvent).hw = s.hw := rfl
@[simp] theorem State.sweepEvent_supply (s : State) : (s.sweepEvent).supply = s.supply := rfl
@[simp] theorem State.sweepEvent_card (s : State) : (s.sweepEvent).card = s.card := rfl
@[simp] theorem State.sweepEvent_events (s : State) : (s.sweepEvent).events = s.events := rfl
@[simp] theorem State.sweepEvent_notices (s : State) : (s.sweepEvent).notices = s.notices := rfl
@[simp] theorem State.sweepEvent_lamp (s : State) : (s.sweepEvent).lamp = s.lamp := rfl
@[simp] theorem State.sweepEvent_pending (s : State) : (s.sweepEvent).pending = s.pending := rfl

@[simp] theorem State.lineError_records (s : State) : (s.lineError).records = s.records := rfl
@[simp] theorem State.lineError_store (s : State) : (s.lineError).store = s.store := rfl
@[simp] theorem State.lineError_peers (s : State) : (s.lineError).peers = s.peers := rfl
@[simp] theorem State.lineError_sweep (s : State) : (s.lineError).sweep = s.sweep := rfl
@[simp] theorem State.lineError_seq (s : State) : (s.lineError).seq = s.seq := rfl
@[simp] theorem State.lineError_hw (s : State) : (s.lineError).hw = s.hw := rfl
@[simp] theorem State.lineError_supply (s : State) : (s.lineError).supply = s.supply := rfl
@[simp] theorem State.lineError_ctl (s : State) : (s.lineError).ctl = s.ctl := rfl
@[simp] theorem State.lineError_card (s : State) : (s.lineError).card = s.card := rfl
@[simp] theorem State.lineError_notices (s : State) : (s.lineError).notices = s.notices := rfl
@[simp] theorem State.lineError_lamp (s : State) : (s.lineError).lamp = s.lamp := rfl
@[simp] theorem State.lineError_pending (s : State) : (s.lineError).pending = s.pending := rfl
end Sys2Proof.Machine
end

