-- ==== Sys2Proof/Laws/Frames.lean ====
section
/-! SUPPORT. Laws/Frames.lean: which blocks of the state each shared operation of the model leaves unchanged. -/

namespace Sys2Proof.Machine

/-- What every turn keeps, a walk keeps. -/
theorem State.each_keeps {α β : Type} (g : State → β) (xs : List α) (f : α → State → State)
    (h : ∀ x s, g (f x s) = g s) (s : State) : g (s.each xs f) = g s := by
  induction xs generalizing s with
  | nil => rfl
  | cons x xs ih =>
    have : s.each (x :: xs) f = (f x s).each xs f := rfl
    rw [this, ih, h]

@[simp] theorem State.raiseIf_keeps (c : Bool) (f : EventFlag) (s : State) :
    (s.raiseIf c f).records = s.records ∧ (s.raiseIf c f).store = s.store ∧ (s.raiseIf c f).peers = s.peers ∧
    (s.raiseIf c f).sweep = s.sweep ∧ (s.raiseIf c f).line = s.line ∧ (s.raiseIf c f).seq = s.seq ∧ (s.raiseIf c
    f).hw = s.hw ∧ (s.raiseIf c f).supply = s.supply ∧ (s.raiseIf c f).ctl = s.ctl ∧ (s.raiseIf c f).card = s.card ∧
    (s.raiseIf c f).notices = s.notices ∧ (s.raiseIf c f).lamp = s.lamp ∧ (s.raiseIf c f).pending = s.pending := by
  unfold State.raiseIf
  split <;> simp

@[simp] theorem State.post_keeps (k : NoticeKind) (r : Circuit) (s : State) :
    (s.post k r).records = s.records ∧ (s.post k r).store = s.store ∧ (s.post k r).peers = s.peers ∧ (s.post k
    r).sweep = s.sweep ∧ (s.post k r).line = s.line ∧ (s.post k r).seq = s.seq ∧ (s.post k r).hw = s.hw ∧ (s.post k
    r).supply = s.supply ∧ (s.post k r).ctl = s.ctl ∧ (s.post k r).card = s.card ∧ (s.post k r).lamp = s.lamp ∧
    (s.post k r).pending = s.pending := by
  unfold State.post
  split <;> simp

@[simp] theorem State.postIf_keeps (c : Bool) (k : NoticeKind) (r : Circuit) (s : State) :
    (s.postIf c k r).records = s.records ∧ (s.postIf c k r).store = s.store ∧ (s.postIf c k r).peers = s.peers ∧
    (s.postIf c k r).sweep = s.sweep ∧ (s.postIf c k r).line = s.line ∧ (s.postIf c k r).seq = s.seq ∧ (s.postIf c k
    r).hw = s.hw ∧ (s.postIf c k r).supply = s.supply ∧ (s.postIf c k r).ctl = s.ctl ∧ (s.postIf c k r).card =
    s.card ∧ (s.postIf c k r).lamp = s.lamp ∧ (s.postIf c k r).pending = s.pending := by
  unfold State.postIf
  split <;> simp

@[simp] theorem State.setWant_keeps (req : Request) (b : Bool) (s : State) :
    (s.setWant req b).records = s.records ∧ (s.setWant req b).store = s.store ∧ (s.setWant req b).sweep = s.sweep ∧
    (s.setWant req b).seq = s.seq ∧ (s.setWant req b).hw = s.hw ∧ (s.setWant req b).supply = s.supply ∧ (s.setWant
    req b).ctl = s.ctl ∧ (s.setWant req b).card = s.card ∧ (s.setWant req b).events = s.events ∧ (s.setWant req
    b).notices = s.notices ∧ (s.setWant req b).lamp = s.lamp ∧ (s.setWant req b).pending = s.pending := by
  unfold State.setWant
  cases req <;> simp

@[simp] theorem State.request_keeps (req : Request) (s : State) :
    (s.request req).records = s.records ∧ (s.request req).store = s.store ∧ (s.request req).sweep = s.sweep ∧
    (s.request req).seq = s.seq ∧ (s.request req).hw = s.hw ∧ (s.request req).supply = s.supply ∧ (s.request
    req).ctl = s.ctl ∧ (s.request req).card = s.card ∧ (s.request req).events = s.events ∧ (s.request req).notices =
    s.notices ∧ (s.request req).lamp = s.lamp ∧ (s.request req).pending = s.pending := by
  unfold State.request
  split <;> [simp; (split <;> simp)]

@[simp] theorem State.announce_keeps (s : State) :
    (s.announce).records = s.records ∧ (s.announce).store = s.store ∧ (s.announce).seq = s.seq ∧ (s.announce).hw =
    s.hw ∧ (s.announce).supply = s.supply ∧ (s.announce).ctl = s.ctl ∧ (s.announce).card = s.card ∧
    (s.announce).events = s.events ∧ (s.announce).notices = s.notices ∧ (s.announce).lamp = s.lamp ∧
    (s.announce).pending = s.pending := by
  unfold State.announce
  simp

@[simp] theorem State.mapFlying_keeps (f : InFlight → InFlight) (s : State) :
    (s.mapFlying f).records = s.records ∧ (s.mapFlying f).store = s.store ∧ (s.mapFlying f).peers = s.peers ∧
    (s.mapFlying f).sweep = s.sweep ∧ (s.mapFlying f).seq = s.seq ∧ (s.mapFlying f).hw = s.hw ∧ (s.mapFlying
    f).supply = s.supply ∧ (s.mapFlying f).ctl = s.ctl ∧ (s.mapFlying f).card = s.card ∧ (s.mapFlying f).events =
    s.events ∧ (s.mapFlying f).notices = s.notices ∧ (s.mapFlying f).lamp = s.lamp ∧ (s.mapFlying f).pending =
    s.pending := by
  unfold State.mapFlying
  split <;> simp

@[simp] theorem State.dropRequests_keeps (p : Nat) (s : State) :
    (s.dropRequests p).records = s.records ∧ (s.dropRequests p).store = s.store ∧ (s.dropRequests p).peers = s.peers
    ∧ (s.dropRequests p).sweep = s.sweep ∧ (s.dropRequests p).seq = s.seq ∧ (s.dropRequests p).hw = s.hw ∧
    (s.dropRequests p).supply = s.supply ∧ (s.dropRequests p).ctl = s.ctl ∧ (s.dropRequests p).card = s.card ∧
    (s.dropRequests p).events = s.events ∧ (s.dropRequests p).notices = s.notices ∧ (s.dropRequests p).lamp = s.lamp
    ∧ (s.dropRequests p).pending = s.pending := by
  unfold State.dropRequests
  simp

@[simp] theorem State.emptyLists_keeps (p : Nat) (s : State) :
    (s.emptyLists p).records = s.records ∧ (s.emptyLists p).store = s.store ∧ (s.emptyLists p).sweep = s.sweep ∧
    (s.emptyLists p).seq = s.seq ∧ (s.emptyLists p).hw = s.hw ∧ (s.emptyLists p).supply = s.supply ∧ (s.emptyLists
    p).ctl = s.ctl ∧ (s.emptyLists p).card = s.card ∧ (s.emptyLists p).events = s.events ∧ (s.emptyLists p).notices
    = s.notices ∧ (s.emptyLists p).lamp = s.lamp ∧ (s.emptyLists p).pending = s.pending := by
  unfold State.emptyLists
  simp

@[simp] theorem State.judgeLamp_keeps (s : State) :
    (s.judgeLamp).records = s.records ∧ (s.judgeLamp).store = s.store ∧ (s.judgeLamp).peers = s.peers ∧
    (s.judgeLamp).sweep = s.sweep ∧ (s.judgeLamp).line = s.line ∧ (s.judgeLamp).seq = s.seq ∧ (s.judgeLamp).hw =
    s.hw ∧ (s.judgeLamp).supply = s.supply ∧ (s.judgeLamp).ctl = s.ctl ∧ (s.judgeLamp).card = s.card ∧
    (s.judgeLamp).events = s.events ∧ (s.judgeLamp).notices = s.notices ∧ (s.judgeLamp).pending = s.pending := by
  unfold State.judgeLamp
  split <;> simp

@[simp] theorem State.newLampPeriod_keeps (s : State) :
    (s.newLampPeriod).records = s.records ∧ (s.newLampPeriod).store = s.store ∧ (s.newLampPeriod).peers = s.peers ∧
    (s.newLampPeriod).sweep = s.sweep ∧ (s.newLampPeriod).line = s.line ∧ (s.newLampPeriod).seq = s.seq ∧
    (s.newLampPeriod).hw = s.hw ∧ (s.newLampPeriod).supply = s.supply ∧ (s.newLampPeriod).ctl = s.ctl ∧
    (s.newLampPeriod).card = s.card ∧ (s.newLampPeriod).events = s.events ∧ (s.newLampPeriod).notices = s.notices ∧
    (s.newLampPeriod).pending = s.pending := by
  unfold State.newLampPeriod
  split <;> simp

@[simp] theorem State.setStation_keeps (x : StationState) (s : State) :
    (s.setStation x).records = s.records ∧ (s.setStation x).store = s.store ∧ (s.setStation x).peers = s.peers ∧
    (s.setStation x).sweep = s.sweep ∧ (s.setStation x).line = s.line ∧ (s.setStation x).seq = s.seq ∧ (s.setStation
    x).hw = s.hw ∧ (s.setStation x).supply = s.supply ∧ (s.setStation x).card = s.card ∧ (s.setStation x).events =
    s.events ∧ (s.setStation x).notices = s.notices ∧ (s.setStation x).pending = s.pending := by
  unfold State.setStation
  simp

@[simp] theorem State.judgeEnd_keeps (s : State) :
    (s.judgeEnd).records = s.records ∧ (s.judgeEnd).store = s.store ∧ (s.judgeEnd).seq = s.seq ∧ (s.judgeEnd).hw =
    s.hw ∧ (s.judgeEnd).supply = s.supply ∧ (s.judgeEnd).card = s.card ∧ (s.judgeEnd).notices = s.notices ∧
    (s.judgeEnd).pending = s.pending := by
  unfold State.judgeEnd
  split <;> simp

@[simp] theorem State.strike_keeps (cut : EditCut) (s : State) :
    (s.strike cut).records = s.records ∧ (s.strike cut).peers = s.peers ∧ (s.strike cut).sweep = s.sweep ∧ (s.strike
    cut).line = s.line ∧ (s.strike cut).seq = s.seq ∧ (s.strike cut).hw = s.hw ∧ (s.strike cut).supply = s.supply ∧
    (s.strike cut).ctl = s.ctl ∧ (s.strike cut).card = s.card ∧ (s.strike cut).events = s.events ∧ (s.strike
    cut).notices = s.notices ∧ (s.strike cut).lamp = s.lamp ∧ (s.strike cut).pending = s.pending := by
  unfold State.strike
  cases cut <;> simp

@[simp] theorem State.markClash_keeps (h : Nat) (s : State) :
    (s.markClash h).peers = s.peers ∧ (s.markClash h).sweep = s.sweep ∧ (s.markClash h).line = s.line ∧ (s.markClash
    h).seq = s.seq ∧ (s.markClash h).hw = s.hw ∧ (s.markClash h).supply = s.supply ∧ (s.markClash h).ctl = s.ctl ∧
    (s.markClash h).card = s.card ∧ (s.markClash h).events = s.events ∧ (s.markClash h).notices = s.notices ∧
    (s.markClash h).lamp = s.lamp ∧ (s.markClash h).pending = s.pending := by
  unfold State.markClash
  split <;> simp

@[simp] theorem State.enter_keeps (h : Nat) (new : Relink) (due : Bool) (sends : Nat) (s : State) :
    (s.enter h new due sends).peers = s.peers ∧ (s.enter h new due sends).sweep = s.sweep ∧ (s.enter h new due
    sends).line = s.line ∧ (s.enter h new due sends).seq = s.seq ∧ (s.enter h new due sends).hw = s.hw ∧ (s.enter h
    new due sends).supply = s.supply ∧ (s.enter h new due sends).ctl = s.ctl ∧ (s.enter h new due sends).card =
    s.card ∧ (s.enter h new due sends).events = s.events ∧ (s.enter h new due sends).notices = s.notices ∧ (s.enter
    h new due sends).pending = s.pending := by
  unfold State.enter
  simp only []; split <;> simp

@[simp] theorem State.cancelProbe_keeps (r : Circuit) (s : State) :
    (s.cancelProbe r).records = s.records ∧ (s.cancelProbe r).store = s.store ∧ (s.cancelProbe r).peers = s.peers ∧
    (s.cancelProbe r).sweep = s.sweep ∧ (s.cancelProbe r).line = s.line ∧ (s.cancelProbe r).supply = s.supply ∧
    (s.cancelProbe r).ctl = s.ctl ∧ (s.cancelProbe r).card = s.card ∧ (s.cancelProbe r).events = s.events ∧
    (s.cancelProbe r).notices = s.notices ∧ (s.cancelProbe r).lamp = s.lamp ∧ (s.cancelProbe r).pending = s.pending := by
  unfold State.cancelProbe
  split <;> simp

@[simp] theorem State.moveTo_keeps (r : Circuit) (new : Relink) (due : Bool) (sends : Nat) (s : State) :
    (s.moveTo r new due sends).peers = s.peers ∧ (s.moveTo r new due sends).sweep = s.sweep ∧ (s.moveTo r new due
    sends).line = s.line ∧ (s.moveTo r new due sends).supply = s.supply ∧ (s.moveTo r new due sends).ctl = s.ctl ∧
    (s.moveTo r new due sends).card = s.card ∧ (s.moveTo r new due sends).events = s.events ∧ (s.moveTo r new due
    sends).notices = s.notices ∧ (s.moveTo r new due sends).pending = s.pending := by
  unfold State.moveTo
  simp

@[simp] theorem State.startProbe_keeps (r : Circuit) (k : Nat) (s : State) :
    (s.startProbe r k).peers = s.peers ∧ (s.startProbe r k).sweep = s.sweep ∧ (s.startProbe r k).line = s.line ∧
    (s.startProbe r k).supply = s.supply ∧ (s.startProbe r k).ctl = s.ctl ∧ (s.startProbe r k).card = s.card ∧
    (s.startProbe r k).events = s.events ∧ (s.startProbe r k).notices = s.notices ∧ (s.startProbe r k).pending =
    s.pending := by
  unfold State.startProbe
  simp

@[simp] theorem State.attemptTurns_keeps (n : Nat) (s : State) :
    (s.attemptTurns n).peers = s.peers ∧ (s.attemptTurns n).sweep = s.sweep ∧ (s.attemptTurns n).line = s.line ∧
    (s.attemptTurns n).supply = s.supply ∧ (s.attemptTurns n).ctl = s.ctl ∧ (s.attemptTurns n).card = s.card ∧
    (s.attemptTurns n).events = s.events ∧ (s.attemptTurns n).notices = s.notices ∧ (s.attemptTurns n).pending =
    s.pending := by
  induction n generalizing s with
  | zero => simp [State.attemptTurns]
  | succ n ih =>
    unfold State.attemptTurns
    split
    · split
      · simp [ih]
      · simp
    · simp

@[simp] theorem State.attempt_keeps (s : State) :
    (s.attempt).peers = s.peers ∧ (s.attempt).sweep = s.sweep ∧ (s.attempt).line = s.line ∧ (s.attempt).supply =
    s.supply ∧ (s.attempt).ctl = s.ctl ∧ (s.attempt).card = s.card ∧ (s.attempt).events = s.events ∧
    (s.attempt).notices = s.notices ∧ (s.attempt).pending = s.pending := by
  unfold State.attempt
  split <;> simp

@[simp] theorem State.settleChange_keeps (cause : Bool) (s : State) :
    (s.settleChange cause).supply = s.supply ∧ (s.settleChange cause).card = s.card ∧ (s.settleChange cause).notices
    = s.notices ∧ (s.settleChange cause).pending = s.pending := by
  unfold State.settleChange
  simp only [State.judgeEnd_keeps]; split <;> simp

@[simp] theorem State.removeRecord_keeps (r : Circuit) (s : State) :
    (s.removeRecord r).peers = s.peers ∧ (s.removeRecord r).sweep = s.sweep ∧ (s.removeRecord r).supply = s.supply ∧
    (s.removeRecord r).ctl = s.ctl ∧ (s.removeRecord r).card = s.card ∧ (s.removeRecord r).events = s.events ∧
    (s.removeRecord r).notices = s.notices ∧ (s.removeRecord r).pending = s.pending := by
  unfold State.removeRecord
  simp

@[simp] theorem State.pass_keeps (p : Nat) (s : State) :
    (s.pass p).records = s.records ∧ (s.pass p).store = s.store ∧ (s.pass p).sweep = s.sweep ∧ (s.pass p).seq =
    s.seq ∧ (s.pass p).hw = s.hw ∧ (s.pass p).supply = s.supply ∧ (s.pass p).ctl = s.ctl ∧ (s.pass p).card = s.card
    ∧ (s.pass p).events = s.events ∧ (s.pass p).notices = s.notices ∧ (s.pass p).lamp = s.lamp ∧ (s.pass p).pending
    = s.pending := by
  unfold State.pass
  split <;> simp

@[simp] theorem State.passAll_keeps (s : State) :
    (s.passAll).records = s.records ∧ (s.passAll).store = s.store ∧ (s.passAll).sweep = s.sweep ∧ (s.passAll).seq =
    s.seq ∧ (s.passAll).hw = s.hw ∧ (s.passAll).supply = s.supply ∧ (s.passAll).ctl = s.ctl ∧ (s.passAll).card =
    s.card ∧ (s.passAll).events = s.events ∧ (s.passAll).notices = s.notices ∧ (s.passAll).lamp = s.lamp ∧
    (s.passAll).pending = s.pending := by
  unfold State.passAll
  exact ⟨State.each_keeps (·.records) _ _ (by simp) s,
    State.each_keeps (·.store) _ _ (by simp) s,
    State.each_keeps (·.sweep) _ _ (by simp) s,
    State.each_keeps (·.seq) _ _ (by simp) s,
    State.each_keeps (·.hw) _ _ (by simp) s,
    State.each_keeps (·.supply) _ _ (by simp) s,
    State.each_keeps (·.ctl) _ _ (by simp) s,
    State.each_keeps (·.card) _ _ (by simp) s,
    State.each_keeps (·.events) _ _ (by simp) s,
    State.each_keeps (·.notices) _ _ (by simp) s,
    State.each_keeps (·.lamp) _ _ (by simp) s,
    State.each_keeps (·.pending) _ _ (by simp) s⟩

@[simp] theorem State.checkSingle_keeps (p : Nat) (s : State) :
    (s.checkSingle p).records = s.records ∧ (s.checkSingle p).store = s.store ∧ (s.checkSingle p).sweep = s.sweep ∧
    (s.checkSingle p).seq = s.seq ∧ (s.checkSingle p).hw = s.hw ∧ (s.checkSingle p).supply = s.supply ∧
    (s.checkSingle p).ctl = s.ctl ∧ (s.checkSingle p).card = s.card ∧ (s.checkSingle p).events = s.events ∧
    (s.checkSingle p).notices = s.notices ∧ (s.checkSingle p).lamp = s.lamp ∧ (s.checkSingle p).pending = s.pending := by
  unfold State.checkSingle
  split <;> simp

@[simp] theorem State.restartRoll_keeps (p : Nat) (s : State) :
    (s.restartRoll p).store = s.store ∧ (s.restartRoll p).sweep = s.sweep ∧ (s.restartRoll p).seq = s.seq ∧
    (s.restartRoll p).hw = s.hw ∧ (s.restartRoll p).supply = s.supply ∧ (s.restartRoll p).ctl = s.ctl ∧
    (s.restartRoll p).card = s.card ∧ (s.restartRoll p).events = s.events ∧ (s.restartRoll p).notices = s.notices ∧
    (s.restartRoll p).lamp = s.lamp ∧ (s.restartRoll p).pending = s.pending := by
  unfold State.restartRoll
  split <;> simp

@[simp] theorem State.appendVerdict_keeps (p : Nat) (v : Verdict) (s : State) :
    (s.appendVerdict p v).records = s.records ∧ (s.appendVerdict p v).store = s.store ∧ (s.appendVerdict p v).sweep
    = s.sweep ∧ (s.appendVerdict p v).seq = s.seq ∧ (s.appendVerdict p v).hw = s.hw ∧ (s.appendVerdict p v).supply =
    s.supply ∧ (s.appendVerdict p v).ctl = s.ctl ∧ (s.appendVerdict p v).card = s.card ∧ (s.appendVerdict p
    v).events = s.events ∧ (s.appendVerdict p v).notices = s.notices ∧ (s.appendVerdict p v).lamp = s.lamp ∧
    (s.appendVerdict p v).pending = s.pending := by
  unfold State.appendVerdict
  simp

@[simp] theorem State.appendRelease_keeps (p tag : Nat) (s : State) :
    (s.appendRelease p tag).records = s.records ∧ (s.appendRelease p tag).store = s.store ∧ (s.appendRelease p
    tag).sweep = s.sweep ∧ (s.appendRelease p tag).seq = s.seq ∧ (s.appendRelease p tag).hw = s.hw ∧
    (s.appendRelease p tag).supply = s.supply ∧ (s.appendRelease p tag).ctl = s.ctl ∧ (s.appendRelease p tag).card =
    s.card ∧ (s.appendRelease p tag).events = s.events ∧ (s.appendRelease p tag).notices = s.notices ∧
    (s.appendRelease p tag).lamp = s.lamp ∧ (s.appendRelease p tag).pending = s.pending := by
  unfold State.appendRelease
  simp

@[simp] theorem State.deferPlace_keeps (cond : Relink → Bool) (h : Nat) (s : State) :
    (s.deferPlace cond h).supply = s.supply ∧ (s.deferPlace cond h).card = s.card ∧ (s.deferPlace cond h).pending =
    s.pending := by
  unfold State.deferPlace
  split <;> [simp; (split <;> simp)]

@[simp] theorem State.deferMany_keeps (cond : Relink → Bool) (rs : List Circuit) (s : State) :
    (s.deferMany cond rs).supply = s.supply ∧ (s.deferMany cond rs).card = s.card ∧ (s.deferMany cond rs).pending =
    s.pending := by
  unfold State.deferMany
  refine ⟨(State.each_keeps (·.supply) _ _ (by simp) _).trans ?_,
    (State.each_keeps (·.card) _ _ (by simp) _).trans ?_,
    (State.each_keeps (·.pending) _ _ (by simp) _).trans ?_⟩ <;> simp

@[simp] theorem State.claimSent_keeps (roll : Bool) (h : Nat) (s : State) :
    (s.claimSent roll h).supply = s.supply ∧ (s.claimSent roll h).card = s.card ∧ (s.claimSent roll h).notices =
    s.notices ∧ (s.claimSent roll h).pending = s.pending := by
  unfold State.claimSent
  split <;> [simp; (dsimp only; split <;> simp)]

@[simp] theorem State.agree_keeps (lane : InUse) (r : Circuit) (s : State) :
    (s.agree lane r).peers = s.peers ∧ (s.agree lane r).sweep = s.sweep ∧ (s.agree lane r).line = s.line ∧ (s.agree
    lane r).supply = s.supply ∧ (s.agree lane r).ctl = s.ctl ∧ (s.agree lane r).card = s.card ∧ (s.agree lane
    r).pending = s.pending := by
  unfold State.agree
  dsimp only; simp only [State.postIf_keeps]; split <;> simp

@[simp] theorem State.refuse_keeps (c : Cause) (r : Circuit) (s : State) :
    (s.refuse c r).peers = s.peers ∧ (s.refuse c r).sweep = s.sweep ∧ (s.refuse c r).line = s.line ∧ (s.refuse c
    r).supply = s.supply ∧ (s.refuse c r).ctl = s.ctl ∧ (s.refuse c r).card = s.card ∧ (s.refuse c r).pending =
    s.pending := by
  unfold State.refuse
  simp

@[simp] theorem State.clash_keeps (r : Circuit) (s : State) :
    (s.clash r).peers = s.peers ∧ (s.clash r).sweep = s.sweep ∧ (s.clash r).line = s.line ∧ (s.clash r).supply =
    s.supply ∧ (s.clash r).ctl = s.ctl ∧ (s.clash r).card = s.card ∧ (s.clash r).pending = s.pending := by
  unfold State.clash
  simp

@[simp] theorem State.unsolicitedClash_keeps (r : Circuit) (s : State) :
    (s.unsolicitedClash r).records = s.records ∧ (s.unsolicitedClash r).store = s.store ∧ (s.unsolicitedClash
    r).sweep = s.sweep ∧ (s.unsolicitedClash r).seq = s.seq ∧ (s.unsolicitedClash r).hw = s.hw ∧ (s.unsolicitedClash
    r).supply = s.supply ∧ (s.unsolicitedClash r).ctl = s.ctl ∧ (s.unsolicitedClash r).card = s.card ∧
    (s.unsolicitedClash r).events = s.events ∧ (s.unsolicitedClash r).notices = s.notices ∧ (s.unsolicitedClash
    r).lamp = s.lamp ∧ (s.unsolicitedClash r).pending = s.pending := by
  unfold State.unsolicitedClash
  split <;> [(split <;> simp); simp]

@[simp] theorem State.laneFault_keeps (r : Circuit) (s : State) :
    (s.laneFault r).sweep = s.sweep ∧ (s.laneFault r).seq = s.seq ∧ (s.laneFault r).hw = s.hw ∧ (s.laneFault
    r).supply = s.supply ∧ (s.laneFault r).ctl = s.ctl ∧ (s.laneFault r).card = s.card ∧ (s.laneFault r).pending =
    s.pending := by
  unfold State.laneFault
  split <;> [(dsimp only; split <;> simp); simp]

@[simp] theorem State.completeProbe_keeps (pr : Probe) (s : State) :
    (s.completeProbe pr).supply = s.supply ∧ (s.completeProbe pr).card = s.card ∧ (s.completeProbe pr).pending =
    s.pending := by
  unfold State.completeProbe
  dsimp only; split <;> [simp; (split <;> simp)]

@[simp] theorem State.claimMatched_keeps (p : Nat) (c : Claim) (r : Circuit) (s : State) :
    (s.claimMatched p c r).supply = s.supply ∧ (s.claimMatched p c r).card = s.card ∧ (s.claimMatched p c r).pending
    = s.pending := by
  unfold State.claimMatched
  split <;> simp

@[simp] theorem State.claimMismatched_keeps (p : Nat) (c : Claim) (r : Circuit) (s : State) :
    (s.claimMismatched p c r).supply = s.supply ∧ (s.claimMismatched p c r).card = s.card ∧ (s.claimMismatched p c
    r).pending = s.pending := by
  unfold State.claimMismatched
  split <;> simp

@[simp] theorem State.orphanPlace_keeps (h : Nat) (s : State) :
    (s.orphanPlace h).supply = s.supply ∧ (s.orphanPlace h).card = s.card ∧ (s.orphanPlace h).pending = s.pending := by
  unfold State.orphanPlace
  split <;> [simp; (split <;> [(dsimp only; split <;> simp); simp])]

@[simp] theorem State.completeRoll_keeps (p : Nat) (s : State) :
    (s.completeRoll p).supply = s.supply ∧ (s.completeRoll p).card = s.card ∧ (s.completeRoll p).pending = s.pending := by
  unfold State.completeRoll
  refine ⟨(State.each_keeps (·.supply) _ _ (by simp) _).trans ?_,
    (State.each_keeps (·.card) _ _ (by simp) _).trans ?_,
    (State.each_keeps (·.pending) _ _ (by simp) _).trans ?_⟩ <;> simp

@[simp] theorem State.countClaim_keeps (p : Nat) (s : State) :
    (s.countClaim p).supply = s.supply ∧ (s.countClaim p).card = s.card ∧ (s.countClaim p).pending = s.pending := by
  unfold State.countClaim
  split <;> [simp; (dsimp only; split <;> simp)]

@[simp] theorem State.answerClaim_keeps (p : Nat) (c : Claim) (s : State) :
    (s.answerClaim p c).supply = s.supply ∧ (s.answerClaim p c).card = s.card ∧ (s.answerClaim p c).pending =
    s.pending := by
  unfold State.answerClaim
  split <;> [simp; (split <;> [simp; (dsimp only; split <;> simp)])]

@[simp] theorem State.takeClaim_keeps (p : Nat) (roll : Bool) (c : Claim) (s : State) :
    (s.takeClaim p roll c).supply = s.supply ∧ (s.takeClaim p roll c).card = s.card ∧ (s.takeClaim p roll c).pending
    = s.pending := by
  unfold State.takeClaim
  split <;> [simp; (split <;> simp)]

@[simp] theorem State.takeOffer_keeps (p : Nat) (roll : Bool) (cs : List Claim) (s : State) :
    (s.takeOffer p roll cs).supply = s.supply ∧ (s.takeOffer p roll cs).card = s.card ∧ (s.takeOffer p roll
    cs).pending = s.pending := by
  unfold State.takeOffer
  split
  · exact ⟨State.each_keeps (·.supply) _ _ (by simp) s,
    State.each_keeps (·.card) _ _ (by simp) s,
    State.each_keeps (·.pending) _ _ (by simp) s⟩
  · simp

@[simp] theorem State.takeRoll_keeps (p n : Nat) (s : State) :
    (s.takeRoll p n).supply = s.supply ∧ (s.takeRoll p n).card = s.card ∧ (s.takeRoll p n).pending = s.pending := by
  unfold State.takeRoll
  dsimp only; split <;> simp

@[simp] theorem State.verdictRefuse_keeps (c : Cause) (r : Circuit) (s : State) :
    (s.verdictRefuse c r).supply = s.supply ∧ (s.verdictRefuse c r).card = s.card ∧ (s.verdictRefuse c r).pending =
    s.pending := by
  unfold State.verdictRefuse
  split <;> simp

@[simp] theorem State.verdictAccept_keeps (lane : Nat) (r : Circuit) (s : State) :
    (s.verdictAccept lane r).supply = s.supply ∧ (s.verdictAccept lane r).card = s.card ∧ (s.verdictAccept lane
    r).pending = s.pending := by
  unfold State.verdictAccept
  split <;> [simp; (split <;> simp)]

@[simp] theorem State.verdictWait_keeps (r : Circuit) (s : State) :
    (s.verdictWait r).supply = s.supply ∧ (s.verdictWait r).card = s.card ∧ (s.verdictWait r).pending = s.pending := by
  unfold State.verdictWait
  split <;> simp

@[simp] theorem State.verdictClash_keeps (r : Circuit) (s : State) :
    (s.verdictClash r).supply = s.supply ∧ (s.verdictClash r).card = s.card ∧ (s.verdictClash r).pending = s.pending := by
  unfold State.verdictClash
  split <;> simp

@[simp] theorem State.takeVerdict_keeps (p : Nat) (v : Verdict) (s : State) :
    (s.takeVerdict p v).supply = s.supply ∧ (s.takeVerdict p v).card = s.card ∧ (s.takeVerdict p v).pending =
    s.pending := by
  unfold State.takeVerdict
  split <;> [simp; (split <;> simp)]

@[simp] theorem State.takeRelease_keeps (p tag : Nat) (s : State) :
    (s.takeRelease p tag).supply = s.supply ∧ (s.takeRelease p tag).card = s.card ∧ (s.takeRelease p tag).pending =
    s.pending := by
  unfold State.takeRelease
  split <;> [simp; simp]

@[simp] theorem State.coldRestart_keeps (p : Nat) (s : State) :
    (s.coldRestart p).supply = s.supply ∧ (s.coldRestart p).card = s.card ∧ (s.coldRestart p).pending = s.pending := by
  unfold State.coldRestart
  dsimp only; split <;> split <;> simp

@[simp] theorem State.oweRoll_keeps (p : Nat) (s : State) :
    (s.oweRoll p).store = s.store ∧ (s.oweRoll p).sweep = s.sweep ∧ (s.oweRoll p).line = s.line ∧ (s.oweRoll p).seq
    = s.seq ∧ (s.oweRoll p).hw = s.hw ∧ (s.oweRoll p).supply = s.supply ∧ (s.oweRoll p).ctl = s.ctl ∧ (s.oweRoll
    p).card = s.card ∧ (s.oweRoll p).events = s.events ∧ (s.oweRoll p).notices = s.notices ∧ (s.oweRoll p).lamp =
    s.lamp ∧ (s.oweRoll p).pending = s.pending := by
  unfold State.oweRoll
  split <;> simp

@[simp] theorem State.cutChannel_keeps (p : Nat) (s : State) :
    (s.cutChannel p).store = s.store ∧ (s.cutChannel p).sweep = s.sweep ∧ (s.cutChannel p).line = s.line ∧
    (s.cutChannel p).seq = s.seq ∧ (s.cutChannel p).hw = s.hw ∧ (s.cutChannel p).supply = s.supply ∧ (s.cutChannel
    p).ctl = s.ctl ∧ (s.cutChannel p).card = s.card ∧ (s.cutChannel p).events = s.events ∧ (s.cutChannel p).notices
    = s.notices ∧ (s.cutChannel p).lamp = s.lamp ∧ (s.cutChannel p).pending = s.pending := by
  unfold State.cutChannel
  split <;> simp

@[simp] theorem State.warmRestart_keeps (p : Nat) (st : Announced) (s : State) :
    (s.warmRestart p st).store = s.store ∧ (s.warmRestart p st).sweep = s.sweep ∧ (s.warmRestart p st).line = s.line
    ∧ (s.warmRestart p st).seq = s.seq ∧ (s.warmRestart p st).hw = s.hw ∧ (s.warmRestart p st).supply = s.supply ∧
    (s.warmRestart p st).ctl = s.ctl ∧ (s.warmRestart p st).card = s.card ∧ (s.warmRestart p st).notices = s.notices
    ∧ (s.warmRestart p st).lamp = s.lamp ∧ (s.warmRestart p st).pending = s.pending := by
  unfold State.warmRestart
  split <;> simp

@[simp] theorem State.recognise_keeps (p : Nat) (epoch : Byte) (st : Announced) (s : State) :
    (s.recognise p epoch st).supply = s.supply ∧ (s.recognise p epoch st).card = s.card ∧ (s.recognise p epoch
    st).pending = s.pending := by
  unfold State.recognise
  split <;> simp

@[simp] theorem State.heard_keeps (p : Nat) (epoch : Byte) (st : Announced) (s : State) :
    (s.heard p epoch st).supply = s.supply ∧ (s.heard p epoch st).card = s.card ∧ (s.heard p epoch st).pending =
    s.pending := by
  unfold State.heard
  split <;> [(dsimp only; simp only [State.judgeEnd_keeps]; split <;> split <;> simp); simp]

@[simp] theorem State.goSilent_keeps (p : Nat) (s : State) :
    (s.goSilent p).supply = s.supply ∧ (s.goSilent p).card = s.card ∧ (s.goSilent p).pending = s.pending := by
  unfold State.goSilent
  dsimp only; simp only [State.judgeEnd_keeps]; split <;> split <;> simp

@[simp] theorem State.abortEffects_keeps (req : Request) (s : State) :
    (s.abortEffects req).store = s.store ∧ (s.abortEffects req).sweep = s.sweep ∧ (s.abortEffects req).seq = s.seq ∧
    (s.abortEffects req).hw = s.hw ∧ (s.abortEffects req).supply = s.supply ∧ (s.abortEffects req).ctl = s.ctl ∧
    (s.abortEffects req).card = s.card ∧ (s.abortEffects req).events = s.events ∧ (s.abortEffects req).notices =
    s.notices ∧ (s.abortEffects req).lamp = s.lamp ∧ (s.abortEffects req).pending = s.pending := by
  unfold State.abortEffects
  split <;> [(dsimp only; split <;> split <;> simp); simp; simp; simp; simp; simp]

@[simp] theorem State.jamFrame_keeps (s : State) :
    (s.jamFrame).store = s.store ∧ (s.jamFrame).sweep = s.sweep ∧ (s.jamFrame).seq = s.seq ∧ (s.jamFrame).hw = s.hw
    ∧ (s.jamFrame).supply = s.supply ∧ (s.jamFrame).ctl = s.ctl ∧ (s.jamFrame).card = s.card ∧ (s.jamFrame).events =
    s.events ∧ (s.jamFrame).notices = s.notices ∧ (s.jamFrame).lamp = s.lamp ∧ (s.jamFrame).pending = s.pending := by
  unfold State.jamFrame
  split <;> [simp; simp]

@[simp] theorem State.unprobe_keeps (h : Nat) (s : State) :
    (s.unprobe h).supply = s.supply ∧ (s.unprobe h).card = s.card ∧ (s.unprobe h).notices = s.notices ∧ (s.unprobe
    h).pending = s.pending := by
  unfold State.unprobe
  split <;> [simp; (split <;> simp)]

@[simp] theorem State.writePending_keeps (s : State) :
    (s.writePending).peers = s.peers ∧ (s.writePending).sweep = s.sweep ∧ (s.writePending).line = s.line ∧
    (s.writePending).seq = s.seq ∧ (s.writePending).hw = s.hw ∧ (s.writePending).supply = s.supply ∧
    (s.writePending).ctl = s.ctl ∧ (s.writePending).card = s.card ∧ (s.writePending).events = s.events ∧
    (s.writePending).notices = s.notices ∧ (s.writePending).lamp = s.lamp ∧ (s.writePending).pending = s.pending := by
  unfold State.writePending
  split <;> simp

@[simp] theorem State.resumeTimer_keeps (s : State) :
    (s.resumeTimer).records = s.records ∧ (s.resumeTimer).store = s.store ∧ (s.resumeTimer).peers = s.peers ∧
    (s.resumeTimer).sweep = s.sweep ∧ (s.resumeTimer).line = s.line ∧ (s.resumeTimer).hw = s.hw ∧
    (s.resumeTimer).supply = s.supply ∧ (s.resumeTimer).ctl = s.ctl ∧ (s.resumeTimer).card = s.card ∧
    (s.resumeTimer).events = s.events ∧ (s.resumeTimer).notices = s.notices ∧ (s.resumeTimer).lamp = s.lamp ∧
    (s.resumeTimer).pending = s.pending := by
  unfold State.resumeTimer
  split <;> [(split <;> [simp; (split <;> simp)]); simp]

@[simp] theorem State.letGo_keeps (s : State) :
    (s.letGo).sweep = s.sweep ∧ (s.letGo).supply = s.supply ∧ (s.letGo).ctl = s.ctl ∧ (s.letGo).card = s.card ∧
    (s.letGo).events = s.events ∧ (s.letGo).notices = s.notices ∧ (s.letGo).pending = s.pending := by
  unfold State.letGo
  split
  · simp only [State.attempt_keeps]
    refine ⟨(State.each_keeps (·.sweep) _ _ (by simp) _).trans ?_,
    (State.each_keeps (·.supply) _ _ (by simp) _).trans ?_,
    (State.each_keeps (·.ctl) _ _ (by simp) _).trans ?_,
    (State.each_keeps (·.card) _ _ (by simp) _).trans ?_,
    (State.each_keeps (·.events) _ _ (by simp) _).trans ?_,
    (State.each_keeps (·.notices) _ _ (by simp) _).trans ?_,
    (State.each_keeps (·.pending) _ _ (by simp) _).trans ?_⟩ <;> simp
  · simp

@[simp] theorem State.recover_keeps (to_ : Announced) (s : State) :
    (s.recover to_).supply = s.supply ∧ (s.recover to_).card = s.card ∧ (s.recover to_).notices = s.notices ∧
    (s.recover to_).pending = s.pending := by
  unfold State.recover
  simp

@[simp] theorem State.enterQuiesce_keeps (from_ : Announced) (s : State) :
    (s.enterQuiesce from_).supply = s.supply ∧ (s.enterQuiesce from_).card = s.card ∧ (s.enterQuiesce from_).notices
    = s.notices ∧ (s.enterQuiesce from_).pending = s.pending := by
  unfold State.enterQuiesce
  simp only [State.raise_supply, State.raise_card, State.raise_notices, State.raise_pending]
  refine ⟨(State.each_keeps (·.supply) _ _ (by simp) _).trans ?_,
    (State.each_keeps (·.card) _ _ (by simp) _).trans ?_,
    (State.each_keeps (·.notices) _ _ (by simp) _).trans ?_,
    (State.each_keeps (·.pending) _ _ (by simp) _).trans ?_⟩ <;> simp

@[simp] theorem State.relinkTimer_keeps (s : State) :
    (s.relinkTimer).records = s.records ∧ (s.relinkTimer).store = s.store ∧ (s.relinkTimer).peers = s.peers ∧
    (s.relinkTimer).sweep = s.sweep ∧ (s.relinkTimer).line = s.line ∧ (s.relinkTimer).hw = s.hw ∧
    (s.relinkTimer).supply = s.supply ∧ (s.relinkTimer).ctl = s.ctl ∧ (s.relinkTimer).card = s.card ∧
    (s.relinkTimer).events = s.events ∧ (s.relinkTimer).notices = s.notices ∧ (s.relinkTimer).lamp = s.lamp ∧
    (s.relinkTimer).pending = s.pending := by
  unfold State.relinkTimer
  split <;> simp

@[simp] theorem State.enterRelink_keeps (s : State) :
    (s.enterRelink).records = s.records ∧ (s.enterRelink).store = s.store ∧ (s.enterRelink).hw = s.hw ∧
    (s.enterRelink).supply = s.supply ∧ (s.enterRelink).card = s.card ∧ (s.enterRelink).events = s.events ∧
    (s.enterRelink).notices = s.notices ∧ (s.enterRelink).pending = s.pending := by
  unfold State.enterRelink
  simp

@[simp] theorem State.endWarm_keeps (s : State) :
    (s.endWarm).hw = s.hw ∧ (s.endWarm).supply = s.supply ∧ (s.endWarm).card = s.card ∧ (s.endWarm).notices =
    s.notices ∧ (s.endWarm).pending = s.pending := by
  unfold State.endWarm
  simp

@[simp] theorem State.enterSetup_keeps (s : State) :
    (s.enterSetup).records = s.records ∧ (s.enterSetup).store = s.store ∧ (s.enterSetup).seq = s.seq ∧
    (s.enterSetup).hw = s.hw ∧ (s.enterSetup).supply = s.supply ∧ (s.enterSetup).card = s.card ∧
    (s.enterSetup).notices = s.notices ∧ (s.enterSetup).pending = s.pending := by
  unfold State.enterSetup
  simp

@[simp] theorem State.endCold_keeps (s : State) :
    (s.endCold).seq = s.seq ∧ (s.endCold).hw = s.hw ∧ (s.endCold).supply = s.supply ∧ (s.endCold).card = s.card ∧
    (s.endCold).notices = s.notices ∧ (s.endCold).pending = s.pending := by
  unfold State.endCold
  simp

@[simp] theorem State.takeGo_keeps (s : State) :
    (s.takeGo).records = s.records ∧ (s.takeGo).store = s.store ∧ (s.takeGo).hw = s.hw ∧ (s.takeGo).supply =
    s.supply ∧ (s.takeGo).card = s.card ∧ (s.takeGo).events = s.events ∧ (s.takeGo).notices = s.notices ∧
    (s.takeGo).pending = s.pending := by
  unfold State.takeGo
  simp

@[simp] theorem State.convert_keeps (millivolts : Nat) (s : State) :
    (s.convert millivolts).card = s.card ∧ (s.convert millivolts).notices = s.notices ∧ (s.convert
    millivolts).pending = s.pending := by
  unfold State.convert
  split <;> [simp; (dsimp only; split <;> [(split <;> simp); (split <;> [(split <;> simp); simp])])]

@[simp] theorem State.takeSweep_keeps (s : State) :
    (s.takeSweep).store = s.store ∧ (s.takeSweep).line = s.line ∧ (s.takeSweep).seq = s.seq ∧ (s.takeSweep).hw =
    s.hw ∧ (s.takeSweep).supply = s.supply ∧ (s.takeSweep).card = s.card ∧ (s.takeSweep).events = s.events ∧
    (s.takeSweep).notices = s.notices ∧ (s.takeSweep).lamp = s.lamp ∧ (s.takeSweep).pending = s.pending := by
  unfold State.takeSweep
  split <;> simp

@[simp] theorem State.takeSilence_keeps (p : Nat) (s : State) :
    (s.takeSilence p).supply = s.supply ∧ (s.takeSilence p).card = s.card ∧ (s.takeSilence p).pending = s.pending := by
  unfold State.takeSilence
  split <;> simp

@[simp] theorem State.takeBeacon_keeps (s : State) :
    (s.takeBeacon).records = s.records ∧ (s.takeBeacon).store = s.store ∧ (s.takeBeacon).seq = s.seq ∧
    (s.takeBeacon).hw = s.hw ∧ (s.takeBeacon).supply = s.supply ∧ (s.takeBeacon).ctl = s.ctl ∧ (s.takeBeacon).card =
    s.card ∧ (s.takeBeacon).events = s.events ∧ (s.takeBeacon).notices = s.notices ∧ (s.takeBeacon).lamp = s.lamp ∧
    (s.takeBeacon).pending = s.pending := by
  unfold State.takeBeacon
  split <;> simp

@[simp] theorem State.takeResend_keeps (h : Nat) (s : State) :
    (s.takeResend h).supply = s.supply ∧ (s.takeResend h).card = s.card ∧ (s.takeResend h).pending = s.pending := by
  unfold State.takeResend
  split <;> [simp; (split <;> [(split <;> simp); simp])]

@[simp] theorem State.takeAbandon_keeps (p : Nat) (s : State) :
    (s.takeAbandon p).store = s.store ∧ (s.takeAbandon p).sweep = s.sweep ∧ (s.takeAbandon p).line = s.line ∧
    (s.takeAbandon p).seq = s.seq ∧ (s.takeAbandon p).hw = s.hw ∧ (s.takeAbandon p).supply = s.supply ∧
    (s.takeAbandon p).ctl = s.ctl ∧ (s.takeAbandon p).card = s.card ∧ (s.takeAbandon p).notices = s.notices ∧
    (s.takeAbandon p).lamp = s.lamp ∧ (s.takeAbandon p).pending = s.pending := by
  unfold State.takeAbandon
  split <;> simp

@[simp] theorem State.takeListenEnd_keeps (s : State) :
    (s.takeListenEnd).supply = s.supply ∧ (s.takeListenEnd).card = s.card ∧ (s.takeListenEnd).pending = s.pending := by
  unfold State.takeListenEnd
  split <;> simp

@[simp] theorem State.takeCompletion_keeps (s : State) :
    (s.takeCompletion).supply = s.supply ∧ (s.takeCompletion).card = s.card ∧ (s.takeCompletion).pending = s.pending := by
  unfold State.takeCompletion
  split <;> [(split <;> simp); simp]

@[simp] theorem State.takeEcho_keeps (s : State) :
    (s.takeEcho).supply = s.supply ∧ (s.takeEcho).card = s.card ∧ (s.takeEcho).pending = s.pending := by
  unfold State.takeEcho
  split <;> [(split <;> simp); simp]

@[simp] theorem State.takeWarm_keeps (s : State) :
    (s.takeWarm).hw = s.hw ∧ (s.takeWarm).supply = s.supply ∧ (s.takeWarm).card = s.card ∧ (s.takeWarm).notices =
    s.notices ∧ (s.takeWarm).pending = s.pending := by
  unfold State.takeWarm
  split <;> simp

@[simp] theorem State.takeCold_keeps (s : State) :
    (s.takeCold).seq = s.seq ∧ (s.takeCold).hw = s.hw ∧ (s.takeCold).supply = s.supply ∧ (s.takeCold).card = s.card
    ∧ (s.takeCold).notices = s.notices ∧ (s.takeCold).pending = s.pending := by
  unfold State.takeCold
  split <;> simp

@[simp] theorem State.settleAll_keeps (s : State) :
    (s.settleAll).supply = s.supply ∧ (s.settleAll).card = s.card ∧ (s.settleAll).pending = s.pending := by
  unfold State.settleAll
  dsimp only
  refine ⟨((State.each_keeps (·.supply) _ _ (by simp) _).trans (State.each_keeps (·.supply) _ _ (by simp) _)).trans ?_,
    ((State.each_keeps (·.card) _ _ (by simp) _).trans (State.each_keeps (·.card) _ _ (by simp) _)).trans ?_,
    ((State.each_keeps (·.pending) _ _ (by simp) _).trans (State.each_keeps (·.pending) _ _ (by simp) _)).trans ?_⟩ <;>
    simp only [State.takeListenEnd_keeps]
  · refine ((State.each_keeps (·.supply) _ _ (by simp) _).trans (State.each_keeps (·.supply) _ _ (by simp) _)).trans ?_
    simp only [State.takeBeacon_keeps]
    refine (State.each_keeps (·.supply) _ _ (by simp) _).trans ?_
    split <;> [(split <;> simp); rfl]
  · refine ((State.each_keeps (·.card) _ _ (by simp) _).trans (State.each_keeps (·.card) _ _ (by simp) _)).trans ?_
    simp only [State.takeBeacon_keeps]
    refine (State.each_keeps (·.card) _ _ (by simp) _).trans ?_
    split <;> [(split <;> simp); rfl]
  · refine ((State.each_keeps (·.pending) _ _ (by simp) _).trans (State.each_keeps (·.pending) _ _ (by simp) _)).trans ?_
    simp only [State.takeBeacon_keeps]
    refine (State.each_keeps (·.pending) _ _ (by simp) _).trans ?_
    split <;> [(split <;> simp); rfl]

@[simp] theorem State.settle_keeps (s : State) :
    (s.settle).supply = s.supply ∧ (s.settle).card = s.card ∧ (s.settle).pending = s.pending := by
  unfold State.settle
  split <;> simp

@[simp] theorem State.resendTag_keeps (tag : Nat) (s : State) :
    (s.resendTag tag).supply = s.supply ∧ (s.resendTag tag).card = s.card ∧ (s.resendTag tag).pending = s.pending := by
  unfold State.resendTag
  split <;> [simp; simp]

@[simp] theorem State.expirePace_keeps (s : State) :
    (s.expirePace).supply = s.supply ∧ (s.expirePace).card = s.card ∧ (s.expirePace).notices = s.notices ∧
    (s.expirePace).pending = s.pending := by
  unfold State.expirePace
  split <;> [(dsimp only; simp only [State.settleChange_keeps]; split <;> simp); simp]

@[simp] theorem State.passedOver_keeps (req : Request) (s : State) :
    (s.passedOver req).records = s.records ∧ (s.passedOver req).store = s.store ∧ (s.passedOver req).seq = s.seq ∧
    (s.passedOver req).hw = s.hw ∧ (s.passedOver req).supply = s.supply ∧ (s.passedOver req).card = s.card ∧
    (s.passedOver req).notices = s.notices ∧ (s.passedOver req).pending = s.pending := by
  unfold State.passedOver
  cases req <;> dsimp only <;> [simp; simp; (split <;> simp); simp; simp; simp]

@[simp] theorem State.launch_keeps (req : Request) (kind : Byte) (dst : Nat) (payload : List Byte) (carried : List Nat) (items : Nat) (s : State) :
    (s.launch req kind dst payload carried items).records = s.records ∧ (s.launch req kind dst payload carried
    items).store = s.store ∧ (s.launch req kind dst payload carried items).peers = s.peers ∧ (s.launch req kind dst
    payload carried items).sweep = s.sweep ∧ (s.launch req kind dst payload carried items).seq = s.seq ∧ (s.launch
    req kind dst payload carried items).hw = s.hw ∧ (s.launch req kind dst payload carried items).supply = s.supply
    ∧ (s.launch req kind dst payload carried items).ctl = s.ctl ∧ (s.launch req kind dst payload carried items).card
    = s.card ∧ (s.launch req kind dst payload carried items).events = s.events ∧ (s.launch req kind dst payload
    carried items).notices = s.notices ∧ (s.launch req kind dst payload carried items).lamp = s.lamp ∧ (s.launch req
    kind dst payload carried items).pending = s.pending := by
  unfold State.launch
  simp

@[simp] theorem State.build_keeps (req : Request) (s : State) :
    (s.build req).store = s.store ∧ (s.build req).sweep = s.sweep ∧ (s.build req).seq = s.seq ∧ (s.build req).hw =
    s.hw ∧ (s.build req).supply = s.supply ∧ (s.build req).ctl = s.ctl ∧ (s.build req).card = s.card ∧ (s.build
    req).events = s.events ∧ (s.build req).notices = s.notices ∧ (s.build req).lamp = s.lamp ∧ (s.build req).pending
    = s.pending := by
  unfold State.build
  cases req <;> simp

@[simp] theorem State.convertWant_keeps (req : Request) (s : State) :
    (s.convertWant req).records = s.records ∧ (s.convertWant req).store = s.store ∧ (s.convertWant req).sweep =
    s.sweep ∧ (s.convertWant req).seq = s.seq ∧ (s.convertWant req).hw = s.hw ∧ (s.convertWant req).supply =
    s.supply ∧ (s.convertWant req).ctl = s.ctl ∧ (s.convertWant req).card = s.card ∧ (s.convertWant req).events =
    s.events ∧ (s.convertWant req).notices = s.notices ∧ (s.convertWant req).lamp = s.lamp ∧ (s.convertWant
    req).pending = s.pending := by
  unfold State.convertWant
  split <;> simp

@[simp] theorem State.convertWants_keeps (s : State) :
    (s.convertWants).records = s.records ∧ (s.convertWants).store = s.store ∧ (s.convertWants).sweep = s.sweep ∧
    (s.convertWants).seq = s.seq ∧ (s.convertWants).hw = s.hw ∧ (s.convertWants).supply = s.supply ∧
    (s.convertWants).ctl = s.ctl ∧ (s.convertWants).card = s.card ∧ (s.convertWants).events = s.events ∧
    (s.convertWants).notices = s.notices ∧ (s.convertWants).lamp = s.lamp ∧ (s.convertWants).pending = s.pending := by
  unfold State.convertWants
  exact ⟨State.each_keeps (·.records) _ _ (by simp) s,
    State.each_keeps (·.store) _ _ (by simp) s,
    State.each_keeps (·.sweep) _ _ (by simp) s,
    State.each_keeps (·.seq) _ _ (by simp) s,
    State.each_keeps (·.hw) _ _ (by simp) s,
    State.each_keeps (·.supply) _ _ (by simp) s,
    State.each_keeps (·.ctl) _ _ (by simp) s,
    State.each_keeps (·.card) _ _ (by simp) s,
    State.each_keeps (·.events) _ _ (by simp) s,
    State.each_keeps (·.notices) _ _ (by simp) s,
    State.each_keeps (·.lamp) _ _ (by simp) s,
    State.each_keeps (·.pending) _ _ (by simp) s⟩

@[simp] theorem State.takeTurns_keeps (n : Nat) (s : State) :
    (s.takeTurns n).store = s.store ∧ (s.takeTurns n).seq = s.seq ∧ (s.takeTurns n).hw = s.hw ∧ (s.takeTurns
    n).supply = s.supply ∧ (s.takeTurns n).card = s.card ∧ (s.takeTurns n).notices = s.notices ∧ (s.takeTurns
    n).pending = s.pending := by
  induction n generalizing s with
  | zero => simp [State.takeTurns]
  | succ n ih =>
    unfold State.takeTurns
    split
    · simp
    · split
      · simp [ih]
      · simp

@[simp] theorem State.takePosition_keeps (pos : Nat) (s : State) :
    (s.takePosition pos).store = s.store ∧ (s.takePosition pos).seq = s.seq ∧ (s.takePosition pos).hw = s.hw ∧
    (s.takePosition pos).supply = s.supply ∧ (s.takePosition pos).card = s.card ∧ (s.takePosition pos).notices =
    s.notices ∧ (s.takePosition pos).pending = s.pending := by
  unfold State.takePosition
  split <;> simp

@[simp] theorem State.claimsSent_keeps (roll : Bool) (places : List Nat) (s : State) :
    (s.claimsSent roll places).supply = s.supply ∧ (s.claimsSent roll places).card = s.card ∧ (s.claimsSent roll
    places).notices = s.notices ∧ (s.claimsSent roll places).pending = s.pending := by
  unfold State.claimsSent
  split
  · exact ⟨State.each_keeps (·.supply) _ _ (by simp) s,
    State.each_keeps (·.card) _ _ (by simp) s,
    State.each_keeps (·.notices) _ _ (by simp) s,
    State.each_keeps (·.pending) _ _ (by simp) s⟩
  · simp

@[simp] theorem State.sentEffects_keeps (f : InFlight) (s : State) :
    (s.sentEffects f).supply = s.supply ∧ (s.sentEffects f).card = s.card ∧ (s.sentEffects f).notices = s.notices ∧
    (s.sentEffects f).pending = s.pending := by
  unfold State.sentEffects
  cases f.req <;> dsimp only
  · simp
  · split <;> [(split <;> simp); simp; simp]
  · split <;> [(split <;> simp); simp]
  · simp
  · split <;> simp
  · split <;> simp

@[simp] theorem State.sentWhole_keeps (f : InFlight) (s : State) :
    (s.sentWhole f).supply = s.supply ∧ (s.sentWhole f).card = s.card ∧ (s.sentWhole f).notices = s.notices ∧
    (s.sentWhole f).pending = s.pending := by
  unfold State.sentWhole
  dsimp only; simp only [State.passAll_keeps, State.convertWants_keeps, State.sentEffects_keeps]; split <;> simp

@[simp] theorem State.takeSentWhole_keeps (s : State) :
    (s.takeSentWhole).supply = s.supply ∧ (s.takeSentWhole).card = s.card ∧ (s.takeSentWhole).notices = s.notices ∧
    (s.takeSentWhole).pending = s.pending := by
  unfold State.takeSentWhole
  split <;> [simp; simp]

@[simp] theorem State.takeCollision_keeps (s : State) :
    (s.takeCollision).store = s.store ∧ (s.takeCollision).sweep = s.sweep ∧ (s.takeCollision).seq = s.seq ∧
    (s.takeCollision).hw = s.hw ∧ (s.takeCollision).supply = s.supply ∧ (s.takeCollision).ctl = s.ctl ∧
    (s.takeCollision).card = s.card ∧ (s.takeCollision).notices = s.notices ∧ (s.takeCollision).pending = s.pending := by
  unfold State.takeCollision
  split <;> [(dsimp only; simp); simp]

@[simp] theorem State.handOn_keeps (kind : Byte) (f : LineFrame) (s : State) :
    (s.handOn kind f).supply = s.supply ∧ (s.handOn kind f).card = s.card ∧ (s.handOn kind f).pending = s.pending := by
  unfold State.handOn
  have each : ∀ {α : Type} (xs : List α) (g : α → State → State) (s : State),
      (∀ x s, (g x s).supply = s.supply ∧ (g x s).card = s.card ∧ (g x s).pending = s.pending) →
      (s.each xs g).supply = s.supply ∧ (s.each xs g).card = s.card ∧ (s.each xs g).pending = s.pending :=
    fun xs g s h => ⟨State.each_keeps (·.supply) xs g (fun x s => (h x s).1) s, State.each_keeps (·.card) xs g (fun x s => (h x s).2.1) s, State.each_keeps (·.pending) xs g (fun x s => (h x s).2.2) s⟩
  have act : ∀ {α : Type} (src : Nat) (read : Option α) (g : α → State → State) (s : State),
      (∀ x s, (g x s).supply = s.supply ∧ (g x s).card = s.card ∧ (g x s).pending = s.pending) →
      (s.actOn src read g).supply = s.supply ∧ (s.actOn src read g).card = s.card ∧ (s.actOn src read g).pending = s.pending := by
    intro α src read g s h
    unfold State.actOn
    split <;> [simp; (split <;> simp [h])]
  repeat' split
  all_goals first
    | exact act _ _ _ s (fun x s => by simp)
    | exact act _ _ _ s (fun x s => each _ _ s (fun x s => by simp))
    | simp

@[simp] theorem State.receive_keeps (kind : Byte) (f : LineFrame) (s : State) :
    (s.receive kind f).supply = s.supply ∧ (s.receive kind f).card = s.card ∧ (s.receive kind f).pending = s.pending := by
  unfold State.receive
  split <;> simp

@[simp] theorem State.enterStarting_keeps (cut : EditCut) (s : State) :
    (s.enterStarting cut).pending = s.pending := by
  unfold State.enterStarting
  simp

@[simp] theorem State.readStraps_keeps (a b : Nat) (s : State) :
    (s.readStraps a b).records = s.records ∧ (s.readStraps a b).store = s.store ∧ (s.readStraps a b).peers = s.peers
    ∧ (s.readStraps a b).sweep = s.sweep ∧ (s.readStraps a b).seq = s.seq ∧ (s.readStraps a b).hw = s.hw ∧
    (s.readStraps a b).supply = s.supply ∧ (s.readStraps a b).card = s.card ∧ (s.readStraps a b).events = s.events ∧
    (s.readStraps a b).notices = s.notices ∧ (s.readStraps a b).pending = s.pending := by
  unfold State.readStraps
  split <;> [(dsimp only; split <;> simp); simp]

@[simp] theorem State.takeProvision_keeps (f : ProvisionFields) (h : Nat) (s : State) :
    (s.takeProvision f h).supply = s.supply ∧ (s.takeProvision f h).card = s.card ∧ (s.takeProvision f h).pending =
    s.pending := by
  unfold State.takeProvision
  dsimp only; split <;> simp

@[simp] theorem State.takeDrop_keeps (r : Circuit) (s : State) :
    (s.takeDrop r).supply = s.supply ∧ (s.takeDrop r).card = s.card ∧ (s.takeDrop r).notices = s.notices ∧
    (s.takeDrop r).pending = s.pending := by
  unfold State.takeDrop
  dsimp only; simp only [State.settleChange_keeps, State.restartRoll_keeps]; split <;> simp

@[simp] theorem State.takeRearm_keeps (r : Circuit) (s : State) :
    (s.takeRearm r).supply = s.supply ∧ (s.takeRearm r).card = s.card ∧ (s.takeRearm r).notices = s.notices ∧
    (s.takeRearm r).pending = s.pending := by
  unfold State.takeRearm
  dsimp only; split <;> simp

@[simp] theorem State.takeSetPace_keeps (reload : Nat) (mode : PaceMode) (s : State) :
    (s.takeSetPace reload mode).records = s.records ∧ (s.takeSetPace reload mode).peers = s.peers ∧ (s.takeSetPace
    reload mode).sweep = s.sweep ∧ (s.takeSetPace reload mode).line = s.line ∧ (s.takeSetPace reload mode).hw = s.hw
    ∧ (s.takeSetPace reload mode).supply = s.supply ∧ (s.takeSetPace reload mode).ctl = s.ctl ∧ (s.takeSetPace
    reload mode).card = s.card ∧ (s.takeSetPace reload mode).events = s.events ∧ (s.takeSetPace reload mode).notices
    = s.notices ∧ (s.takeSetPace reload mode).lamp = s.lamp ∧ (s.takeSetPace reload mode).pending = s.pending := by
  unfold State.takeSetPace
  dsimp only; split <;> simp

@[simp] theorem State.takePurge_keeps (s : State) :
    (s.takePurge).card = s.card ∧ (s.takePurge).pending = s.pending := by
  unfold State.takePurge
  simp

@[simp] theorem State.takeUnmute_keeps (s : State) :
    (s.takeUnmute).records = s.records ∧ (s.takeUnmute).store = s.store ∧ (s.takeUnmute).peers = s.peers ∧
    (s.takeUnmute).sweep = s.sweep ∧ (s.takeUnmute).seq = s.seq ∧ (s.takeUnmute).hw = s.hw ∧ (s.takeUnmute).supply =
    s.supply ∧ (s.takeUnmute).ctl = s.ctl ∧ (s.takeUnmute).card = s.card ∧ (s.takeUnmute).events = s.events ∧
    (s.takeUnmute).notices = s.notices ∧ (s.takeUnmute).pending = s.pending := by
  unfold State.takeUnmute
  simp

@[simp] theorem State.assertSelect_keeps (s : State) :
    (s.assertSelect).records = s.records ∧ (s.assertSelect).store = s.store ∧ (s.assertSelect).peers = s.peers ∧
    (s.assertSelect).sweep = s.sweep ∧ (s.assertSelect).line = s.line ∧ (s.assertSelect).seq = s.seq ∧
    (s.assertSelect).hw = s.hw ∧ (s.assertSelect).supply = s.supply ∧ (s.assertSelect).ctl = s.ctl ∧
    (s.assertSelect).events = s.events ∧ (s.assertSelect).notices = s.notices ∧ (s.assertSelect).lamp = s.lamp ∧
    (s.assertSelect).pending = s.pending := by
  unfold State.assertSelect
  split <;> simp

@[simp] theorem State.tickLamp_keeps (s : State) :
    (s.tickLamp).records = s.records ∧ (s.tickLamp).store = s.store ∧ (s.tickLamp).peers = s.peers ∧
    (s.tickLamp).sweep = s.sweep ∧ (s.tickLamp).line = s.line ∧ (s.tickLamp).seq = s.seq ∧ (s.tickLamp).hw = s.hw ∧
    (s.tickLamp).supply = s.supply ∧ (s.tickLamp).ctl = s.ctl ∧ (s.tickLamp).card = s.card ∧ (s.tickLamp).events =
    s.events ∧ (s.tickLamp).notices = s.notices ∧ (s.tickLamp).pending = s.pending := by
  unfold State.tickLamp
  split <;> [simp; (split <;> simp)]

@[simp] theorem State.tickPace_keeps (s : State) :
    (s.tickPace).supply = s.supply ∧ (s.tickPace).card = s.card ∧ (s.tickPace).notices = s.notices ∧
    (s.tickPace).pending = s.pending := by
  unfold State.tickPace
  split <;> [simp; (split <;> simp)]

@[simp] theorem State.tickSweep_keeps (s : State) :
    (s.tickSweep).store = s.store ∧ (s.tickSweep).line = s.line ∧ (s.tickSweep).seq = s.seq ∧ (s.tickSweep).hw =
    s.hw ∧ (s.tickSweep).supply = s.supply ∧ (s.tickSweep).card = s.card ∧ (s.tickSweep).events = s.events ∧
    (s.tickSweep).notices = s.notices ∧ (s.tickSweep).lamp = s.lamp ∧ (s.tickSweep).pending = s.pending := by
  unfold State.tickSweep
  split <;> [simp; (split <;> simp)]

end Sys2Proof.Machine
end

