-- ==== Sys2Proof/Laws/Ops.lean ====
section
/-! SUPPORT. Laws/Ops.lean: for each shared operation one lemma that says what it can do, cited in place of its
definition. -/

namespace Sys2Proof.Machine

/-! ### Settling -/

/-- Where no due step waits, settling changes nothing. -/
theorem State.settle_of_calm {s : State} (h : s.calm) : s.settle = s := by simp [State.settle, h]

/-- Where a due step waits, settling takes every due step. -/
theorem State.settle_of_due {s : State} (h : s.anyDue = true) : s.settle = s.settleAll := by simp [State.settle, h]

/-! ### Minding -/

/-- Whether the station minds its records, in the words of the statements. -/
theorem State.minding_iff (s : State) : s.minding = true ↔ s.Minds := by
  cases h : s.ctl.ret <;> simp [State.minding, State.Minds, h, Bool.or_eq_true, bne_iff_ne, Decidable.imp_iff_not_or]

/-! ### Transfers -/

/-- A transfer where the port takes part: its record is judged on the state as it stands. -/
theorem State.transfer_of_ready {s : State} (c : CardCommand) (k : Nat) (h : s.portReady) :
    s.settle.transfer c k = (s.endTransfer (c.record.length + k)).takeCommand c := by
  obtain ⟨h1, h2, h3⟩ := h
  simp [State.settle_of_calm h1, State.transfer, State.portDead, h2, h3]

/-- A transfer where the port takes no part ends without effect. -/
theorem State.transfer_of_dead {s : State} (c : CardCommand) (k : Nat) (h1 : s.calm)
    (h2 : s.ctl.resetHeld = true ∨ s.card.discarded = true) : s.settle.transfer c k = s.endDead := by
  have : s.portDead = true := by rcases h2 with h | h <;> simp [State.portDead, h]
  simp [State.settle_of_calm h1, State.transfer, this]

/-- What taking a command record can do: refuse it, take it, or, for a NOP, neither. -/
theorem State.takeCommand_cases (c : CardCommand) (s : State) :
    (∃ r p, c.judge s = .refuse r p ∧ s.takeCommand c = s.respond c.code r p) ∨
      (∃ t p, c.judge s = .take t p ∧ s.takeCommand c = t.respond c.code .ok p) ∨
      (c.judge s = .silent ∧ s.takeCommand c = s) := by
  unfold State.takeCommand
  cases h : c.judge s with
  | refuse r p => exact .inl ⟨r, p, rfl, rfl⟩
  | take t p => exact .inr (.inl ⟨t, p, rfl, rfl⟩)
  | silent => exact .inr (.inr ⟨rfl, rfl⟩)

/-- A command that is taken has no effect on the card port beside its response, and none on the waiting commands. -/
theorem CardCommand.judge_take {c : CardCommand} {s t : State} {p : List Byte} (h : c.judge s = .take t p) :
    t.card = s.card ∧ t.pending = s.pending := by
  unfold CardCommand.judge at h
  split at h
  · cases h
  · cases c <;> simp only [CardCommand.run, State.doConfigure, State.doGo, State.doProvision, State.doDrop,
      State.doRearm, State.doQuery, State.doReadEntry, State.doReadPeer, State.doReadNotices, State.doReadEvents,
      State.doSetEnables, State.doSetPace, State.doStep, State.doPurge, State.doUnmute] at h <;>
      (repeat' split at h) <;> cases h <;> simp

/-- The response that ends a transfer, in one piece. -/
theorem State.respond_endTransfer (n : Nat) (code : Byte) (r : ResultCode) (p : List Byte) (s : State) :
    (s.endTransfer n).respond code r p = s.answered n code r p := rfl

/-! ### The Outbound Queue -/

/-- What a posting can do: be absorbed, be appended, or leave a want mark (R128, R129). -/
theorem State.request_cases (req : Request) (s : State) :
    (req ∈ s.line.queue ∧ s.request req = s) ∨
      (req ∉ s.line.queue ∧ s.line.queue.length < 24 ∧ s.request req = s.setQueue (s.line.queue ++ [req])) ∨
      (req ∉ s.line.queue ∧ 24 ≤ s.line.queue.length ∧ s.request req = s.setWant req true) := by
  unfold State.request queueCapacity
  by_cases h : req ∈ s.line.queue
  · simp [h]
  · by_cases h2 : s.line.queue.length < 24
    · simp [h, h2]
    · simp [h, h2, Nat.not_lt.mp h2]

@[simp] theorem State.setQueue_queue (q : List Request) (s : State) : (s.setQueue q).line.queue = q := rfl

@[simp] theorem State.setWant_queue (req : Request) (b : Bool) (s : State) :
    (s.setWant req b).line.queue = s.line.queue := by cases req <;> rfl

/-- A posting never takes a request off the queue. -/
theorem State.mem_request {r : Request} (req : Request) {s : State} (h : r ∈ s.line.queue) :
    r ∈ (s.request req).line.queue := by
  rcases s.request_cases req with ⟨_, e⟩ | ⟨_, _, e⟩ | ⟨_, _, e⟩ <;> rw [e] <;> simp [h]

/-! ### Notices -/

/-- What a posting of a notice can do: append it, or raise NOTICE_OVERFLOW (R184). -/
theorem State.post_cases (k : NoticeKind) (r : Circuit) (s : State) :
    (s.notices.length < 32 ∧ s.post k r = { s with notices := s.notices ++ [⟨r.tag, k, r.cls⟩] }) ∨
      (32 ≤ s.notices.length ∧ s.post k r = s.raise .noticeOverflow) := by
  unfold State.post noticeCapacity
  by_cases h : s.notices.length < 32
  · simp [h]
  · simp [h, Nat.not_lt.mp h]

/-! ### The Retention Store -/

/-- The content sum does not read the check word. -/
theorem State.contentSum_closeEdit (s : State) : s.closeEdit.contentSum = s.contentSum := rfl

theorem State.contentSum_cutEdit (s : State) : s.cutEdit.contentSum = s.contentSum := rfl

/-- Closing a table edit brings the sum to zero over the new content (R13). -/
@[simp] theorem State.closeEdit_sumZero (s : State) : s.closeEdit.sumZero = true := by
  unfold State.sumZero
  rw [State.contentSum_closeEdit]
  simp only [State.closeEdit]
  simp

/-- An edit cut short leaves the sum non-zero (R13, R14). -/
@[simp] theorem State.cutEdit_sumZero (s : State) : s.cutEdit.sumZero = false := by
  unfold State.sumZero
  rw [State.contentSum_cutEdit]
  simp only [State.cutEdit]
  generalize s.contentSum = x
  have : x + (1 - x) = 1#16 := by bv_omega
  rw [this]; decide

/-! ### Peer records -/

/-- A peer record that is written is read back; the others stay. -/
theorem State.peer_setPeer (p q : Nat) (x : Peer) (s : State) :
    (s.setPeer p x).peer q = if q = p ∧ p < s.peers.length then x else s.peer q := by
  simp only [State.peer, State.setPeer, List.getD_eq_getElem?_getD, List.getElem?_set]
  by_cases h : p = q
  · subst h
    by_cases h2 : p < s.peers.length
    · simp [h2]
    · simp [h2]
  · simp [h, Ne.symm h]

theorem State.peer_updPeer (p q : Nat) (f : Peer → Peer) (s : State) :
    (s.updPeer p f).peer q = if q = p ∧ p < s.peers.length then f (s.peer p) else s.peer q :=
  State.peer_setPeer p q (f (s.peer p)) s

/-- Beyond the table a peer record reads as its start values. -/
theorem State.peer_of_length_le {s : State} {p : Nat} (h : s.peers.length ≤ p) : s.peer p = Peer.start := by
  simp [State.peer, List.getD_eq_getElem?_getD, h]

/-! ### The lamp -/

/-- Judging the lamp leaves it in a mode that is the highest whose condition holds (R186). -/
theorem State.judgeLamp_cases (s : State) :
    s.judgeLamp = s ∨ s.judgeLamp = { s with lamp := { mode := s.lampTarget, position := 0 } } := by
  unfold State.judgeLamp
  split <;> simp

/-! ### Records -/

@[simp] theorem State.mapRec_records (h : Nat) (f : Circuit → Circuit) (s : State) :
    (s.mapRec h f).records = s.records.map (fun r => if r.place = h then f r else r) := rfl

/-- A change of relink state touches no retained field but the clash mark, and no place (R20). -/
theorem Circuit.enter_fixed (new : Relink) (due : Bool) (sends : Nat) (r : Circuit) :
    (r.enter new due sends).toFixed = r.toFixed ∧ (r.enter new due sends).place = r.place ∧
      (r.enter new due sends).state = new := ⟨rfl, rfl, rfl⟩

end Sys2Proof.Machine
end

