-- ==== Sys2Proof/Tests/Slice0.lean ====
section
/-! SUPPORT. Tests/Slice0.lean: the smoke test of WellFormed, small tests whose expected results are the book's worked
examples and tables, and the witnesses of the obligations: for each, a concrete state and operands that meet its hypotheses,
clause by clause. -/

namespace Sys2Proof.Tests

open Machine

set_option Elab.async false

/-! ### States to test on -/

/-- A circuit record of the worked shelf of 11.3. -/
def circuit (place tag port far farPort primary : Nat) (standby : Option Nat) (cls weight : Nat) (st : Relink) : Circuit :=
  { tag := tag, localPort := port, farSlot := far, farPort := farPort, primary := primary, standby := standby, cls := cls,
    weight := weight, place := place, clashMark := false, clashPending := false, state := st, inUse := .primary,
    sendCount := 0, sweepsSinceSend := 0, resendDue := false, claimDue := false, rollMark := false, scopeMark := false }

def recA (st : Relink) : Circuit := circuit 0 0x0101 4 3 7 40 none 0 2 st
def recB (st : Relink) : Circuit := circuit 1 0x0102 5 3 8 41 none 3 5 st
def recC (st : Relink) : Circuit := circuit 2 0x0201 9 6 2 300 (some 301) 1 3 st

/-- The records of slot 1 in 11.3. -/
def shelf (a b c : Relink) : List Circuit := [recA a, recB b, recC c]

/-- A peer heard in SERVICE at an epoch. -/
def near (epoch : Byte) : Peer := { Peer.start with presence := .present, epoch := some epoch, st := some .service }

/-- Slot 1 of the eight-slot shelf of 11.3 in a station state, with some records; slots 3 and 6 are in SERVICE. -/
def card (st : StationState) (rs : List Circuit) : State :=
  { State.reset with
    records := rs
    store := { State.reset.store with keptSlot := 1, keptSize := 8, epoch := 4, keepAlive := true }
    peers := ((List.replicate 24 Peer.start).set 3 (near 9)).set 6 (near 2)
    sweep := { remaining := some 16, beaconCount := 0 }
    line := LineCtl.start 1
    supply := { sample := 189, warnRun := 0, recoverRun := 4 }
    ctl := { st := st, ret := none, listenCount := 8, listenOver := true, slot := 1, size := 8, resetHeld := false,
             firstValid := true }
    lamp := { mode := .off, position := 0 } }

/-- The same with every record OPEN. -/
def up : State := card .service (shelf (.opened 0) (.opened 0) (.opened 0))

/-- The card with another station state. -/
def inState (st : StationState) (s : State) : State := { s with ctl := { s.ctl with st := st } }

/-- QUIESCE with a return state. -/
def quiesced (ret : Announced) (s : State) : State := { s with ctl := { s.ctl with st := .quiesce, ret := some ret } }

def withRecords (rs : List Circuit) (s : State) : State := { s with records := rs }

def withProbes (ps : List Probe) (s : State) : State := { s with hw := { s.hw with probes := ps } }

def withQueue (q : List Request) (s : State) : State := { s with line := { s.line with queue := q } }

def withPeer (p : Nat) (f : Peer → Peer) (s : State) : State := s.updPeer p f

def withTimer (t : PaceTimer) (m : PaceMode) (s : State) : State := { s with seq := { s.seq with timer := t, mode := m } }

def flying (req : Request) (carried : List Nat) (items : Nat) (s : State) : State :=
  let f : InFlight := { req := req, queued := true, carried := carried, items := items, bytes := [] }
  { s with line := { s.line with out := .sending f } }

/-- The outcome of a row, where it is a next state. -/
def after (c : Instr) (s : State) : State :=
  match exec c s with
  | .next t => t
  | .fault _ => s
  | .refused _ => s

/-- What the port answers: result and payload of the pending response. -/
def answer (c : Instr) (s : State) : ResultCode × List Byte :=
  ((after c s).card.response.result, (after c s).card.response.payload)

/-- The agreement of the probe slots, read off record by record. -/
abbrev probesAgree (s : State) : Prop :=
  (s.hw.probes.map (·.slot)).Nodup ∧ (s.hw.probes.map (·.place)).Nodup ∧ (∀ p ∈ s.hw.probes, p.slot < 4) ∧
    (∀ p ∈ s.hw.probes, ∃ r ∈ s.records, r.place = p.place ∧ r.state = .probing p.slot) ∧
    (∀ r ∈ s.records, r.state.isProbing = true → ∃ p ∈ s.hw.probes, p.place = r.place ∧ r.state = .probing p.slot)

theorem probesOk_of_agree {s : State} (h : probesAgree s) : s.probesOk := by
  refine ⟨h.1, h.2.1, h.2.2.1, h.2.2.2.1, fun r hr k hk => ?_⟩
  obtain ⟨p, hp, place, state⟩ := h.2.2.2.2 r hr (hk ▸ rfl)
  exact ⟨p, hp, place, (Relink.probing.inj (hk.symm.trans state)).symm⟩

/-- The limits and agreements of a safe state, each of which can be read off. -/
abbrev agrees (s : State) : Prop :=
  (s.tableOk ∧ s.queueOk ∧ s.line.countsOk ∧ s.peersOk) ∧ (s.noticesOk ∧ s.supplyOk ∧ s.paceOk) ∧ probesAgree s

/-- A state whose limits and agreements can be read off is safe. -/
theorem safe_of_agree {s : State} (h : agrees s) : s.Safe := by
  obtain ⟨⟨table, queue, counts, peers⟩, ⟨notices, supply, pace⟩, probes⟩ := h
  exact { table, queue, counts, peers, notices, supply, pace, probes := probesOk_of_agree probes }

/-! ### Well-formed commands: for each check a term that it refuses -/

def sampleFields : ProvisionFields :=
  { tag := 0x0301, localPort := 1, farSlot := 6, farPort := 3, primary := 77, standbyInd := 0, standbyLane := 0, cls := 2,
    weight := 4 }

def sampleFrame (payload : List Byte) : LineFrame := { src := 3, dst := 1, epoch := 9, st := .service, payload := payload }

theorem test_wf_configure_refuses : (Instr.configure 0 { defaultSettings with period := 256 }).wf = false ∧
    (Instr.configure 0 { defaultSettings with floor := 256 }).wf = false ∧
    (Instr.configure 0 { defaultSettings with warn := 256 }).wf = false ∧
    (Instr.configure 0 { defaultSettings with slope := 256 }).wf = false ∧
    (Instr.configure 0 { defaultSettings with burst := 256 }).wf = false ∧
    (Instr.configure 0 { defaultSettings with reload := 65536 }).wf = false := by decide
theorem test_wf_configure_takes : (Instr.configure 9 defaultSettings).wf = true := by decide
theorem test_wf_provision_refuses : (Instr.provision 0 { sampleFields with tag := 65536 }).wf = false ∧
    (Instr.provision 0 { sampleFields with localPort := 256 }).wf = false ∧
    (Instr.provision 0 { sampleFields with farSlot := 256 }).wf = false ∧
    (Instr.provision 0 { sampleFields with farPort := 256 }).wf = false ∧
    (Instr.provision 0 { sampleFields with primary := 65536 }).wf = false ∧
    (Instr.provision 0 { sampleFields with standbyInd := 256 }).wf = false ∧
    (Instr.provision 0 { sampleFields with standbyLane := 65536 }).wf = false ∧
    (Instr.provision 0 { sampleFields with cls := 256 }).wf = false ∧
    (Instr.provision 0 { sampleFields with weight := 256 }).wf = false := by decide
theorem test_wf_provision_takes : (Instr.provision 0 { sampleFields with weight := 8 }).wf = true := by decide
theorem test_wf_tags_refuse : (Instr.drop 0 65536).wf = false ∧ (Instr.rearm 0 65536).wf = false ∧
    (Instr.query 0 65536).wf = false ∧ (Instr.claimResend 65536).wf = false := by decide
theorem test_wf_reads_refuse : (Instr.readEntry 0 256 0).wf = false ∧ (Instr.readEntry 0 0 256).wf = false ∧
    (Instr.readPeer 0 256).wf = false := by decide
theorem test_wf_setPace_refuses : (Instr.setPace 0 65536 0).wf = false ∧ (Instr.setPace 0 0 256).wf = false := by decide
theorem test_wf_straps_refuse : (Instr.strapRead 32 0).wf = false ∧ (Instr.strapRead 0 4).wf = false := by decide
theorem test_wf_slots_refuse : (Instr.peerSilent 24).wf = false ∧ (Instr.rollAbandon 24).wf = false := by decide
theorem test_wf_frames_refuse : (Instr.beaconReceived { sampleFrame [] with src := 32 }).wf = false ∧
    (Instr.rollReceived { sampleFrame [] with dst := 32 }).wf = false ∧
    (Instr.offerReceived (sampleFrame (List.replicate 49 0))).wf = false := by decide
theorem test_wf_highway_refuses : (Instr.highwayFrame { carried := [⟨1024, .a, 0⟩], sent := [] }).wf = false ∧
    (Instr.highwayFrame { carried := [], sent := [⟨64, 0⟩] }).wf = false ∧
    (Instr.highwayFrame { carried := [⟨1, .a, 0⟩, ⟨1, .a, 1⟩], sent := [] }).wf = false ∧
    (Instr.highwayFrame { carried := [], sent := [⟨1, 0⟩, ⟨1, 2⟩] }).wf = false := by decide
theorem test_wf_highway_takes : (Instr.highwayFrame { carried := [⟨1023, .a, 0⟩, ⟨1023, .b, 1⟩], sent := [⟨63, 0⟩] }).wf =
    true := by decide

/-! ### Worked examples and tables of the book -/

/-- R127 names the CRC by its generator, start value, bit order and lack of inversion; the check value of that CRC over the
nine digits 123456789 is 29B1h. -/
theorem test_crc_check_value : crc16 ((List.range 9).map (fun i => byteOf (0x31 + i))) = 0x29B1 := by decide +kernel

/-- Bit insertion by R126: five equal bits, one of the opposite value after them. -/
theorem test_bits_inserted : (lineBits [0xFF]).take 8 = [false, true, true, true, true, true, false, true] ∧
    (lineBits [0x00]).take 7 = [false, false, false, false, false, true, false] := by decide +kernel

/-- The header bytes of R188, written out: an ANSWER from slot 3 to slot 1, epoch 9, SERVICE, five payload bytes. -/
theorem test_header_bytes : headerBytes kindAnswer 3 1 9 .service 5 = [0x04, 0x03, 0x01, 0x09, 0xC5] := by decide

/-- A claim by R189: tag 0201h, claimer port 9, lane 301 (12Dh), addressee port 2. -/
theorem test_claim_bytes : claimBytes ⟨0x0201, 9, 301, 2⟩ = [0x02, 0x01, 0x25, 0x2D, 0x02] ∧
    readOffer [0x01, 0x02, 0x01, 0x25, 0x2D, 0x02] = some (true, [⟨0x0201, 9, 301, 2⟩]) := by decide

/-- Verdicts by R189; the two last bytes of a kind other than ACCEPT are ignored. -/
theorem test_verdict_bytes : verdictBytes ⟨0x0101, .accept 40⟩ = [0x01, 0x01, 0x01, 0x00, 0x28] ∧
    readAnswer [0x01, 0x01, 0x05, 0xFF, 0xFF] = some [⟨0x0101, .clash⟩] ∧
    readAnswer [0x01, 0x01, 0x06, 0x00, 0x00] = none := by decide

/-- The PROVISION record of step 3 of 1.11, laid out by R190. -/
theorem test_provision_record : (CardCommand.provision ⟨0x0201, 9, 6, 2, 300, 1, 301, 1, 3⟩).record =
    [0x20, 0x0C, 0x02, 0x01, 0x09, 0x06, 0x02, 0x01, 0x2C, 0x01, 0x01, 0x2D, 0x01, 0x03] := by decide

/-- No table word spells a command. -/
theorem test_decode_none : decodeTableWord 16 0x1000 = none := rfl

/-- A transfer shifts out the pending response and filler after its end (R163), and none while the reset cause persists (R169); NOP leaves it pending (9.11). -/
theorem test_nop_shifts_out :
    (after (.nop 3) { State.reset with card := { State.reset.card with shifted := [1] } }).card.shifted = [] ∧
    (after (.nop 3) (card .setup [])).card.shifted = [0x00, 0x00, 0x01, 0x00, 0x00] ∧
    (after (.nop 3) (card .setup [])).card.take = 0 := by decide +kernel

/-- Transfer 1 of 9.11: STATUS after a cold start, all counts 0. -/
theorem test_status : answer (.status 0) (card .setup []) =
    (.ok, [2, 1, 8, 4, 0, 0, 0, 0, 0, 0, 0, 0, 0, 0, 0, 0, 0, 0, 0, 0, 0, 189, 0, 20, 0, 0, 0, 0, 0]) := by
  decide +kernel

/-- Transfers 4 and 5 of 9.11. -/
theorem test_configure : answer (.configure 0 ⟨16, 170, 165, 4, 12, 20⟩) (card .setup []) = (.range, [7]) ∧
    answer (.configure 0 ⟨16, 176, 165, 4, 12, 0⟩) (card .setup []) = (.ok, [16, 176, 165, 4, 12, 0, 1]) := by
  decide +kernel

/-- Transfer 8 of 9.11: GO answers epoch and record count; the rolls of every addressable slot are OWED (R154). -/
theorem test_go : answer (.go 0) (card .setup [recA .parked]) = (.ok, [4, 0, 1]) ∧
    (after (.go 0) (card .setup [])).ctl.st = .relink ∧
    ((after (.go 0) (card .setup [])).peers.map (·.rollOut)).take 9 =
      [.owed, .none, .owed, .owed, .owed, .owed, .owed, .owed, .none] := by decide +kernel

/-- Steps 4 to 7 of 1.11: LANE_TAKEN, DUPLICATE, PORT_TAKEN and RANGE. -/
theorem test_provision_refused :
    (answer (.provision 0 ⟨0x0202, 10, 6, 4, 301, 0, 0, 1, 2⟩) up).1 = .laneTaken ∧
    (answer (.provision 0 ⟨0x0102, 11, 3, 9, 42, 0, 0, 3, 1⟩) up).1 = .duplicate ∧
    (answer (.provision 0 ⟨0x0203, 9, 6, 6, 303, 0, 0, 3, 1⟩) up).1 = .portTaken ∧
    (answer (.provision 0 ⟨0x0204, 12, 1, 0, 304, 0, 0, 3, 1⟩) up).1 = .range := by decide +kernel

/-- Steps 8 to 10 of 1.11: the re-provisioned record takes the lowest free place and stands at the tail of its list. -/
theorem test_provision_order :
    let s8 := after (.provision 0 ⟨0x0205, 12, 6, 5, 302, 0, 0, 3, 1⟩) (card .setup (shelf .parked .parked .parked))
    let s10 := after (.provision 0 ⟨0x0102, 5, 3, 8, 41, 0, 0, 3, 5⟩) (after (.drop 0 0x0102) s8)
    (s10.classList 3).map (fun r => (r.tag, r.place)) = [(0x0205, 3), (0x0102, 1)] ∧
      s10.classOrder.map (·.tag) = [0x0101, 0x0201, 0x0205, 0x0102] := by decide +kernel

/-- Step 9 of 1.11: a DROP of a PARKED record needs no RELEASE; one of an OPEN record towards a PRESENT peer does (R10). -/
theorem test_drop : answer (.drop 0 0x0102) (card .setup (shelf .parked .parked .parked)) = (.ok, [1, 2, 0, 0]) ∧
    answer (.drop 0 0x0102) up = (.ok, [1, 2, 4, 1]) ∧ ((after (.drop 0 0x0102) up).peer 3).releases = [0x0102] := by
  decide +kernel

/-- REARM clears the clash mark and parks the record with its claim due where its peer is up (R46). -/
theorem test_rearm :
    let s := after (.rearm 0 0x0101) (card .service [{ recA .clashed with clashMark := true }])
    s.records.map (fun r => (r.state, r.clashMark, r.claimDue)) = [(.parked, false, true)] ∧
      s.line.queue = [.singleOffer 3] := by decide +kernel

/-- The 20 bytes of 0x0201, OPEN on its primary lane (R191). -/
theorem test_query : answer (.query 0 0x0201) up =
    (.ok, [2, 1, 9, 6, 2, 1, 44, 1, 1, 45, 1, 3, 0, 4, 0, 0, 0, 0, 0, 255]) := by decide +kernel

/-- The reads of list 3 in 1.11, on a list of one: length and record, then RANGE with the length. -/
theorem test_readEntry : ((answer (.readEntry 0 3 0) up).2).take 3 = [1, 1, 2] ∧
    answer (.readEntry 0 3 1) up = (.range, [1]) := by decide +kernel

/-- The 16 bytes of a peer record (R191). -/
theorem test_readPeer : answer (.readPeer 0 3) up = (.ok, [3, 1, 0, 9, 4, 0, 0, 0, 0, 0, 0, 0, 0, 0, 0, 0]) ∧
    answer (.readPeer 0 24) up = (.range, []) := by decide +kernel

/-- The READ NOTICES of step 5 of 10.4: REFUSED(ORPHAN) then REFUSED(UNKNOWN) for 0x0207, class 3, 0 left. -/
theorem test_readNotices : answer (.readNotices 0) { up with notices :=
      [⟨0x0207, .refused .orphan, 3⟩, ⟨0x0207, .refused .unknown, 3⟩] } =
    (.ok, [2, 0, 2, 7, 2, 3, 3, 2, 7, 2, 1, 3]) := by decide +kernel

/-- Steps 0 and 1 of 10.4: START stands, ATTN is asserted, and one read clears both. -/
theorem test_readEvents :
    let s := after (.setEnables 0 0x801D) { up with events := EventUnit.clear.raise .start }
    s.attn = true ∧ answer (.readEvents 0) s = (.ok, [0, 1, 0x80, 0x1D]) ∧ (after (.readEvents 0) s).attn = false := by
  decide +kernel

/-- SET ENABLES answers the enables as written, bits 14 to 12 as 0 (R176, R190). -/
theorem test_setEnables : answer (.setEnables 0 0xFFFF) up = (.ok, [0, 0, 0x8F, 0xFF]) := by decide +kernel

/-- SET PACE writes a reload of 0 as 1 (R108) and starts a count on a change to CONTINUOUS (R109). -/
theorem test_setPace : answer (.setPace 0 0 0) (withTimer .stopped .step up) = (.ok, [0, 1, 0, 1]) ∧
    answer (.setPace 0 1024 0) up = (.range, []) := by decide +kernel

/-- STEP starts one count in STEP mode and is refused in CONTINUOUS mode (R107, R177). -/
theorem test_stepPace : answer (.stepPace 0) (withTimer .stopped .step up) = (.ok, [0]) ∧
    answer (.stepPace 0) (withTimer (.running 5) .step up) = (.ok, [1]) ∧
    answer (.stepPace 0) (withTimer (.running 5) .continuous up) = (.state, []) := by decide +kernel

/-- PURGE empties the table, zeroes the epoch and answers the record count it found (R178). -/
theorem test_purge : answer (.purge 0) up = (.ok, [0, 0, 3]) ∧ (after (.purge 0) up).records = [] ∧
    (after (.purge 0) up).ctl.st = .setup := by decide +kernel

/-- UNMUTE answers what it cleared (R179). -/
theorem test_unmute : answer (.unmute 0) { up with line := { up.line with muted := true, retry := true } } =
    (.ok, [3]) := by decide +kernel

/-- Transfer 6 of 9.11: PROVISION with a length byte one short is BAD_LENGTH; an unknown code is UNKNOWN_CMD. -/
theorem test_rejectedRecord : (answer (.rejectedRecord (0x20 :: 0x0B :: List.replicate 12 0)) up).1 = .badLength ∧
    (answer (.rejectedRecord [0x77, 0x00]) up).1 = .unknownCmd ∧ (answer (.rejectedRecord [0x77]) up).1 = .badLength := by
  decide +kernel

/-- The bytes out are fixed at the assertion of chip select (R163). -/
theorem test_chipSelect : (after .chipSelectAsserted up).card.transfer = .opened [] [0, 0, 1, 0] := by decide +kernel

/-- The second case of 1.12: an edit cut short leaves a non-zero sum; a start in no edit leaves the store valid. -/
theorem test_start : (after (.start .brownout .table) up.closeEdit).sumZero = false ∧
    (after (.start .resetPin .none) up.closeEdit).sumZero = true ∧
    (after (.start .powerUp .none) up).records.map (·.state) = [.parked, .parked, .parked] := by decide +kernel

/-- 0.7 and R150: pins 01 mean a shelf of 12; slot 12 of it is a strap fault, slot 11 is not. -/
theorem test_strapRead : (after (.strapRead 12 1) State.reset).ctl.st = .strapFault ∧
    (after (.strapRead 11 1) State.reset).ctl.st = .starting ∧ (after (.strapRead 11 1) State.reset).ctl.size = 12 := by
  decide +kernel

/-- Row 301.25 of 8.9: a valid store starts warm, epoch 5 to 6, into RELINK. -/
theorem test_warmStart :
    let s := { card .starting [recA .parked] with store := { up.store with epoch := 5 } }.closeEdit
    (after .warmStart s).store.epoch = 6 ∧ (after .warmStart s).ctl.st = .relink := by decide +kernel

/-- The second case of 1.12 continued: a store whose sum is not zero starts cold, epoch 0, empty, in SETUP. -/
theorem test_coldStart : let s := (card .starting (shelf .parked .parked .parked)).cutEdit
    (after .coldStart s).store.epoch = 0 ∧ (after .coldStart s).records = [] ∧ (after .coldStart s).ctl.st = .setup := by
  decide +kernel

/-- A store without the keep-alive mark is not valid (R16, R17). -/
theorem test_keepAliveClear : (up.closeEdit).storeValid = true ∧
    (after .keepAliveClear up.closeEdit).storeValid = false := by decide +kernel

/-- Rows 500 and 750 of 8.8, and 0.6: 47.3 V is 189. -/
theorem test_conversion : sampleOf 47300 = 189 ∧ sampleOf 70000 = 255 ∧
    let s1 := after (.conversionResult 37750) up
    (s1.supply.warnRun, s1.supply.recoverRun, s1.ctl.st) = (1, 0, .service) ∧
      (after (.conversionResult 37500) s1).ctl = { up.ctl with st := .quiesce, ret := some .service } := by
  decide +kernel

/-- Rows 2750 to 3500 of 8.8: 160, 161, 162 and 163 recover the station into its return state. -/
theorem test_recovery :
    let s := { quiesced .service up with supply := ⟨159, 0, 0⟩ }
    let s3 := after (.conversionResult 40500) (after (.conversionResult 40250) (after (.conversionResult 40000) s))
    s3.supply.recoverRun = 3 ∧ (after (.conversionResult 40750) s3).ctl.st = .service ∧
      (after (.conversionResult 40750) s3).heldForSupply = true := by decide +kernel

/-- A sweep ages a PRESENT peer (R54) and begins the next interval (R49). -/
theorem test_sweep : (((after .sweep up).peer 3).sinceHeard, ((after .sweep up).peer 4).sinceHeard) = (1, 0) ∧
    (after .sweep { up with sweep := ⟨some 1, 0⟩ }).sweep = ⟨some 16, 1⟩ := by decide +kernel

/-- The third row of the table of R55: a PARKED record towards a peer gone SILENT is DEFERRED once. -/
theorem test_peerSilent :
    let s := withPeer 3 (fun x => { x with sinceHeard := 12 }) (card .service [recA .parked])
    (after (.peerSilent 3) s).records.map (·.state) = [.deferred] ∧
      (after (.peerSilent 3) s).notices = [⟨0x0101, .deferred, 0⟩] := by decide +kernel

/-- The beacon count that reached 4 posts a BEACON (R61). -/
theorem test_beaconDue : (after .beaconDue { up with sweep := ⟨some 16, 4⟩ }).line.queue = [.beacon] := by decide +kernel

/-- The worked example of chapter 2: an unanswered claim with send count 4 is DEFERRED, with 1 it is due again (R28). -/
theorem test_claimResend :
    let r (n : Nat) := { recA .offered with sendCount := n, sweepsSinceSend := 6, resendDue := true }
    (after (.claimResend 0x0101) (card .service [r 4])).records.map (·.state) = [.deferred] ∧
      (after (.claimResend 0x0101) (card .service [r 1])).line.queue = [.singleOffer 3] := by decide +kernel

/-- An abandoned roll raises ROLL_CHECK and refuses nothing (R79). -/
theorem test_rollAbandon :
    let s := withPeer 3 (fun x => { x with channel := .receiving 2 1 3 }) (card .service [{ recA (.opened 0) with scopeMark := true }])
    (after (.rollAbandon 3) s).events.has .rollCheck = true ∧
      (after (.rollAbandon 3) s).records = [recA (.opened 0)] := by decide +kernel

/-- Step 5 of 11.3: slot 1's pass at the end of the listen interval posts ROLL to 3, then ROLL to 6. -/
theorem test_listenIntervalEnd :
    let s := withPeer 3 (fun x => { x with rollOut := .owed }) (withPeer 6 (fun x => { x with rollOut := .owed })
      (card .relink (shelf .parked .parked .confirmed)))
    (after .listenIntervalEnd { s with ctl := { s.ctl with listenOver := false } }).line.queue = [.roll 3, .roll 6] := by
  decide +kernel

/-- Step 1 of 5.8: 3 + 10 = 13; 4 and 7 open, 2 is left, and the next needs 3. -/
theorem test_paceExpiry :
    let rs := [circuit 0 0x6001 0 1 0 510 none 0 4 .confirmed, circuit 1 0x6101 1 1 1 500 (some 501) 1 7 .confirmed,
      circuit 2 0x6102 2 1 2 502 none 1 3 .confirmed, circuit 3 0x6201 3 1 3 520 none 2 2 .confirmed]
    let s := withTimer (.running 1) .continuous { card .relink rs with seq := { Sequencer.start with allowance := 3 } }
    (after .paceExpiry s).seq.allowance = 2 ∧
      (after .paceExpiry s).records.map (·.state) = [.probing 0, .probing 1, .confirmed, .confirmed] := by decide +kernel

/-- Step 3 of 5.8: 0x6101 foul: refund to 9, OFFERED on STANDBY; 0x6102 opens, 6 left. -/
theorem test_probeCompletion :
    let rs := [circuit 1 0x6101 1 3 1 500 (some 501) 1 7 (.probing 1), circuit 2 0x6102 2 3 2 502 none 1 3 .confirmed]
    let s := withProbes [⟨1, 1, 500, .a, 0, true⟩] { card .relink rs with seq := { Sequencer.start with allowance := 2 } }
    (after .probeCompletion s).seq.allowance = 6 ∧
      (after .probeCompletion s).records.map (fun r => (r.state, r.inUse, r.claimDue)) =
        [(.offered, .standby, true), (.probing 0, .primary, false)] := by decide +kernel

/-- Frame 504 of 6.7: a record with no standby lane goes to CLASHED, and its peer is told. -/
theorem test_echoFault :
    let s := after .echoFault (card .service [recA (.opened 3)])
    s.records.map (fun r => (r.state, r.clashMark)) = [(.clashed, true)] ∧ s.notices = [⟨0x0101, .clashed, 0⟩] ∧
      (s.peer 3).verdicts = [⟨0x0101, .clash⟩] ∧ s.line.queue = [.answer 3] := by decide +kernel

/-- Frames 500 and 501 of 6.7: a mismatch makes the run 1, a match clears it. -/
theorem test_highwayFrame :
    let f (sent carried : Byte) : Instr := .highwayFrame { carried := [⟨40, .a, carried⟩], sent := [⟨4, sent⟩] }
    let s1 := after (f 0x5D 0x1D) (card .service [recA (.opened 0)])
    s1.records.map (·.state) = [.opened 1] ∧ (after (f 0x5D 0x5D) s1).records.map (·.state) = [.opened 0] ∧
      s1.hw.driven = [⟨40, .a, 0x5D⟩] := by decide +kernel

/-- 7.7 and R136: slot 1 after slot 3 of a shelf of 8 is at distance 5, and its NORMAL position is 13. -/
theorem test_linePosition :
    let s := withQueue [.beacon] { up with line := { up.line with lastSender := 3 } }
    s.distance = 5 ∧ (after (.linePosition 13) s).line.flying.isSome = true ∧
      (after (.linePosition 12) s).line.flying.isSome = false := by decide +kernel

/-- R134 and R84: an ANSWER sent whole takes its verdicts off the list, and the last sender is the own slot. -/
theorem test_frameSentWhole :
    let s := withPeer 3 (fun x => { x with verdicts := [⟨1, .wait⟩, ⟨2, .wait⟩] }) (withQueue [.answer 3] up)
    let t := after .frameSentWhole (flying (.answer 3) [] 1 { s with line := { s.line with lastSender := 6 } })
    (t.peer 3).verdicts = [⟨2, .wait⟩] ∧ t.line.queue = [.answer 3] ∧ t.line.lastSender = 1 := by decide +kernel

/-- R138 and R139: the first collision enters retry mode; in retry mode the second in a row mutes the station. -/
theorem test_collision :
    let s := flying .beacon [] 0 (withQueue [.beacon] up)
    (after .collision s).line.retry = true ∧ (after .collision s).line.muted = false ∧
      let m := after .collision { s with line := { s.line with retry := true, consecutive := 1 } }
      m.line.muted = true ∧ m.events.has .slotConflict = true ∧ m.lamp.mode = .steady := by decide +kernel

/-- Step 2 of 10.4: the first BEACON of an UNHEARD peer is an arrival. -/
theorem test_beaconReceived :
    let t := after (.beaconReceived ⟨5, 31, 7, .service, [8]⟩) up
    t.events.has .peerRestart = true ∧ t.peer 5 = { near 7 with rollOut := .owed } ∧ t.line.errors = 0 ∧
      (after (.beaconReceived ⟨5, 31, 7, .service, [12]⟩) up).line.errors = 1 := by decide +kernel

/-- R76: a ROLL marks every record towards its source. -/
theorem test_rollReceived : (after (.rollReceived (sampleFrame [0, 2])) up).records.map (·.scopeMark) =
    [true, true, false] := by decide +kernel

/-- Steps 9 and 10 of 11.3 as slot 1 would see them from slot 6: the claim on lane 301 moves the record there, and it takes
its turn again. -/
theorem test_offerReceived :
    let f : LineFrame := ⟨6, 1, 2, .service, offerPayload false [⟨0x0201, 2, 301, 9⟩]⟩
    let t := after (.offerReceived f) { up with seq := { up.seq with allowance := 24 } }
    (t.peer 6).verdicts = [⟨0x0201, .accept 301⟩] ∧ t.seq.allowance = 21 ∧ t.notices = [⟨0x0201, .laneMoved, 1⟩] ∧
      t.hw.probes.map (fun p => (p.lane, p.half)) = [(301, .a)] := by decide +kernel

/-- Step 4 of 10.4: an UNKNOWN refuses its record; a verdict that finds no record is stale (R86). -/
theorem test_answerReceived :
    let t := after (.answerReceived (sampleFrame (answerPayload [⟨0x0101, .unknown⟩, ⟨0x0999, .wait⟩]))) up
    t.records.map (·.state) = [.refused .unknown, .opened 0, .opened 0] ∧ t.line.stale = 1 ∧
      t.events.has .refusal = true := by decide +kernel

/-- R44: a RELEASE removes the records towards its source and ignores the tags of others. -/
theorem test_releaseReceived :
    let t := after (.releaseReceived (sampleFrame (releasePayload [0x0201, 0x0102]))) up
    t.records.map (·.tag) = [0x0101, 0x0201] ∧ t.notices = [⟨0x0102, .removed, 3⟩] := by decide +kernel

/-- R143: an unknown kind for this station is a line error, one for another slot is not. -/
theorem test_otherFrame : (after (.otherFrameReceived 6 (sampleFrame [])) up).line.errors = 1 ∧
    (after (.otherFrameReceived 6 { sampleFrame [] with dst := 2 }) up).line.errors = 0 := by decide +kernel

/-- R142: a frame whose CRC is wrong is a line error. -/
theorem test_badFrame : (after (.badFrameReceived [4, 3, 1, 9, 0xC0, 0, 0] false) up).line.errors = 1 := by decide +kernel

/-- R142: a jam changes nothing. -/
theorem test_jam : after .jamReceived up = up := by decide +kernel

/-- Rows 0, 1024 and 1800 of 10.5: d is 1, 5 and 11 with 0, 3 and 7 of 10 OPEN. -/
theorem test_lampPeriod :
    let rs (n : Nat) := (List.range 10).map (fun i => circuit i (i + 1) i 3 i i none 0 1 (if i < n then .opened 0 else .parked))
    let d (n : Nat) := (after .lampPeriod { card .relink (rs n) with lamp := ⟨.progress 0, 9⟩ }).lamp
    d 0 = ⟨.progress 1, 0⟩ ∧ d 3 = ⟨.progress 5, 0⟩ ∧ d 7 = ⟨.progress 11, 0⟩ := by decide +kernel

/-! ### Witnesses: states and operands that meet the hypotheses of the obligations -/

theorem witness_IdleStepIsMillisecond :
    let s := withTimer (.running (0 + 2)) .continuous { up with sweep := ⟨some (0 + 2), 0⟩ }
    s.pending = [] ∧ s.calm ∧ s.seq.timer = .running (0 + 2) ∧ s.sweep.remaining = some (0 + 2) ∧
      s.lamp.mode.period = none := by decide +kernel

theorem witness_DueStepsComeFirst : let s := { up with sweep := ⟨some 16, 4⟩ }
    Instr.jamReceived.isDueStep = false ∧ s.anyDue = true ∧ s.settleAll.calm := by decide +kernel

theorem witness_TransferRows : up.portReady ∧ (up.calm ∧ up.ctl.resetHeld = false) ∧
    (State.reset.calm ∧ State.reset.ctl.resetHeld = true) ∧
    ((Instr.nop 0).isCardRow = true ∧ State.reset.calm ∧ State.reset.ctl.resetHeld = true) ∧
    let s := { up with card := { up.card with discarded := true } }
    (Instr.unmute 0).isCardRow = true ∧ s.calm ∧ s.card.discarded = true := by decide +kernel

theorem witness_PortKeptByOtherRows : Instr.sweep.isCardRow = false ∧ Instr.sweep ≠ .chipSelectAsserted ∧
    (∀ a b, Instr.sweep ≠ .start a b) ∧ ∃ t, exec .sweep up = .next t :=
  ⟨rfl, by decide, fun _ _ h => (by cases h), _, rfl⟩

theorem witness_StatusReports : (up.portReady ∧ up.ctl.st = .service) ∧
    ((inState .starting { up with supply := ⟨189, 0, 3⟩ }).portReady) ∧ (inState .strapFault up).portReady := by
  decide +kernel

/-- Each check of R171 at the edge of its range, and values that pass them all. -/
theorem witness_ConfigureByChecks : (card .setup []).portReady ∧ (card .setup []).ctl.st = .setup ∧
    (configFails ⟨9, 168, 152, 4, 12, 20⟩ = some 1 ∧ configFails ⟨8, 256, 152, 4, 12, 20⟩ = some 2 ∧
      configFails ⟨16, 255, 256, 4, 12, 20⟩ = some 3 ∧ configFails ⟨32, 168, 152, 0, 12, 20⟩ = some 4 ∧
      configFails ⟨64, 168, 152, 16, 12, 20⟩ = some 4 ∧ configFails ⟨8, 168, 152, 15, 3, 20⟩ = some 5 ∧
      configFails ⟨8, 168, 152, 1, 64, 20⟩ = some 5 ∧ configFails ⟨8, 168, 152, 1, 63, 1024⟩ = some 6 ∧
      configFails ⟨8, 159, 152, 1, 4, 1023⟩ = some 7 ∧ configFails ⟨8, 160, 152, 1, 4, 0⟩ = none) := by decide +kernel

theorem witness_GoEntersRelink : (card .setup (shelf .parked .parked .parked)).portReady := by decide +kernel

/-- A full table. -/
def full : List Circuit := (List.range 64).map (fun i => circuit i (i + 1) i 3 i i none 0 1 .parked)

theorem witness_ProvisionByChecks :
    ((quiesced .setup up).portReady ∧ (quiesced .setup up).ctl.st = .quiesce) ∧
    ((inState .strapFault up).portReady ∧ (inState .strapFault up).ctl.st = .strapFault) ∧
    (up.portReady ∧ up.edits ∧ up.tableOk) ∧
    (∀ f ∈ [{ sampleFields with tag := 0 }, { sampleFields with localPort := 64 }, { sampleFields with farPort := 64 },
        { sampleFields with farSlot := 1 }, { sampleFields with farSlot := 8 }, { sampleFields with primary := 1024 },
        { sampleFields with standbyInd := 2 }, { sampleFields with standbyInd := 1, standbyLane := 1024 },
        { sampleFields with standbyInd := 1, standbyLane := 77 }, { sampleFields with cls := 4 },
        { sampleFields with weight := 0 }, { sampleFields with weight := 8 }], f.OutOfRange up) ∧
    (¬ ProvisionFields.OutOfRange { sampleFields with tag := 0x0101 } up ∧ ∃ r ∈ up.records, r.tag = 0x0101) ∧
    (¬ ProvisionFields.OutOfRange { sampleFields with localPort := 9 } up ∧ (∃ r ∈ up.records, r.localPort = 9) ∧
      ¬ ∃ r ∈ up.records, r.tag = sampleFields.tag) ∧
    (¬ ProvisionFields.OutOfRange { sampleFields with primary := 301 } up ∧
      ProvisionFields.LaneInUse { sampleFields with primary := 301 } up ∧
      ¬ ∃ r ∈ up.records, r.localPort = sampleFields.localPort) ∧
    (¬ sampleFields.OutOfRange up ∧ ¬ sampleFields.LaneInUse up) ∧
    (let s := card .setup full
     s.portReady ∧ s.edits ∧ s.tableOk ∧ s.records.length = 64 ∧ ¬ sampleFields.OutOfRange s ∧
      ¬ ∃ r ∈ s.records, r.tag = sampleFields.tag) := by
  and_intros <;> decide +kernel

theorem witness_ProvisionTaken :
    (∀ r ∈ up.records, r.tag ≠ sampleFields.tag ∧ r.localPort ≠ sampleFields.localPort) ∧ ¬ sampleFields.LaneInUse up ∧
    (let s := card .setup []
     s.portReady ∧ s.LowestFree 0 ∧ ¬ sampleFields.OutOfRange s ∧ ¬ sampleFields.LaneInUse s ∧ s.ctl.st = .setup) ∧
    (up.portReady ∧ up.LowestFree 3 ∧ ¬ sampleFields.OutOfRange up ∧ up.running = true ∧
      (up.peer 6).rollOut ≠ .sending ∧ (up.peer 6).up = true) ∧
    (¬ ProvisionFields.OutOfRange { sampleFields with farSlot := 5 } up ∧ (up.peer 5).rollOut ≠ .sending ∧
      (up.peer 5).up = false) ∧
    (let s := withPeer 6 (fun x => { x with rollOut := .sending }) up
     s.portReady ∧ s.LowestFree 3 ∧ ¬ sampleFields.OutOfRange s ∧ ¬ sampleFields.LaneInUse s ∧ s.running = true ∧
      (s.peer sampleFields.farSlot).rollOut = .sending) := by
  and_intros <;> decide +kernel

/-- A DROP that fills the release list, and one that needs no RELEASE. -/
theorem witness_DropTaken :
    let s := withPeer 3 (fun x => { x with releases := List.replicate 15 1 }) up
    s.Safe ∧ (s.portReady ∧ s.edits ∧ recB (.opened 0) ∈ s.records ∧ s.NeedsRelease (recB (.opened 0)) ∧
      (s.NeedsRelease (recB (.opened 0)) → (s.peer 3).releases.length < 16)) :=
  ⟨safe_of_agree (by decide +kernel), by decide +kernel⟩

theorem witness_DropTaken_noRelease : let s := card .setup [recA .parked]
    s.Safe ∧ (s.portReady ∧ s.edits ∧ recA .parked ∈ s.records ∧ ¬ s.NeedsRelease (recA .parked)) :=
  ⟨safe_of_agree (by decide +kernel), by decide +kernel⟩

theorem witness_DropTaken_sending : let s := withPeer 3 (fun x => { x with rollOut := .sending }) up
    s.Safe ∧ (s.portReady ∧ s.edits ∧ recB (.opened 0) ∈ s.records ∧
      (s.peer (recB (.opened 0)).farSlot).rollOut = .sending) :=
  ⟨safe_of_agree (by decide +kernel), by decide +kernel⟩

theorem witness_RearmTaken :
    let s := card .service [{ recA .clashed with clashMark := true }, { recC .clashed with farSlot := 5 }]
    s.tableOk ∧ s.portReady ∧ s.running = true ∧ { recA .clashed with clashMark := true } ∈ s.records ∧
      (s.peer 3).up = true ∧ { recC .clashed with farSlot := 5 } ∈ s.records ∧ (s.peer 5).up = false := by decide +kernel

theorem witness_LookupRefusals :
    let s := withPeer 3 (fun x => { x with releases := List.replicate 16 1 }) up
    s.portReady ∧ (∀ r ∈ s.records, r.tag ≠ 0x0999) ∧ s.edits ∧ s.running = true ∧ s.tableOk ∧
      recB (.opened 0) ∈ s.records ∧ s.NeedsRelease (recB (.opened 0)) ∧ 16 ≤ (s.peer 3).releases.length ∧
      (recB (.opened 0)).state ≠ .clashed ∧ s.records.countP (fun r => r.cls == 3) ≤ 1 ∧
      (quiesced .service up).portReady := by decide +kernel

theorem witness_ReadsAnswer :
    up.portReady ∧ (up.edits ∨ up.ctl.st = .quiesce) ∧ recC (.opened 0) ∈ up.records ∧ up.tableOk ∧
      (up.records.filter (fun x => x.cls == 3))[0]? = some (recB (.opened 0)) ∧ 23 < 24 ∧
      (quiesced .setup up).portReady := by decide +kernel

theorem witness_EventsReadAndEnabled : up.portReady ∧ up.edits ∧ (quiesced .setup up).portReady := by decide +kernel

theorem witness_AttnFollowsFlags :
    ({ up with events := { flags := 1, enables := 1, master := true } }).attn = true ∧
      EventFlag.start ≠ EventFlag.sag := by decide +kernel

theorem witness_PaceCommands : up.portReady ∧ up.edits ∧ up.running = true ∧ up.seq.mode = .continuous ∧
    (withTimer .stopped .step up).portReady ∧ (withTimer .stopped .step up).seq.timer = .stopped ∧
    (withTimer (.running 1) .step up).portReady ∧ (withTimer (.running 1) .step up).seq.timer = .running 1 := by
  decide +kernel

theorem witness_PurgeToCold : up.portReady ∧ up.edits ∧ (quiesced .relink up).portReady := by decide +kernel

theorem witness_UnmuteClears : let s := inState .strapFault { up with line := { up.line with muted := true } }
    s.portReady ∧ s.ctl.st ≠ .starting := by decide +kernel

theorem witness_RefusedRecords :
    up.portReady ∧ up.card.received = [] ∧ up.card.received ++ [0x10] = [0x10] ∧
      up.card.received ++ [0x20, 0x0B, 0x03] = 0x20 :: 0x0B :: [0x03] ∧
      (quiesced .service up).portReady ∧ up.running = true ∧ (card .setup []).portReady ∧
      (inState .starting { up with supply := ⟨189, 0, 3⟩ }).portReady ∧ (inState .strapFault up).portReady := by
  decide +kernel

theorem witness_StartResets : up.calm ∧ (EditCut.none = .none) ∧ (EditCut.rewrite ≠ .none) ∧
    { up.card with transfer := .opened [] [] }.transfer ≠ .idle := by decide +kernel

theorem witness_StrapsRead : State.reset.calm ∧ State.reset.ctl.st = .starting ∧ State.reset.ctl.resetHeld = true ∧
    31 < 32 ∧ 3 < 4 := by decide +kernel

theorem witness_StartEnds :
    let w := (card .starting (shelf .parked .parked .parked)).closeEdit
    let c := (card .starting (shelf .parked .parked .parked)).cutEdit
    (w.ctl.st = .starting ∧ w.ctl.resetHeld = false ∧ w.supply.recoverRun = 4 ∧ w.storeValid = true) ∧
      c.ctl.st = .starting ∧ c.ctl.resetHeld = false ∧ c.supply.recoverRun = 4 ∧ c.storeValid = false := by
  decide +kernel

theorem witness_KeepAliveStaysClear :
    let s := { up with store := { up.store with keepAlive := false } }
    up.calm ∧ s.store.keepAlive = false ∧ s.startDue = false ∧ (∀ k, Instr.jamReceived ≠ .purge k) ∧
      ∃ t, exec .jamReceived s = .next t :=
  ⟨by decide +kernel, rfl, by decide +kernel, fun _ h => (by cases h), _, rfl⟩

theorem witness_SupplyRuns : (State.reset.calm ∧ State.reset.ctl.resetHeld = true) ∧
    up.calm ∧ up.ctl.resetHeld = false ∧
      ¬ (min 255 (38000 / 250) < up.store.settings.warn ∧ up.supply.warnRun = 1 ∧ up.edits) ∧
      ¬ (up.store.settings.warn + 8 ≤ min 255 (38000 / 250) ∧ up.supply.recoverRun = 3 ∧ up.ctl.st = .quiesce) := by
  decide +kernel

/-- A station with a probe under way and an own frame on the line. -/
def busy : State :=
  withProbes [⟨0, 0, 40, .a, 16, false⟩] (flying .beacon [] 0 (withQueue [.beacon]
    (card .service (shelf (.probing 0) (.opened 0) .confirmed))))

theorem busy_safe : busy.Safe := safe_of_agree (by decide +kernel)

theorem witness_SagWarningQuiesces : let s := { busy with supply := ⟨151, 1, 0⟩ }
    s.Safe ∧ (s.calm ∧ s.ctl.resetHeld = false ∧ s.ctl.st = stationOf .service ∧ s.supply.warnRun = 1 ∧
      min 255 (37999 / 250) < s.store.settings.warn ∧ s.line.flying.isSome = true) ∧
      ({ up with supply := ⟨151, 1, 0⟩ } : State).Safe ∧ up.line.flying = none :=
  ⟨safe_of_agree (by decide +kernel), by decide +kernel, safe_of_agree (by decide +kernel), by decide +kernel⟩

/-- QUIESCE one result before its end, with a roll owed to slot 3 and a single claim that waits for slot 6. -/
def recovering (a : Announced) : State :=
  quiesced a (withPeer 3 (fun x => { x with rollOut := .owed })
    { card .service [recA .parked, { recC .parked with claimDue := true }, { recB .confirmed with claimDue := false }] with
      supply := ⟨163, 0, 3⟩ })

theorem witness_RecoveryReturns :
    (∀ a ∈ [Announced.setup, .relink, .service], let s := recovering a
      s.calm ∧ s.ctl.resetHeld = false ∧ s.ctl.st = .quiesce ∧ s.ctl.ret = some a ∧ s.supply.recoverRun = 3 ∧
        s.store.settings.warn + 8 ≤ min 255 (40000 / 250) ∧ s.ctl.size ≤ 24 ∧ (s.peer 3).rollOut = .owed ∧
        (s.peer 3).up = true ∧ s.records.any (fun r => r.farSlot == 6 && r.claimDue && !r.rollMark) = true) ∧
    ∀ a, (recovering a).Safe :=
  ⟨by decide +kernel, fun a => by cases a <;> exact safe_of_agree (by decide +kernel)⟩

theorem witness_SweepAges : (up.calm ∧ up.sweep.remaining ≠ none) ∧
    State.reset.calm ∧ State.reset.sweep.remaining = none := by decide +kernel

theorem witness_SilentPeer :
    let s := withPeer 3 (fun x => { x with sinceHeard := 12, rollOut := .sending })
      (withQueue [.roll 3, .beacon] (card .relink (shelf .parked .offered .confirmed)))
    s.Safe ∧ (3 < 24 ∧ (s.peer 3).presence = .present ∧ 12 ≤ (s.peer 3).sinceHeard ∧ s.Minds ∧
      s.notices.length + (s.inClassOrder (fun r => r.farSlot == 3 && (r.state == .parked || r.state == .offered))).length = 2 ∧
      .beacon ∈ s.line.queue) :=
  ⟨safe_of_agree (by decide +kernel), by decide +kernel⟩

/-- In SETUP the station does not mind its records. -/
theorem witness_SilentPeer_setup :
    let s := withPeer 3 (fun x => { x with sinceHeard := 12 }) (card .setup [recA .parked])
    s.Safe ∧ ((s.peer 3).presence = .present ∧ 12 ≤ (s.peer 3).sinceHeard ∧ ¬ s.Minds) :=
  ⟨safe_of_agree (by decide +kernel), by decide +kernel⟩

theorem witness_BeaconAndGap : 4 ≤ ({ up with sweep := ⟨some 16, 4⟩ }).sweep.beaconCount ∧ up.sweep.beaconCount < 4 ∧
    ((withPeer 3 (fun x => { x with channel := .receiving 2 1 2 }) up).peer 3).channel = .receiving 2 1 2 ∧
    ((withPeer 3 (fun x => { x with channel := .receiving 2 1 3 }) up).peer 3).channel = .receiving 2 1 3 := by
  decide +kernel

theorem witness_ClaimResent :
    let r (n : Nat) := { recA .offered with sendCount := n, sweepsSinceSend := 6, resendDue := true }
    ∀ n ∈ [3, 4], (card .relink [r n]).tableOk ∧ r n ∈ (card .relink [r n]).records ∧ (r n).state = .offered ∧
      (r n).resendDue = true ∧ (card .relink [r n]).running = true ∧
      ((card .relink [r n]).peer (r n).farSlot).up = true := by decide +kernel

/-- RELINK at the end of the listen interval; slot 5 has not been heard. -/
def listened (roll : RollOut) (rs : List Circuit) : State :=
  withPeer 3 (fun x => { x with rollOut := roll })
    { card .relink rs with ctl := { (card .relink []).ctl with listenOver := false } }

/-- With a roll OWED the interval's end leaves the station in RELINK; without one, and with no other record on its way, it
ends RELINK. -/
theorem witness_ListenIntervalEnds :
    let far : Circuit := { recC .parked with farSlot := 5 }
    let s := listened .owed [recA .parked, recB .confirmed, far]
    let e := listened .none [recA (.opened 0), far]
    (∀ x ∈ [s, e], x.tableOk ∧ x.peers.length = 24 ∧ x.ctl.size ≤ 24 ∧ x.ctl.slot < x.ctl.size ∧ x.ctl.st = .relink ∧
      x.ctl.listenCount = 8 ∧ x.ctl.listenOver = false ∧
      x.inClassOrder (fun r => r.state == .parked && !(x.peer r.farSlot).up) = [far] ∧ x.notices.length + 1 ≤ 32) ∧
    (s.addressable 3 = true ∧ (s.peer 3).rollOut = .owed ∧ (s.peer 3).up = true) ∧
    ((∀ x ∈ e.peers, x.up = true → x.rollOut = .none) ∧ ∀ r ∈ (after .listenIntervalEnd e).records,
      r.state.isOpen = true ∨ r.state = .deferred ∨ r.state.isRefused = true ∨ r.state = .clashed) := by decide +kernel

theorem witness_ListenIntervalEnds_safe : (listened .owed [recA .parked, recB .confirmed]).Safe :=
  safe_of_agree (by decide +kernel)

theorem witness_CandidateIsFirst : let s := card .relink (shelf .confirmed .confirmed .offered)
    (∀ r ∈ s.records, r.cls ≤ 3) ∧ s.candidate = some (recA .confirmed) := by decide +kernel

theorem witness_PaceExpiryGrants :
    let s := withTimer (.running 1) .step up
    (up.calm ∧ up.seq.timer = .stopped) ∧ s.calm ∧ s.running = true ∧ s.seq.timer = .running 1 ∧
      (∀ r ∈ s.records, r.state ≠ .confirmed) ∧ s.relinkDone = false := by decide +kernel

theorem witness_AttemptLeavesNothingThatFits :
    let s := withTimer (.running 1) .continuous busy
    s.Safe ∧ s.calm ∧ s.running = true ∧ s.seq.timer = .running 1 :=
  ⟨safe_of_agree (by decide +kernel), by decide +kernel, by decide +kernel, by decide +kernel⟩

/-- A window that has ended, for a record with a standby lane or without one. -/
def ended (seen : Bool) (r : Circuit) : State :=
  withProbes [⟨3, r.place, r.lane, .a, 0, seen⟩] (card .service [{ r with state := .probing 3 }])

theorem witness_ProbeCompletes :
    ∀ seen ∈ [false, true], ∀ r ∈ [recA (.probing 3), recC (.probing 3), { recC (.probing 3) with farSlot := 5 }],
    (ended seen r).Safe ∧ (ended seen r).running = true ∧
      (ended seen r).hw.probes = ⟨3, r.place, r.lane, .a, 0, seen⟩ :: [] ∧ r ∈ (ended seen r).records := by
  intro seen hs r hr
  simp only [List.mem_cons, List.not_mem_nil, or_false] at hs hr
  rcases hs with rfl | rfl <;> rcases hr with rfl | rfl | rfl <;>
    exact ⟨safe_of_agree (by decide +kernel), by decide +kernel⟩

theorem witness_EchoFaultMoves : ∀ r ∈ [recA (.opened 3), recC (.opened 3)],
    ∀ s ∈ [card .service [r], quiesced .service (card .service [r])],
    s.Safe ∧ (s.running = true ∨ s.ctl.st = .quiesce) ∧ r ∈ s.records ∧ r.state = .opened 3 ∧
      (∀ x ∈ s.records, ∀ m, x.state = .opened m → 3 ≤ m → x = r) := by
  intro r hr s hs
  simp only [List.mem_cons, List.not_mem_nil, or_false] at hr hs
  rcases hr with rfl | rfl <;> rcases hs with rfl | rfl <;>
    exact ⟨safe_of_agree (by decide +kernel), by decide +kernel, by decide +kernel, rfl,
      fun x hx _ _ _ => List.mem_singleton.mp hx⟩

/-- A local clash whose peer is not up, or has no room for the CLASH. -/
theorem witness_EchoFaultMoves_peers : ∀ s ∈ [card .service [{ recC (.opened 3) with farSlot := 5 }],
      withPeer 3 (fun x => { x with verdicts := List.replicate 16 ⟨1, .wait⟩ }) (card .service [recA (.opened 3)])],
    s.Safe ∧ s.running = true ∧ s.records.all (fun r => r.state == .opened 3) = true := by
  intro s hs
  rcases List.mem_pair.mp hs with rfl | rfl <;> exact ⟨safe_of_agree (by decide +kernel), by decide +kernel⟩

theorem witness_HighwayFrameWatches : busy.calm := by decide +kernel

theorem witness_PositionSendsBeacon :
    let s := withQueue [.beacon] { up with line := { up.line with lastSender := 3 } }
    let d := (s.ctl.slot + 32 * s.ctl.size - (s.line.lastSender + 1)) % s.ctl.size
    s.calm ∧ 13 % (3 * s.ctl.size) = s.ctl.size + d ∧ s.ctl.st = stationOf .service ∧ s.line.muted = false ∧
      s.line.queue = .beacon :: [] ∧ s.line.flying = none ∧ (busy.calm ∧ busy.line.flying.isSome = true) := by
  decide +kernel

/-- Slot 1 with every kind of request for slot 3 possible. -/
def ready (req : Request) : State :=
  withPeer 3 (fun x => { x with rollOut := .owed, verdicts := [⟨1, .wait⟩], releases := [1] })
    (withQueue [req] (card .service [{ recA .parked with claimDue := true }, { recB .parked with rollMark := true }]))

theorem witness_PositionBuilds :
    ∀ req ∈ [Request.roll 3, .rollOffer 3, .singleOffer 3, .answer 3, .release 3],
      let s := ready req
      s.calm ∧ s.ownPosition 15 = true ∧ s.ctl.st = stationOf .service ∧ s.line.muted = false ∧ s.line.flying = none ∧
        s.line.queue = req :: [] ∧ s.releasable 3 = true ∧
        ((s.towards 3).filter (fun r => r.rollMark)).take 8 ≠ [] ∧
        ((s.towards 3).filter (fun r => r.claimDue && !r.rollMark)).take 8 ≠ [] ∧ (s.peer 3).up = true ∧
        (s.peer 3).verdicts ≠ [] ∧ (s.peer 3).releases ≠ [] := by decide +kernel

/-- A request with nothing to carry, with another behind it or alone, and with want marks for slots 3 and 6. -/
theorem witness_PositionBuilds_nothing :
    let s (req : Request) (rest : List Request) := withPeer 6 (fun x => { x with wants := { x.wants with answer := true } })
      (withPeer 3 (fun x => { x with rollOut := if req = .rollOffer 3 then .sending else x.rollOut })
        (withQueue (req :: rest) (card .service [recA (.opened 0)])))
    (∀ req ∈ [Request.roll 3, .rollOffer 3, .singleOffer 3, .answer 3, .release 3], ∀ rest ∈ [[], [Request.beacon]],
      (s req rest).calm ∧ (s req rest).ownPosition 15 = true ∧ (withQueue rest (s req rest)).ownPosition 15 = true ∧
        (s req rest).wantedInOrder = [.answer 6] ∧ (s req rest).releasable 3 = false ∧
        (∀ r ∈ (s req rest).towards 3, r.rollMark = false ∧ r.claimDue = false) ∧
        ((s req rest).peer 3).verdicts = [] ∧ ((s req rest).peer 3).releases = []) ∧
    ((s (.rollOffer 3) []).peer 3).rollOut = .sending := by decide +kernel

theorem witness_SentWhole : (up.calm ∧ up.line.flying = none) ∧
    let s := flying (.singleOffer 3) [(recA .parked).place] 0 (withQueue [.singleOffer 3] (card .relink [recA .parked]))
    s.calm ∧ s.line.flying.map (fun f => (f.req, f.carried)) = some (.singleOffer 3, [(recA .parked).place]) ∧
      recA .parked ∈ s.records ∧ s.tableOk ∧ s.running = true := by decide +kernel

/-- A ROLL and a roll OFFER on the way to a peer whose roll is SENDING, and a RELEASE of one of two tags. -/
theorem witness_SentWhole_kinds :
    let rolling := withPeer 3 (fun x => { x with rollOut := .sending })
    let marked := rolling (card .service [{ recB (.opened 0) with rollMark := true }])
    let s := flying (.roll 3) [] 0 (withQueue [.roll 3] marked)
    let o := flying (.rollOffer 3) [(recB (.opened 0)).place] 0 (withQueue [.rollOffer 3] marked)
    let l := flying (.release 3) [] 1 (withQueue [.release 3] (withPeer 3 (fun x => { x with releases := [1, 2] }) up))
    (s.calm ∧ s.line.flying.map InFlight.req = some (.roll 3) ∧ s.tableOk ∧ (s.peer 3).rollOut = .sending ∧
      s.records.any (fun r => r.farSlot == 3 && r.rollMark) = true) ∧
    (o.calm ∧ o.line.flying.map InFlight.req = some (.rollOffer 3) ∧ o.tableOk ∧ o.running = true ∧
      (o.peer 3).rollOut = .sending ∧
      ∀ r ∈ o.records, r.place ∈ [(recB (.opened 0)).place]) ∧
    (l.calm ∧ l.line.flying.map (fun f => (f.req, f.items)) = some (.release 3, 1) ∧
      (l.peer 3).releases.drop 1 ≠ []) :=
  ⟨by decide +kernel, by decide +kernel, by decide +kernel⟩

/-- A BEACON with want marks set, a roll OFFER that leaves a mark, and a single OFFER of two records with another behind. -/
theorem witness_SentWhole_more :
    let wanting := withPeer 6 (fun x => { x with wants := { x.wants with roll := true } })
    let b := flying .beacon [] 0 (wanting (withQueue [.beacon, .answer 3] up))
    let marked := withPeer 3 (fun x => { x with rollOut := .sending })
      (card .service [{ recA .parked with rollMark := true }, { recB (.opened 0) with rollMark := true }])
    let o := flying (.rollOffer 3) [0] 0 (withQueue [.rollOffer 3] marked)
    let due (n : Nat) (r : Circuit) : Circuit := { r with place := n, tag := n + 1, localPort := n, primary := n, claimDue := true }
    let q := flying (.singleOffer 3) [0, 1] 0
      (withQueue [.singleOffer 3] (card .service [due 0 (recA .parked), due 1 (recA .deferred), due 2 (recA .parked)]))
    (b.calm ∧ b.ctl.slot < b.ctl.size ∧ b.line.flying.map InFlight.req = some .beacon ∧ b.wanted (.roll 6) = true ∧ b.line.queue.tail.length ≤ 24 ∧
      b.wantedInOrder = [.roll 6] ∧ Request.roll 6 ∉ b.line.queue.tail) ∧
    (o.calm ∧ o.tableOk ∧ o.running = true ∧ (o.peer 3).rollOut = .sending ∧ [0].Nodup ∧
      ∃ r ∈ o.records, r.farSlot = 3 ∧ r.rollMark = true ∧ r.place ∉ [0]) ∧
    (q.calm ∧ q.tableOk ∧ q.running = true ∧ [0, 1].Nodup ∧ (q.peer 3).up = true ∧
      ∃ x ∈ (after .frameSentWhole q).records, x.farSlot = 3 ∧ x.claimDue = true ∧ x.rollMark = false) := by
  and_intros <;> decide +kernel

theorem witness_CollisionBacksOff : (up.calm ∧ up.line.flying = none) ∧
    let s := withPeer 3 (fun x => { x with rollOut := .sending }) (flying (.roll 3) [] 0 (withQueue [.roll 3] up))
    s.calm ∧ s.line.flying.map InFlight.req = some (.roll 3) ∧ (s.peer 3).rollOut = .sending := by decide +kernel

theorem witness_BeaconHeard : up.calm ∧ up.ctl.resetHeld = false ∧ up.relinkDone = false ∧
    up.Expects (sampleFrame [8]) ∧ up.addressable 1 = false ∧ up.addressable 8 = false ∧
    (let s := inState .strapFault up
     s.calm ∧ s.relinkDone = false ∧ s.addressable 7 = true) := by decide +kernel

theorem witness_RestartRecognised :
    let s := withPeer 5 (fun _ => { near 3 with presence := .silent })
      (withPeer 6 (fun _ => { near 2 with st := some .setup }) up)
    s.Safe ∧ (s.calm ∧ s.ctl.resetHeld = false ∧ s.relinkDone = false ∧ s.edits ∧
      (∀ p ∈ [3, 4, 5, 6], s.addressable p = true) ∧
      ((s.peer 3).presence ≠ .unheard ∧ (s.peer 3).st ≠ some .setup) ∧ (s.peer 4).presence = .unheard ∧
      ((s.peer 5).presence = .silent ∧ (s.peer 5).epoch = some 3) ∧ (s.peer 3).epoch ≠ some 8 ∧
      ((s.peer 6).presence = .present ∧ (s.peer 6).st = some .setup ∧ (s.peer 6).epoch = some 2) ∧ s.Minds ∧
      s.notices.length + (s.inClassOrder (fun r => r.farSlot == 3 && r.state != .deferred && r.state != .clashed)).length = 2) :=
  ⟨safe_of_agree (by decide +kernel), by decide +kernel⟩

/-- In SETUP a cold restart changes no record's state. -/
theorem witness_RestartRecognised_setup : let s := card .setup [recA .parked]
    s.Safe ∧ (s.calm ∧ s.ctl.resetHeld = false ∧ s.relinkDone = false ∧ s.edits ∧ s.addressable 3 = true ∧
      (s.peer 3).presence ≠ .unheard ∧ (s.peer 3).st ≠ some .setup ∧ ¬ s.Minds) :=
  ⟨safe_of_agree (by decide +kernel), by decide +kernel⟩

theorem witness_RollReceivedMarks : up.hears (sampleFrame (wordBytes 64)) ∧ up.running = true ∧
    (sampleFrame []).dst = up.ctl.slot ∧ (sampleFrame []).dst ≠ 31 ∧ up.tableOk ∧
    up.hears (sampleFrame [0x00, 0x00]) ∧
    up.inClassOrder (fun r => r.farSlot == 3 && r.state != .clashed && r.state != .refused .orphan) =
      [recA (.opened 0), recB (.opened 0)] ∧ up.notices.length + 2 ≤ 32 := by decide +kernel

/-- An OFFER with one claim from slot 3. -/
def offer (roll : Bool) (c : Claim) : LineFrame := sampleFrame (offerPayload roll [c])

/-- Slot 1 with that many verdicts pending for slot 3. -/
def room (n : Nat) (s : State) : State := withPeer 3 (fun x => { x with verdicts := List.replicate n ⟨1, .wait⟩ }) s

/-- The room check at its edges, and the verdicts on one claim. -/
theorem witness_OfferAnswered :
    let c : Claim := ⟨0x0101, 7, 40, 4⟩
    c.fits ∧ ((room 16 up).hears (offer false c) ∧ (room 16 up).tableOk ∧ 16 < ((room 16 up).peer 3).verdicts.length + 1) ∧
    ((room 15 (card .setup [])).hears (offer true c) ∧ ((room 15 (card .setup [])).peer 3).verdicts.length + 1 ≤ 16) ∧
    ((room 15 up).hears (offer false c) ∧ ((room 15 up).peer 3).verdicts.length < 16 ∧ (up.peer 3).channel = .idle) ∧
    (∃ r ∈ up.records, r.tag = c.tag ∧ r.farSlot = 3 ∧ c.claimerPort = r.farPort ∧ c.addresseePort = r.localPort ∧
      c.lane ∈ r.lanes) ∧
    (∀ r ∈ up.records, r.tag ≠ 0x0999) ∧ (∃ r ∈ up.records, r.tag = 0x0201 ∧ r.farSlot ≠ 3) := by
  and_intros <;> decide +kernel

/-- A roll-flagged claim that completes the roll. -/
theorem witness_OfferAnswered_roll :
    let s := withPeer 3 (fun x => { x with channel := .receiving 2 1 0 })
      (card .service [recA (.opened 0), { recB .confirmed with scopeMark := true }])
    s.hears (offer true ⟨0x0101, 7, 40, 4⟩) ∧ s.tableOk ∧ s.running = true ∧ (s.peer 3).channel = .receiving 2 1 0 ∧
      (s.peer 3).verdicts.length < 16 ∧ 1 + 1 = 2 := by decide +kernel

/-- An OFFER of two claims that has room. -/
theorem witness_OfferAnswered_several :
    let cs : List Claim := [⟨0x0101, 7, 40, 4⟩, ⟨0x0999, 8, 41, 5⟩]
    (up.running = true ∧ up.hears (sampleFrame (offerPayload false cs)) ∧ (∀ c ∈ cs, c.fits) ∧
      (up.peer 3).verdicts.length + cs.length ≤ 16) ∧
    ∃ u, exec (.offerReceived { sampleFrame (offerPayload false cs) with
      payload := offerPayload false [⟨0x0101, 7, 40, 4⟩] }) up = .next u :=
  ⟨by decide +kernel, _, rfl⟩

theorem witness_AnswerProcessed :
    (∀ k ∈ [VerdictKind.accept 40, .accept 41, .unknown, .mismatch, .wait, .clash],
      let v : Verdict := ⟨0x0101, k⟩
      up.hears (sampleFrame (answerPayload [v]))) ∧ up.tableOk ∧ up.running = true ∧
    (∀ r ∈ up.records, r.tag = 0x0201 → r.farSlot ≠ 3) ∧
    (∀ st ∈ [Relink.clashed, .refused .unknown, .opened 0, .parked], recA st ∈ (card .service [recA st]).records ∧
      (card .service [recA st]).hears (sampleFrame (answerPayload [⟨0x0101, .wait⟩]))) := by
  and_intros <;> decide +kernel

theorem verdict_fits (tag lane : Nat) (ht : tag < 65536) (hl : lane < 65536) : Verdict.fits ⟨tag, .accept lane⟩ :=
  ⟨ht, fun _ h => VerdictKind.accept.inj h ▸ hl⟩

/-- An ANSWER of two verdicts. -/
theorem witness_AnswerProcessed_several :
    let v : Verdict := ⟨0x0101, .accept 40⟩
    let vs : List Verdict := [⟨0x0102, .accept 65535⟩]
    (up.tableOk ∧ up.hears (sampleFrame (answerPayload (v :: vs))) ∧ up.running = true ∧ vs ≠ [] ∧ vs.length < 8) ∧
      (∀ x ∈ v :: vs, x.fits) ∧
      ∃ u, exec (.answerReceived { sampleFrame (answerPayload (v :: vs)) with payload := answerPayload [v] }) up = .next u :=
  ⟨by decide +kernel, fun x h => by
    rcases List.mem_pair.mp h with rfl | rfl <;> exact verdict_fits _ _ (by decide) (by decide), _, rfl⟩

/-- A RELEASE of two records, one of them named twice, while the roll to its source is SENDING. -/
theorem witness_ReleaseRemoves : let tags := [0x0101, 0x0102, 0x0101]
    let f := sampleFrame (releasePayload tags)
    let s := withPeer 3 (fun x => { x with rollOut := .sending }) up
    s.Safe ∧ (s.hears f ∧ s.running = true ∧ f.dst = s.ctl.slot ∧ f.dst ≠ 31 ∧ 1 ≤ tags.length ∧ tags.length ≤ 8 ∧
      (∀ g ∈ tags, g < 65536) ∧ s.notices.length + 2 ≤ 32 ∧ (s.peer 3).rollOut = .sending ∧
      tags.eraseDups.filterMap (fun g => s.records.find? (fun r => r.tag == g && r.farSlot == 3)) =
        [recA (.opened 0), recB (.opened 0)]) :=
  ⟨safe_of_agree (by decide +kernel), by decide +kernel⟩

theorem witness_FramesNotTaken :
    (∀ f ∈ [{ sampleFrame [8] with dst := 2 }, sampleFrame [], { sampleFrame [8] with dst := 31 },
      sampleFrame (wordBytes 65), sampleFrame [1, 0, 0, 0, 0], sampleFrame (List.replicate 42 0),
      sampleFrame [0, 1, 6, 0, 0], sampleFrame [0, 1, 2]], up.hears f) ∧
    5 < (6 : Byte).toNat ∧ (quiesced .service up).hears (sampleFrame [0, 2]) ∧ (quiesced .service up).running = false ∧
    ¬ (quiesced .service up).edits ∧ (card .setup []).hears (sampleFrame [0, 2]) ∧
    ([0, 1, 6, 0, 0] : List Byte)[5 * 0 + 2]? = some 6 ∧
    frameGood [4, 3, 1, 9, 0xC0, 0, 0] = false ∧ up.calm := by decide +kernel

theorem witness_LampPeriods : up.calm ∧ up.lamp.mode = .off ∧ State.reset.calm ∧ State.reset.lamp.mode = .fast ∧
    ({ up with lamp := ⟨.progress 16, 0⟩ }).calm := by decide +kernel

/-- A state that a step leads on from. -/
def waiting : State := { busy with pending := [.sweep] }

theorem witness_LimitsKept : waiting.queueOk ∧ waiting.line.countsOk ∧ waiting.noticesOk ∧ waiting.supplyOk ∧
    ∃ t, step waiting = .next t := ⟨by decide +kernel, by decide +kernel, by decide +kernel, by decide +kernel, _, rfl⟩

theorem witness_TableKept : waiting.tableOk ∧ waiting.closeEdit.sumZero = true ∧
    (∀ a b rest, waiting.pending = .start a b :: rest → b = .none) ∧ ∃ t, step waiting = .next t :=
  ⟨by decide +kernel, by decide +kernel, (by intro a b rest h; cases h), _, rfl⟩

/-- Beyond the Peer Table every slot reads as its start values. -/
theorem absentOk_of_table {s : State} (h : s.peers.length = 24) (h0 : ∀ p < 24,
    (s.ctl.resetHeld = true ∨ s.addressable p = false) → s.peer p = Peer.start) : s.absentOk := by
  intro p hp
  by_cases hlt : p < 24
  · exact h0 p hlt hp
  · simp [State.peer, List.getD_eq_getElem?_getD, h, Nat.not_lt.mp hlt]

theorem witness_PeersKept : waiting.peersOk ∧ waiting.absentOk ∧ (waiting.tableOk ∧ waiting.scopeOk ∧ waiting.slotOk) ∧
    ∃ t, step waiting = .next t :=
  ⟨by decide +kernel, absentOk_of_table (by decide +kernel) (by decide +kernel), by decide +kernel, _, rfl⟩

theorem witness_PaceAndProbesKept : (waiting.tableOk ∧ waiting.paceOk) ∧ waiting.probesOk ∧ waiting.setupOk ∧
    (card .setup (shelf .parked .parked .parked)).setupOk ∧ ∃ t, step waiting = .next t :=
  ⟨by decide +kernel, probesOk_of_agree (by decide +kernel), (by intro h; exact absurd h (by decide +kernel)),
    fun _ r h => .inl ((by decide +kernel : ∀ r ∈ shelf .parked .parked .parked, r.state = .parked) r h), _, rfl⟩

theorem witness_ListsCarried : waiting.listsCarried ∧ ∃ t, step waiting = .next t := by
  refine ⟨⟨by decide +kernel, ?_, ?_, ?_⟩, _, rfl⟩
  · intro f h _
    injection h with h
    subst h; rfl
  · intro p h
    exact absurd (if hp : p < 24 then (show ∀ q < 24, (waiting.peer q).verdicts = [] by decide +kernel) p hp
      else by simp [State.peer, List.getD_eq_getElem?_getD, show waiting.peers.length = 24 by decide +kernel,
        Nat.not_lt.mp hp, Peer.start]) h
  · intro p h
    exact absurd (if hp : p < 24 then (show ∀ q < 24, (waiting.peer q).releases = [] by decide +kernel) p hp
      else by simp [State.peer, List.getD_eq_getElem?_getD, show waiting.peers.length = 24 by decide +kernel,
        Nat.not_lt.mp hp, Peer.start]) h

theorem witness_LampFollows : waiting.lampOk ∧ ∃ t, step waiting = .next t := by
  refine ⟨?_, _, rfl⟩
  rw [State.lampOk, if_neg (by decide +kernel), if_neg (by decide +kernel), if_neg (by decide +kernel),
    if_neg (by decide +kernel)]
  decide +kernel

theorem witness_CommandRecordsReadBack :
    (CardCommand.provision ⟨65535, 255, 255, 255, 65535, 255, 65535, 255, 255⟩).fits = true ∧
      (CardCommand.configure ⟨255, 255, 255, 255, 255, 65535⟩).fits = true ∧ (CardCommand.setPace 65535 255).fits = true := by
  decide

theorem witness_FramesReadBack : Claim.fits ⟨65535, 63, 1023, 63⟩ ∧ Verdict.fits ⟨65535, .accept 65535⟩ ∧
    (List.replicate 8 (⟨65535, 63, 1023, 63⟩ : Claim)).length ≤ 8 ∧ (List.replicate 48 (0xFF : Byte)).length ≤ 48 := by
  exact ⟨by decide, verdict_fits _ _ (by decide) (by decide), by decide⟩

end Sys2Proof.Tests
end

section
/-! Which operations of the model keep the Retention Store as it is, and which change no more of it than clash marks, a
removal and the check word: the relation `State.Tends`, one rule per operation. -/

namespace Sys2Proof.Machine

/-! ### What a record keeps for good -/

/-- The retained fields of a record that no event but its provisioning sets, with its place (R1, R4). -/
def Circuit.ident (r : Circuit) : Nat × Fixed := (r.place, r.toFixed)

theorem Circuit.inRange.sendCount_le {r : Circuit} (h : r.inRange) : r.sendCount ≤ 4 := by
  obtain ⟨_, _, _, _, _, _, _, hsend, _⟩ := h
  exact hsend

theorem Circuit.inRange.sweepsSinceSend_le {r : Circuit} (h : r.inRange) : r.sweepsSinceSend ≤ 6 := by
  obtain ⟨_, _, _, _, _, _, _, _, hsince, _⟩ := h
  exact hsince

theorem Circuit.inRange.standby_isSome {r : Circuit} (h : r.inRange) (hlane : r.inUse = .standby) :
    r.standby.isSome := by
  obtain ⟨_, _, _, _, _, _, _, _, _, hstandby⟩ := h
  exact hstandby hlane

/-- A record whose provisioned fields are in range is in range when its counters and its in-use lane are. -/
theorem Circuit.inRange.of_ident {r x : Circuit} (h : r.inRange) (hx : x.ident = r.ident) (hsend : x.sendCount ≤ 4)
    (hsince : x.sweepsSinceSend ≤ 6) (hlane : x.inUse = .standby → r.standby.isSome) : x.inRange := by
  obtain ⟨hplace, hfixed⟩ := Prod.mk.inj hx
  obtain ⟨place, tag, port, far, lanes, cls, weight, _⟩ := h
  rw [← hplace] at place
  simp only [Circuit.lanes, ← hfixed] at tag port far lanes cls weight hlane
  exact ⟨place, tag, port, far, lanes, cls, weight, hsend, hsince, hlane⟩

section Table

variable {s : State} {r x : Circuit}

theorem State.tableOk.inRange (ok : s.tableOk) (hr : r ∈ s.records) : r.inRange := by
  obtain ⟨_, _, _, _, _, range⟩ := ok
  exact range r hr

/-- A place holds one record (R4). -/
theorem State.tableOk.place_eq_iff (ok : s.tableOk) (hx : x ∈ s.records) (hr : r ∈ s.records) :
    x.place = r.place ↔ x = r := by
  obtain ⟨_, _, _, places, _⟩ := ok
  exact ⟨List.inj_on_of_nodup_map places hx hr, fun e => e ▸ rfl⟩

/-- A tag is held once (R1). -/
theorem State.tableOk.tag_eq_iff (ok : s.tableOk) (hx : x ∈ s.records) (hr : r ∈ s.records) :
    x.tag = r.tag ↔ x = r := by
  obtain ⟨_, tags, _⟩ := ok
  exact ⟨List.inj_on_of_nodup_map tags hx hr, fun e => e ▸ rfl⟩

end Table

/-- The words a record adds to the content sum are those of its retained fields (R13). -/
theorem circuitWords_of_retained {r x : Circuit} (h : r.retained = x.retained) : circuitWords r = circuitWords x := by
  obtain ⟨hplace, hfixed, hmark⟩ : r.place = x.place ∧ r.toFixed = x.toFixed ∧ r.clashMark = x.clashMark := by
    simpa [Circuit.retained] using h
  simp [circuitWords, hplace, hfixed, hmark]

/-- The records' part of the content sum reads the retained fields alone. -/
theorem flatMap_circuitWords_congr {xs ys : List Circuit} (h : ys.map Circuit.retained = xs.map Circuit.retained) :
    ys.flatMap circuitWords = xs.flatMap circuitWords := by
  have words : ys.map circuitWords = xs.map circuitWords := by
    induction ys generalizing xs with
    | nil => simp_all
    | cons y ys ih =>
      cases xs with
      | nil => simp at h
      | cons x xs =>
        obtain ⟨hhead, htail⟩ := List.cons.inj h
        rw [List.map_cons, List.map_cons, circuitWords_of_retained hhead, ih htail]
  rw [List.flatMap_def, List.flatMap_def, words]

/-- Two states with the same retained content have the same verdict on its sum (R13). -/
theorem State.sumZero_congr {s t : State} (hr : t.records.map Circuit.retained = s.records.map Circuit.retained)
    (hs : t.store = s.store) : t.sumZero = s.sumZero := by
  simp only [State.sumZero, State.contentSum, State.retainedWords, flatMap_circuitWords_congr hr, hs]

/-! ### The relation -/

/-- From `s` to `t` records may have left the table, and of the Retention Store no more than clash marks and the check
word has changed; the table stays within its ranges and the sum of the content, where it was zero, is zero. -/
structure State.Tends (s t : State) : Prop where
  kept : (t.records.map Circuit.ident).Sublist (s.records.map Circuit.ident)
  range : s.tableOk → ∀ r ∈ t.records, r.inRange
  store : ∃ word, t.store = { s.store with checkWord := word }
  sum : s.sumZero = true → t.sumZero = true

/-- A record's fields that PROVISION fixes are a function of its retained identity. -/
theorem map_ident {α : Type} (g : Nat × Fixed → α) (rs : List Circuit) :
    rs.map (fun r => g r.ident) = (rs.map Circuit.ident).map g := by
  simp

/-- The table stays within its limits: what has not left it keeps its tag, port, place and lanes. -/
theorem State.Tends.tableOk {s t : State} (h : s.Tends t) (ok : s.tableOk) : t.tableOk := by
  obtain ⟨hlen, htag, hport, hplace, hlane, _⟩ := ok
  have sub {α : Type} (g : Nat × Fixed → α) :
      (t.records.map (fun r => g r.ident)).Sublist (s.records.map (fun r => g r.ident)) := by
    rw [map_ident, map_ident]; exact h.kept.map g
  have lanes : (t.records.flatMap Circuit.lanes).Sublist (s.records.flatMap Circuit.lanes) := by
    rw [List.flatMap_def, List.flatMap_def]
    exact (sub (fun x => x.2.primary :: x.2.standby.toList)).flatten
  refine ⟨?_, htag.sublist (sub (·.2.tag)), hport.sublist (sub (·.2.localPort)), hplace.sublist (sub (·.1)),
    hlane.sublist lanes, h.range ⟨hlen, htag, hport, hplace, hlane, ‹_›⟩⟩
  have := h.kept.length_le
  simp only [List.length_map] at this
  omega

theorem State.Tends.refl (s : State) : s.Tends s :=
  ⟨List.Sublist.refl _, fun ok _ => ok.inRange, ⟨s.store.checkWord, rfl⟩, id⟩

theorem State.Tends.trans {s t u : State} (h : s.Tends t) (k : t.Tends u) : s.Tends u := by
  obtain ⟨w, hw⟩ := h.store
  obtain ⟨v, hv⟩ := k.store
  exact ⟨k.kept.trans h.kept, fun ok => k.range (h.tableOk ok), ⟨v, by rw [hv, hw]⟩, k.sum ∘ h.sum⟩

section Rules

variable {s t u : State}

/-- An operation that touches neither the records nor the Retention Store. -/
theorem State.Tends.frame (h : s.Tends t) (hr : u.records = t.records) (hs : u.store = t.store) : s.Tends u :=
  h.trans ⟨by rw [hr], fun ok _ hx => ok.inRange (hr ▸ hx), ⟨t.store.checkWord, by rw [hs]⟩,
    fun z => (State.sumZero_congr (by rw [hr]) hs).trans z⟩

/-- An edit of the table that ends with its check word (R13). -/
theorem State.Tends.closed (h : s.Tends t) (hkept : (u.records.map Circuit.ident).Sublist (t.records.map Circuit.ident))
    (hrange : t.tableOk → ∀ r ∈ u.records, r.inRange) (hs : u.store = t.store) : s.Tends u.closeEdit :=
  h.trans ⟨hkept, hrange, ⟨(u.closeEdit).store.checkWord, by simp [State.closeEdit, hs]⟩, fun _ => u.closeEdit_sumZero⟩

/-- An edit that changes clash marks and relink fields and ends with its check word (R13, R24). -/
theorem State.Tends.edited (h : s.Tends t) (f : Circuit → Circuit) (hf : ∀ r, (f r).ident = r.ident)
    (hrange : ∀ r : Circuit, r.inRange → (f r).inRange) (hr : u.records = t.records.map f) (hs : u.store = t.store) :
    s.Tends u.closeEdit := by
  have ident : u.records.map Circuit.ident = t.records.map Circuit.ident := by
    rw [hr, List.map_map]
    exact List.map_congr_left fun r _ => hf r
  refine h.closed (by rw [ident]) (fun ok x hx => ?_) hs
  rw [hr] at hx
  obtain ⟨r, hmem, rfl⟩ := List.mem_map.mp hx
  exact hrange r (ok.inRange hmem)

/-- A change of the relink fields of some records, within their ranges. -/
theorem State.Tends.relink (h : s.Tends t) (f : Circuit → Circuit) (hf : ∀ r, (f r).retained = r.retained)
    (hrange : s.tableOk → ∀ r ∈ t.records, r.inRange → (f r).inRange) (hr : u.records = t.records.map f)
    (hs : u.store = t.store) : s.Tends u := by
  have retained : u.records.map Circuit.retained = t.records.map Circuit.retained := by
    simp [hr, hf]
  have ident : u.records.map Circuit.ident = t.records.map Circuit.ident := by
    have := congrArg (List.map (fun x => (x.1, x.2.1))) retained
    rwa [List.map_map, List.map_map] at this
  refine ⟨by rw [ident]; exact h.kept, fun ok x hx => ?_, by rw [hs]; exact h.store,
    fun z => (State.sumZero_congr retained hs).trans (h.sum z)⟩
  rw [hr] at hx
  obtain ⟨r, hmem, rfl⟩ := List.mem_map.mp hx
  exact hrange ok r hmem (h.range ok r hmem)

theorem State.Tends.mapRec (h : s.Tends t) {p : Nat} {f : Circuit → Circuit} (hf : ∀ r, (f r).retained = r.retained)
    (hrange : s.tableOk → ∀ r ∈ t.records, r.place = p → r.inRange → (f r).inRange) : s.Tends (t.mapRec p f) :=
  h.relink (fun r => if r.place = p then f r else r) (fun r => by split <;> simp [hf])
    (fun ok r hmem hr => by split <;> [exact hrange ok r hmem ‹_› hr; exact hr]) rfl rfl

theorem State.Tends.mapTowards (h : s.Tends t) {p : Nat} {f : Circuit → Circuit} (hf : ∀ r, (f r).retained = r.retained)
    (hrange : ∀ r : Circuit, r.inRange → (f r).inRange) : s.Tends (t.mapTowards p f) :=
  h.relink (fun r => if r.farSlot = p then f r else r) (fun r => by split <;> simp [hf])
    (fun _ r _ hr => by split <;> [exact hrange r hr; exact hr]) rfl rfl

theorem State.Tends.ite {c : Prop} [Decidable c] (ht : s.Tends t) (hu : s.Tends u) : s.Tends (if c then t else u) := by
  split <;> assumption

/-- What every turn of a walk tends, the walk tends. -/
theorem State.Tends.each {α : Type} (h : s.Tends t) {xs : List α} {f : α → State → State}
    (hf : ∀ x (u : State), u.Tends (f x u)) : s.Tends (t.each xs f) := by
  induction xs generalizing t with
  | nil => exact h
  | cons x xs ih => exact ih (h.trans (hf x t))

/-! ### Blocks beside the table -/

theorem State.Tends.raise (h : s.Tends t) {f : EventFlag} : s.Tends (t.raise f) := h.frame rfl rfl
theorem State.Tends.raiseIf (h : s.Tends t) {c : Bool} {f : EventFlag} : s.Tends (t.raiseIf c f) :=
  h.frame (by simp) (by simp)
theorem State.Tends.post (h : s.Tends t) {k : NoticeKind} {r : Circuit} : s.Tends (t.post k r) :=
  h.frame (by simp) (by simp)
theorem State.Tends.postIf (h : s.Tends t) {c : Bool} {k : NoticeKind} {r : Circuit} : s.Tends (t.postIf c k r) :=
  h.frame (by simp) (by simp)
theorem State.Tends.updPeer (h : s.Tends t) {p : Nat} {f : Peer → Peer} : s.Tends (t.updPeer p f) := h.frame rfl rfl
theorem State.Tends.request (h : s.Tends t) {req : Request} : s.Tends (t.request req) := h.frame (by simp) (by simp)
theorem State.Tends.announce (h : s.Tends t) : s.Tends t.announce := h.frame (by simp) (by simp)
theorem State.Tends.credit (h : s.Tends t) {n : Nat} : s.Tends (t.credit n) := h.frame rfl rfl
theorem State.Tends.judgeLamp (h : s.Tends t) : s.Tends t.judgeLamp := h.frame (by simp) (by simp)
theorem State.Tends.judgeEnd (h : s.Tends t) : s.Tends t.judgeEnd := h.frame (by simp) (by simp)
theorem State.Tends.setStation (h : s.Tends t) {x : StationState} : s.Tends (t.setStation x) :=
  h.frame (by simp) (by simp)
theorem State.Tends.cancelProbe (h : s.Tends t) {r : Circuit} : s.Tends (t.cancelProbe r) :=
  h.frame (by simp) (by simp)
theorem State.Tends.checkSingle (h : s.Tends t) {p : Nat} : s.Tends (t.checkSingle p) := h.frame (by simp) (by simp)
theorem State.Tends.pass (h : s.Tends t) {p : Nat} : s.Tends (t.pass p) := h.frame (by simp) (by simp)
theorem State.Tends.appendVerdict (h : s.Tends t) {p : Nat} {v : Verdict} : s.Tends (t.appendVerdict p v) :=
  h.frame (by simp) (by simp)

theorem State.Tends.unsolicitedClash (h : s.Tends t) {r : Circuit} : s.Tends (t.unsolicitedClash r) :=
  h.frame (by simp) (by simp)
theorem State.Tends.passAll (h : s.Tends t) : s.Tends t.passAll := h.frame (by simp) (by simp)
theorem State.Tends.resumeTimer (h : s.Tends t) : s.Tends t.resumeTimer := h.frame (by simp) (by simp)
theorem State.Tends.startCount (h : s.Tends t) : s.Tends t.startCount := h.frame rfl rfl
theorem State.Tends.stopTimer (h : s.Tends t) : s.Tends t.stopTimer := h.frame rfl rfl
theorem State.Tends.setQueue (h : s.Tends t) {q : List Request} : s.Tends (t.setQueue q) := h.frame rfl rfl
theorem State.Tends.emptyLists (h : s.Tends t) {p : Nat} : s.Tends (t.emptyLists p) := h.frame (by simp) (by simp)
theorem State.Tends.dropRequests (h : s.Tends t) {p : Nat} : s.Tends (t.dropRequests p) := h.frame (by simp) (by simp)

/-! ### Relink states (2.2) -/

/-- A mark or a counter of a record changes within its range. -/
theorem Circuit.enter_inRange {new : Relink} {due : Bool} {sends : Nat} (hs : sends ≤ 4) {r : Circuit} (h : r.inRange) :
    (r.enter new due sends).inRange := by
  refine h.of_ident rfl ?_ (Nat.zero_le _) h.standby_isSome
  simp only [Circuit.enter]
  split <;> omega

theorem State.Tends.markClash (h : s.Tends t) {p : Nat} : s.Tends (t.markClash p) := by
  have pending : s.Tends (t.mapRec p (fun r => { r with clashPending := true })) :=
    h.mapRec (fun _ => rfl) (fun _ _ _ _ hr => hr)
  exact pending.ite (h.edited _ (fun r => by split <;> rfl) (fun r hr => by split <;> exact hr)
    (State.mapRec_records _ _ _) rfl)

theorem State.Tends.enter (h : s.Tends t) {p : Nat} {new : Relink} {due : Bool} {sends : Nat} (hs : sends ≤ 4) :
    s.Tends (t.enter p new due sends) := by
  have moved : s.Tends (t.mapRec p (fun r => r.enter new due sends)) :=
    h.mapRec (fun _ => rfl) (fun _ _ _ _ => Circuit.enter_inRange hs)
  exact (moved.markClash.ite moved).judgeLamp

theorem State.Tends.moveTo (h : s.Tends t) {r : Circuit} {new : Relink} {due : Bool} {sends : Nat} (hs : sends ≤ 4) :
    s.Tends (t.moveTo r new due sends) := h.cancelProbe.enter hs

theorem State.Tends.startProbe (h : s.Tends t) {r : Circuit} {k : Nat} : s.Tends (t.startProbe r k) := by
  unfold State.startProbe
  refine State.Tends.enter ?_ (Nat.zero_le 4)
  exact h.frame rfl rfl

theorem State.Tends.attemptTurns (h : s.Tends t) (n : Nat) : s.Tends (t.attemptTurns n) := by
  induction n generalizing t with
  | zero => exact h
  | succ n ih =>
    unfold State.attemptTurns
    split
    · exact (ih h.startProbe).ite h
    · exact h

theorem State.Tends.attempt (h : s.Tends t) : s.Tends t.attempt := (h.attemptTurns 4).ite h

theorem State.Tends.settleChange (h : s.Tends t) {cause : Bool} : s.Tends (t.settleChange cause) :=
  (h.attempt.ite h).judgeEnd

/-- A removal takes a record out of the table as one edit (R9). -/
theorem State.Tends.removeRecord (h : s.Tends t) {r : Circuit} : s.Tends (t.removeRecord r) := by
  unfold State.removeRecord
  refine State.Tends.judgeLamp (h.closed ?_ (fun ok x hx => ok.inRange ?_) (by simp))
  · simpa using List.Sublist.map _ List.filter_sublist
  · simp only [State.mapFlying_keeps, State.cancelProbe_keeps] at hx
    exact List.mem_of_mem_filter hx

/-! ### Pending lists and marks -/

theorem State.Tends.clearRollMarks (h : s.Tends t) {p : Nat} : s.Tends (t.clearRollMarks p) :=
  h.mapTowards (fun _ => rfl) (fun _ hr => hr)
theorem State.Tends.clearScopeMarks (h : s.Tends t) {p : Nat} : s.Tends (t.clearScopeMarks p) :=
  h.mapTowards (fun _ => rfl) (fun _ hr => hr)
theorem State.Tends.setRollOut (h : s.Tends t) {p : Nat} {x : RollOut} : s.Tends (t.setRollOut p x) := h.updPeer

theorem State.Tends.restartRoll (h : s.Tends t) {p : Nat} : s.Tends (t.restartRoll p) :=
  h.clearRollMarks.setRollOut.pass.checkSingle.ite h

/-! ### Causes that act on one record (chapters 2 and 4) -/

/-- What is found in a place stands in the table, in that place. -/
theorem State.mem_of_findPlace {p : Nat} {r : Circuit} (h : s.findPlace p = some r) : r ∈ s.records ∧ r.place = p := by
  unfold State.findPlace at h
  exact ⟨List.mem_of_find?_eq_some h, by simpa using List.find?_some h⟩

/-- What is found by its tag stands in the table, under that tag. -/
theorem State.mem_of_findTag {tag : Nat} {r : Circuit} (h : s.findTag tag = some r) : r ∈ s.records ∧ r.tag = tag := by
  unfold State.findTag at h
  exact ⟨List.mem_of_find?_eq_some h, by simpa using List.find?_some h⟩

theorem State.mem_of_findTowards {tag p : Nat} {r : Circuit} (h : s.findTowards tag p = some r) : r ∈ s.records := by
  unfold State.findTowards at h
  split at h
  · split at h
    · cases h; exact (State.mem_of_findTag ‹_›).1
    · cases h
  · cases h

/-- Class order lists records of the table. -/
theorem State.mem_of_mem_classOrder {r : Circuit} (h : r ∈ s.classOrder) : r ∈ s.records := by
  simp only [State.classOrder, State.classList, List.mem_append, List.mem_filter] at h
  tauto

/-- A record stays the same circuit while it stays in its place. -/
theorem State.Tends.fixed_of_place (h : s.Tends t) (ok : s.tableOk) {r x : Circuit} (hr : r ∈ s.records)
    (hx : x ∈ t.records) (hp : x.place = r.place) : x.toFixed = r.toFixed := by
  obtain ⟨y, hy, hyx⟩ := List.mem_map.mp (h.kept.subset (List.mem_map_of_mem hx))
  obtain ⟨hplace, hfixed⟩ := Prod.mk.inj hyx
  obtain rfl := (ok.place_eq_iff hy hr).mp (hplace.trans hp)
  exact hfixed.symm

/-- The in-use lane of a record of the table is written: STANDBY only where there is a standby lane. -/
theorem State.Tends.setLane (h : s.Tends t) {r : Circuit} (hr : r ∈ s.records) {lane : InUse}
    (hl : r.inRange → lane = .standby → r.standby.isSome) :
    s.Tends (t.mapRec r.place (fun x => { x with inUse := lane })) := by
  refine h.mapRec (fun _ => rfl) (fun ok x hx hp hrange => ?_)
  have hfixed := h.fixed_of_place ok hr hx hp
  exact hrange.of_ident rfl hrange.sendCount_le hrange.sweepsSinceSend_le (fun e => hfixed ▸ hl (ok.inRange hr) e)

theorem State.Tends.deferPlace (h : s.Tends t) {cond : Relink → Bool} {p : Nat} : s.Tends (t.deferPlace cond p) := by
  unfold State.deferPlace
  split
  · exact h
  · exact (h.moveTo (Nat.zero_le 4)).post.settleChange.ite h

theorem State.Tends.deferMany (h : s.Tends t) {cond : Relink → Bool} {rs : List Circuit} :
    s.Tends (t.deferMany cond rs) := h.raiseIf.each (fun _ u => (State.Tends.refl u).deferPlace)

theorem State.Tends.claimSent (h : s.Tends t) {roll : Bool} {p : Nat} : s.Tends (t.claimSent roll p) := by
  unfold State.claimSent
  split
  · exact h
  · have marked : s.Tends (t.mapRec p
        (fun x => { x with claimDue := false, rollMark := if roll then false else x.rollMark })) :=
      h.mapRec (fun _ => rfl) (fun _ _ _ _ hr => hr)
    dsimp only
    split
    case h_1 | h_2 | h_3 => exact (marked.enter (by decide)).settleChange
    case h_4 =>
      refine marked.mapRec (fun _ => rfl) (fun _ x _ _ hx => ?_)
      refine hx.of_ident rfl ?_ (Nat.zero_le _) hx.standby_isSome
      simp only [satSucc]
      split <;> omega
    case h_5 | h_6 | h_7 | h_8 => exact marked

theorem State.Tends.agree (h : s.Tends t) {lane : InUse} {r : Circuit} (hr : r ∈ s.records)
    (hl : r.inRange → lane = .standby → r.standby.isSome) : s.Tends (t.agree lane r) := by
  exact ((h.setLane hr hl).ite ((h.setLane hr hl).moveTo (Nat.zero_le 4))).postIf

theorem State.Tends.refuse (h : s.Tends t) {c : Cause} {r : Circuit} : s.Tends (t.refuse c r) :=
  (h.raise.moveTo (Nat.zero_le 4)).post

theorem State.Tends.clash (h : s.Tends t) {r : Circuit} : s.Tends (t.clash r) :=
  (h.raise.moveTo (Nat.zero_le 4)).post

theorem State.Tends.laneFault (h : s.Tends t) {r : Circuit} (hr : r ∈ s.records) : s.Tends (t.laneFault r) := by
  unfold State.laneFault
  split
  · have moved := (h.setLane (lane := .standby) hr (fun _ _ => ‹_ ∧ _›.1)).post (k := .laneMoved) (r := r)
    exact (moved.enter (Nat.zero_le 4)).checkSingle.ite (moved.enter (Nat.zero_le 4)).raise
  · exact (h.enter (Nat.zero_le 4)).raise.post.unsolicitedClash

theorem State.Tends.completeProbe (h : s.Tends t) {pr : Probe} : s.Tends (t.completeProbe pr) := by
  refine h.trans ?_
  have freed : t.Tends (t.freeProbe pr.place) := (State.Tends.refl t).frame rfl rfl
  unfold State.completeProbe
  dsimp only
  split
  · exact freed
  · rename_i r hfind
    exact (freed.credit.laneFault (State.mem_of_findPlace hfind).1).settleChange.ite
      (freed.enter (Nat.zero_le 4)).post.settleChange

/-! ### Claims and rolls received -/

/-- Lane convergence chooses the standby lane of a record that has one (R29). -/
theorem converge_standby {c : Claim} {r : Circuit} (hr : r.inRange) (h : converge c r = .standby) :
    r.standby.isSome := by
  unfold converge at h
  split at h
  · rename_i hcase
    rcases hcase with hs | hs
    · simp [hs]
    · exact hr.standby_isSome hs
  · cases h

/-- A lane value names STANDBY for a record with a standby lane (R33). -/
theorem Circuit.laneNamed_standby {lane : Nat} {r : Circuit} (h : r.laneNamed lane = some .standby) :
    r.standby.isSome := by
  unfold Circuit.laneNamed at h
  split at h
  · cases h
  · split at h
    · simp [*]
    · cases h

theorem State.Tends.claimMatched (h : s.Tends t) {p : Nat} {c : Claim} {r : Circuit} (hr : r ∈ s.records) :
    s.Tends (t.claimMatched p c r) :=
  h.appendVerdict.ite (h.agree hr (fun hrange => converge_standby hrange)).appendVerdict.settleChange

theorem State.Tends.claimMismatched (h : s.Tends t) {p : Nat} {c : Claim} {r : Circuit} :
    s.Tends (t.claimMismatched p c r) := h.refuse.appendVerdict.settleChange.ite h.appendVerdict

/-- Clearing or setting a scope mark changes nothing that is retained. -/
theorem State.Tends.clearScopeMark (h : s.Tends t) {p : Nat} :
    s.Tends (t.mapRec p (fun x => { x with scopeMark := false })) := h.mapRec (fun _ => rfl) (fun _ _ _ _ hr => hr)

theorem State.Tends.orphanPlace (h : s.Tends t) {p : Nat} : s.Tends (t.orphanPlace p) := by
  unfold State.orphanPlace
  split
  · exact h
  · exact ((h.clearScopeMark.moveTo (Nat.zero_le 4)).post.settleChange.ite h.clearScopeMark).ite h

theorem State.Tends.completeRoll (h : s.Tends t) {p : Nat} : s.Tends (t.completeRoll p) :=
  h.updPeer.raiseIf.each (fun _ u => (State.Tends.refl u).orphanPlace)

theorem State.Tends.countClaim (h : s.Tends t) {p : Nat} : s.Tends (t.countClaim p) := by
  unfold State.countClaim
  split
  · exact h
  · exact h.updPeer.completeRoll.ite h.updPeer

theorem State.Tends.answerClaim (h : s.Tends t) {p : Nat} {c : Claim} : s.Tends (t.answerClaim p c) := by
  refine h.trans ?_
  have start := State.Tends.refl t
  unfold State.answerClaim
  split
  · exact start.appendVerdict
  · rename_i r hfind
    have found := start.clearScopeMark (p := r.place)
    exact start.appendVerdict.ite
      (found.claimMismatched.ite (found.claimMatched (State.mem_of_findTag hfind).1))

theorem State.Tends.takeClaim (h : s.Tends t) {p : Nat} {roll : Bool} {c : Claim} : s.Tends (t.takeClaim p roll c) :=
  h.appendVerdict.ite (h.answerClaim.countClaim.ite h.answerClaim)

theorem State.Tends.takeOffer (h : s.Tends t) {p : Nat} {roll : Bool} {cs : List Claim} :
    s.Tends (t.takeOffer p roll cs) := (h.each (fun _ u => (State.Tends.refl u).takeClaim)).ite h.updPeer

theorem State.Tends.takeRoll (h : s.Tends t) {p n : Nat} : s.Tends (t.takeRoll p n) := by
  have marked : s.Tends ((t.updPeer p (fun x => { x with channel := .receiving n 0 0 })).mapTowards p
      (fun r => { r with scopeMark := r.state != .clashed })) :=
    h.updPeer.mapTowards (fun _ => rfl) (fun _ hr => hr)
  exact marked.completeRoll.ite marked

/-! ### Verdicts and releases received -/

theorem State.Tends.verdictRefuse (h : s.Tends t) {c : Cause} {r : Circuit} : s.Tends (t.verdictRefuse c r) :=
  h.refuse.settleChange.ite h

theorem State.Tends.verdictAccept (h : s.Tends t) {lane : Nat} {r : Circuit} (hr : r ∈ s.records) :
    s.Tends (t.verdictAccept lane r) := by
  unfold State.verdictAccept
  split
  · exact h.verdictRefuse
  · rename_i named
    exact h.ite (h.agree hr (fun _ e => Circuit.laneNamed_standby (e ▸ named))).settleChange

theorem State.Tends.verdictWait (h : s.Tends t) {r : Circuit} : s.Tends (t.verdictWait r) :=
  (h.raise.moveTo (Nat.zero_le 4)).post.settleChange.ite h

theorem State.Tends.verdictClash (h : s.Tends t) {r : Circuit} : s.Tends (t.verdictClash r) :=
  h.ite h.clash.settleChange

theorem State.Tends.takeVerdict (h : s.Tends t) {p : Nat} {v : Verdict} : s.Tends (t.takeVerdict p v) := by
  refine h.trans ?_
  have start := State.Tends.refl t
  unfold State.takeVerdict
  split
  · exact start.frame rfl rfl
  · rename_i r hfind
    split
    · exact start.verdictAccept (State.mem_of_findTowards hfind)
    · exact start.verdictRefuse
    · exact start.verdictRefuse
    · exact start.verdictWait
    · exact start.verdictClash

theorem State.Tends.takeRelease (h : s.Tends t) {p tag : Nat} : s.Tends (t.takeRelease p tag) := by
  unfold State.takeRelease
  split
  · exact h
  · exact h.removeRecord.post.restartRoll.settleChange

/-! ### Peers heard and peers silent (chapter 3) -/

theorem State.Tends.oweRoll (h : s.Tends t) {p : Nat} : s.Tends (t.oweRoll p) := (h.clearRollMarks.ite h).setRollOut

theorem State.Tends.coldRestart (h : s.Tends t) {p : Nat} : s.Tends (t.coldRestart p) := by
  have cleared : s.Tends (if (t.peer p).rollOut = .sending then t.clearRollMarks p else t) := h.clearRollMarks.ite h
  exact (cleared.updPeer.emptyLists.clearScopeMarks.raise.deferMany).ite
    cleared.updPeer.emptyLists.clearScopeMarks.raise

theorem State.Tends.warmRestart (h : s.Tends t) {p : Nat} {st : Announced} : s.Tends (t.warmRestart p st) := by
  have owed : s.Tends (if st = .setup then t else t.oweRoll p) := h.ite h.oweRoll
  unfold State.warmRestart State.cutChannel
  split
  · exact owed.raise
  · exact owed.updPeer.clearScopeMarks.raise

theorem State.Tends.recognise (h : s.Tends t) {p : Nat} {epoch : Byte} {st : Announced} :
    s.Tends (t.recognise p epoch st) := by
  unfold State.recognise
  split
  · exact h
  · exact h.warmRestart
  · exact h.warmRestart
  · exact h.coldRestart
  · exact h.setRollOut

theorem State.Tends.heard (h : s.Tends t) {p : Nat} {epoch : Byte} {st : Announced} : s.Tends (t.heard p epoch st) := by
  have recognised : s.Tends (if t.awake then t.recognise p epoch st else t) := h.recognise.ite h
  exact (recognised.updPeer.pass.checkSingle.ite recognised.updPeer).judgeEnd.ite h

theorem State.Tends.goSilent (h : s.Tends t) {p : Nat} : s.Tends (t.goSilent p) := by
  have owed : s.Tends (if (t.peer p).rollOut = .sending then t.oweRoll p else t) := h.oweRoll.ite h
  exact (owed.updPeer.emptyLists.dropRequests.clearScopeMarks.deferMany.ite
    owed.updPeer.emptyLists.dropRequests.clearScopeMarks).judgeEnd

/-! ### Collisions, QUIESCE and recovery (chapters 7 and 8) -/

theorem State.Tends.abortEffects (h : s.Tends t) {req : Request} : s.Tends (t.abortEffects req) := by
  cases req with
  | roll p => exact (h.oweRoll.ite h).pass.ite (h.oweRoll.ite h)
  | beacon | rollOffer | singleOffer | answer | release => exact h

theorem State.Tends.jamFrame (h : s.Tends t) : s.Tends t.jamFrame := by
  unfold State.jamFrame
  split
  · exact h
  · have jammed : s.Tends { t with line := { t.line with out := .jam } } := h.frame rfl rfl
    exact jammed.abortEffects

theorem State.Tends.unprobe (h : s.Tends t) {p : Nat} : s.Tends (t.unprobe p) := by
  unfold State.unprobe
  split
  · exact h
  · exact (h.moveTo (Nat.zero_le 4)).settleChange.ite h

theorem State.Tends.enterQuiesce (h : s.Tends t) {a : Announced} : s.Tends (t.enterQuiesce a) := by
  have frozen : s.Tends (State.setStation .quiesce { t with ctl := { t.ctl with ret := some a } }) :=
    (h.frame (u := { t with ctl := { t.ctl with ret := some a } }) rfl rfl).setStation
  exact (frozen.jamFrame.each (fun _ u => (State.Tends.refl u).unprobe)).frame rfl rfl

theorem State.Tends.writePending (h : s.Tends t) : s.Tends t.writePending := by
  refine State.Tends.ite ?_ h
  exact h.edited _ (fun r => by split <;> rfl) (fun r hr => by split <;> exact hr) rfl rfl

theorem State.Tends.letGo (h : s.Tends t) : s.Tends t.letGo :=
  (h.passAll.each (fun _ u => (State.Tends.refl u).checkSingle)).attempt.ite h

theorem State.Tends.recover (h : s.Tends t) {a : Announced} : s.Tends (t.recover a) := by
  have back : s.Tends (State.setStation (stationOf a) { t with ctl := { t.ctl with ret := none } }) :=
    (h.frame (u := { t with ctl := { t.ctl with ret := none } }) rfl rfl).setStation
  exact back.raise.writePending.resumeTimer.announce.letGo.judgeEnd

theorem State.Tends.convert (h : s.Tends t) {millivolts : Nat} : s.Tends (t.convert millivolts) := by
  have counted : s.Tends { t with supply := t.supply.take t.threshold (sampleOf millivolts) } := h.frame rfl rfl
  unfold State.convert
  split
  · exact h
  · dsimp only
    split
    · split
      · exact counted.enterQuiesce
      · exact counted
    · split
      · split
        · exact counted.recover
        · exact counted
      · exact counted

/-! ### The sweep, the highway frame and the due steps (chapters 3 and 6) -/

theorem State.Tends.sweepEvent (h : s.Tends t) : s.Tends t.sweepEvent := by
  have aged : s.Tends { t with records := t.records.map Circuit.age } := by
    refine h.relink Circuit.age (fun r => ?_) (fun _ r _ hr => ?_) rfl rfl
    · unfold Circuit.age
      split <;> rfl
    · unfold Circuit.age
      split
      · exact hr.of_ident rfl hr.sendCount_le (Nat.succ_le_of_lt ‹_ ∧ _›.2) hr.standby_isSome
      · exact hr
  by_cases hold : t.holding = true
  · exact aged.frame (by simp [State.sweepEvent, hold]) rfl
  · exact h.frame (by simp [State.sweepEvent, hold]) rfl

theorem State.Tends.takeSweep (h : s.Tends t) : s.Tends t.takeSweep := h.sweepEvent.ite h

theorem State.Tends.highwayFrame (h : s.Tends t) {x : HighwayInput} : s.Tends (t.highwayFrame x) := by
  have watch (r : Circuit) : ∃ y, r.watch t.ctl.slot x = { r with state := y } := by
    unfold Circuit.watch
    split <;> exact ⟨_, rfl⟩
  refine h.relink (Circuit.watch t.ctl.slot x) (fun r => ?_) (fun _ r _ hr => ?_) rfl rfl
  all_goals obtain ⟨y, hy⟩ := watch r; rw [hy]
  · rfl
  · exact hr

theorem State.Tends.takeResend (h : s.Tends t) {p : Nat} : s.Tends (t.takeResend p) := by
  unfold State.takeResend
  split
  · exact h
  · have due : s.Tends (t.mapRec p (fun x => { x with resendDue := false, claimDue := true })) :=
      h.mapRec (fun _ => rfl) (fun _ _ _ _ hr => hr)
    exact (due.checkSingle.ite (h.raise.moveTo (Nat.zero_le 4)).post.settleChange).ite h

theorem State.Tends.takeSilence (h : s.Tends t) {p : Nat} : s.Tends (t.takeSilence p) := h.goSilent.ite h
theorem State.Tends.takeBeacon (h : s.Tends t) : s.Tends t.takeBeacon := h.announce.ite h
theorem State.Tends.takeAbandon (h : s.Tends t) {p : Nat} : s.Tends (t.takeAbandon p) :=
  h.updPeer.clearScopeMarks.raise.ite h

theorem State.Tends.takeListenEnd (h : s.Tends t) : s.Tends t.takeListenEnd := by
  have ended : s.Tends { t with ctl := { t.ctl with listenOver := true } } := h.frame rfl rfl
  exact ended.passAll.deferMany.judgeEnd.ite h

theorem State.Tends.takeCompletion (h : s.Tends t) : s.Tends t.takeCompletion := by
  unfold State.takeCompletion
  split
  · split
    · exact h
    · exact h.completeProbe
  · exact h

theorem State.Tends.takeEcho (h : s.Tends t) : s.Tends t.takeEcho := by
  refine h.trans ?_
  unfold State.takeEcho
  split
  · split
    · exact .refl t
    · rename_i r hfind
      have hmem := State.mem_of_mem_classOrder (List.mem_of_find?_eq_some hfind)
      exact ((State.Tends.refl t).laneFault hmem).settleChange
  · exact .refl t

/-- The due steps beside the end of a start, in the model's order (log 2). -/
def State.settleDue (s : State) : State :=
  let s2 := (s.each (List.range 24) State.takeSilence).takeBeacon
  let s3 := (s2.each (s2.classOrder.map Circuit.place) State.takeResend).each (List.range 24) State.takeAbandon
  let s4 := s3.takeListenEnd
  let s5 := s4.each s4.hw.probes (fun _ s => s.takeCompletion)
  s5.each s5.records (fun _ s => s.takeEcho)

/-- Settling is the end of a start, where one is due, and then the other due steps. -/
theorem State.settleAll_eq (s : State) :
    s.settleAll = (if s.startDue then (if s.storeValid then s.endWarm else s.endCold) else s).settleDue := rfl

theorem State.Tends.settleDue (h : s.Tends t) : s.Tends t.settleDue := by
  have silent := (h.each (xs := List.range 24) (fun p u => (State.Tends.refl u).takeSilence (p := p))).takeBeacon
  have resent {ps : List Nat} := silent.each (xs := ps) (fun p u => (State.Tends.refl u).takeResend (p := p))
  have abandoned {ps : List Nat} := (resent (ps := ps)).each (xs := List.range 24)
    (fun p u => (State.Tends.refl u).takeAbandon (p := p))
  exact (abandoned.takeListenEnd.each (fun _ u => (State.Tends.refl u).takeCompletion)).each
    (fun _ u => (State.Tends.refl u).takeEcho)

/-- Where no start is about to end, settling tends. -/
theorem State.Tends.settle (h : s.Tends t) (hstart : t.startDue = false) : s.Tends t.settle := by
  unfold State.settle
  rw [State.settleAll_eq, hstart]
  exact h.settleDue.ite h

theorem State.Tends.resendTag (h : s.Tends t) {tag : Nat} : s.Tends (t.resendTag tag) := by
  unfold State.resendTag
  split
  · exact h
  · exact h.takeResend

theorem State.Tends.expirePace (h : s.Tends t) : s.Tends t.expirePace := by
  unfold State.expirePace
  dsimp only
  split
  · split
    · exact h.credit.startCount.settleChange
    · exact h.credit.stopTimer.settleChange
  · exact h

/-! ### The shelf line (chapter 7) -/

theorem State.Tends.build (h : s.Tends t) {req : Request} : s.Tends (t.build req) := by
  cases req with
  | roll p =>
    have marked : s.Tends (t.mapTowards p (fun r => if r.state = .clashed then r else { r with rollMark := true })) :=
      h.mapTowards (fun r => by split <;> rfl) (fun r hr => by split <;> exact hr)
    exact marked.frame rfl rfl
  | beacon | rollOffer | singleOffer | answer | release => exact h.frame rfl rfl

theorem State.Tends.takeTurns (h : s.Tends t) (n : Nat) : s.Tends (t.takeTurns n) := by
  induction n generalizing t with
  | zero => exact h
  | succ n ih =>
    unfold State.takeTurns
    split
    · exact h.frame (by simp) (by simp)
    · exact (ih (h.frame (by simp) (by simp))).ite h.build

theorem State.Tends.takePosition (h : s.Tends t) {pos : Nat} : s.Tends (t.takePosition pos) := (h.takeTurns _).ite h

theorem State.Tends.claimsSent (h : s.Tends t) {roll : Bool} {places : List Nat} :
    s.Tends (t.claimsSent roll places) := (h.each (fun _ u => (State.Tends.refl u).claimSent)).ite h

theorem State.Tends.sentEffects (h : s.Tends t) {f : InFlight} : s.Tends (t.sentEffects f) := by
  unfold State.sentEffects
  split
  · exact h
  · split
    · exact h.request.ite h.setRollOut.judgeEnd
    · exact h.pass
    · exact h
  · exact (h.claimsSent.request.ite h.claimsSent.setRollOut.judgeEnd).ite h.claimsSent
  · exact h.claimsSent.checkSingle
  · exact h.updPeer.ite h.updPeer.request
  · exact h.updPeer.ite h.updPeer.request

theorem State.Tends.takeSentWhole (h : s.Tends t) : s.Tends t.takeSentWhole := by
  unfold State.takeSentWhole
  split
  · exact h
  · rename_i f _
    have free : s.Tends { t with line := { t.line with out := .released } } := h.frame rfl rfl
    have sent := ((free.setQueue (q := t.line.queue.drop 1)).ite (c := f.queued = true) free).sentEffects (f := f)
    exact sent.frame (by simp [State.sentWhole]) (by simp [State.sentWhole])

theorem State.Tends.takeCollision (h : s.Tends t) : s.Tends t.takeCollision := by
  have collided : s.Tends { t with line := t.line.collide } := h.frame rfl rfl
  exact collided.jamFrame.raiseIf.judgeLamp.ite h

theorem State.Tends.lineError (h : s.Tends t) : s.Tends t.lineError := h.frame rfl rfl

theorem State.Tends.actOn {α : Type} (h : s.Tends t) {src : Nat} {read : Option α} {act : α → State → State}
    (ha : ∀ x, s.Tends (act x t)) : s.Tends (t.actOn src read act) := by
  unfold State.actOn
  split
  · exact h.lineError
  · exact (ha _).ite h

theorem State.Tends.handOn (h : s.Tends t) {kind : Byte} {f : LineFrame} : s.Tends (t.handOn kind f) := by
  have offer := h.actOn (src := f.src) (read := readOffer f.payload) (act := fun x s => s.takeOffer f.src x.1 x.2)
    (fun _ => h.takeOffer)
  have roll := h.actOn (src := f.src) (read := readRoll f.payload) (act := fun n s => s.takeRoll f.src n)
    (fun _ => h.takeRoll)
  have answer := h.actOn (src := f.src) (read := readAnswer f.payload)
    (act := fun vs s => s.each vs (State.takeVerdict f.src))
    (fun _ => h.each (fun _ u => (State.Tends.refl u).takeVerdict))
  have release := h.actOn (src := f.src) (read := readRelease f.payload)
    (act := fun ts s => s.each ts (State.takeRelease f.src))
    (fun _ => h.each (fun _ u => (State.Tends.refl u).takeRelease))
  -- the branches in the order of R143: misaddressed, BEACON, unknown kind, broadcast, OFFER, the rest
  exact h.ite ((h.ite h.lineError).ite (h.lineError.ite (h.lineError.ite ((offer.ite h).ite
    ((roll.ite (answer.ite release)).ite h)))))

theorem State.Tends.receive (h : s.Tends t) {kind : Byte} {f : LineFrame} : s.Tends (t.receive kind f) := by
  have heard : s.Tends { t with line := { t.line with lastSender := f.src } } := h.frame rfl rfl
  exact h.ite heard.heard.handOn

theorem State.Tends.tickLamp (h : s.Tends t) : s.Tends t.tickLamp := h.frame (by simp) (by simp)

theorem State.Tends.tickPace (h : s.Tends t) : s.Tends t.tickPace := by
  unfold State.tickPace
  split
  · exact h
  · exact h.expirePace.ite (h.frame rfl rfl)

theorem State.Tends.tickSweep (h : s.Tends t) : s.Tends t.tickSweep := by
  unfold State.tickSweep
  split
  · exact h
  · exact h.takeSweep.ite (h.frame rfl rfl)

end Rules

end Sys2Proof.Machine
end

section
/-! What PROVISION checks and enters (R4, R6, R7), in the words of the statements, and the table with a new record. -/

namespace Sys2Proof.Machine

theorem Circuit.holdsLane_iff (lane : Nat) (r : Circuit) : r.holdsLane lane = true ↔ lane ∈ r.lanes := by
  simp only [Circuit.holdsLane, Circuit.lanes, Bool.or_eq_true, beq_iff_eq, List.mem_cons, Option.mem_toList,
    eq_comm (a := lane)]

/-- Check 1 of R6. -/
theorem State.provisionRange_iff (f : ProvisionFields) (s : State) : s.provisionRange f = true ↔ f.OutOfRange s := by
  simp [State.provisionRange, ProvisionFields.OutOfRange, or_assoc]

/-- Check 4 of R6. -/
theorem State.laneTaken_iff (f : ProvisionFields) (s : State) :
    s.laneTaken (ProvisionFields.fixed f) = true ↔ f.LaneInUse s := by
  by_cases h : f.standbyInd = 1 <;>
    simp [State.laneTaken, ProvisionFields.LaneInUse, ProvisionFields.fixed, Circuit.holdsLane_iff, h]

/-- The search for a free place finds the lowest one (R4). -/
theorem State.freePlace_eq_some_iff (h : Nat) (s : State) : s.freePlace = some h ↔ s.LowestFree h := by
  simp [State.freePlace, State.LowestFree, List.find?_range_eq_some, and_left_comm]

theorem State.newRecord_eq_entered (f : ProvisionFields) (h : Nat) (s : State) :
    s.newRecord f h = f.entered h (s.entryState f.farSlot) s.running := rfl

/-- No more than `n` different numbers lie below `n`. -/
theorem length_le_of_nodup_lt {n : Nat} {xs : List Nat} (hnd : xs.Nodup) (hlt : ∀ x ∈ xs, x < n) : xs.length ≤ n := by
  have : xs ⊆ List.range n := fun x hx => List.mem_range.mpr (hlt x hx)
  simpa using (List.subperm_of_subset hnd this).length_le

/-- The lanes of a record that passes check 1 are two different lane values, or one. -/
theorem ProvisionFields.entered_lanes {f : ProvisionFields} {s : State} (hrange : ¬ f.OutOfRange s) (h : Nat)
    (st : Relink) (due : Bool) :
    (f.entered h st due).lanes.Nodup ∧ ∀ l ∈ (f.entered h st due).lanes,
      l ≤ 1023 ∧ (l = f.primary ∨ f.standbyInd = 1 ∧ l = f.standbyLane) := by
  simp only [ProvisionFields.OutOfRange, not_or, not_and, Nat.not_lt] at hrange
  obtain ⟨_, _, _, _, _, _, hprimary, _, hstandby, _⟩ := hrange
  by_cases hind : f.standbyInd = 1
  · obtain ⟨hle, hne⟩ := hstandby hind
    simpa [ProvisionFields.entered, Circuit.lanes, hind, hprimary, hle] using Ne.symm hne
  · simp [ProvisionFields.entered, Circuit.lanes, hind, hprimary]

theorem ProvisionFields.entered_inRange {f : ProvisionFields} {s : State} (hrange : ¬ f.OutOfRange s) {h : Nat}
    (hlt : h < 64) (st : Relink) (due : Bool) : (f.entered h st due).inRange := by
  have hlanes := (ProvisionFields.entered_lanes hrange h st due).2
  refine ⟨hlt, ?_⟩
  simp only [ProvisionFields.OutOfRange] at hrange
  refine ⟨?_, ?_, ?_, fun l hl => (hlanes l hl).1, ?_⟩ <;> simp only [ProvisionFields.entered] <;> try omega
  simp
  omega

/-- A table with a record that passes the checks of R6, in a free place, is within its limits. -/
theorem State.tableOk.entered {s t : State} (ok : s.tableOk) {f : ProvisionFields} {h : Nat} {st : Relink} {due : Bool}
    (hfree : s.LowestFree h) (hrange : ¬ f.OutOfRange s)
    (hnew : ∀ r ∈ s.records, r.tag ≠ f.tag ∧ r.localPort ≠ f.localPort) (hlane : ¬ f.LaneInUse s)
    (ht : t.records = s.records ++ [f.entered h st due]) : t.tableOk := by
  obtain ⟨_, htag, hport, hplace, hlanes, hall⟩ := ok
  obtain ⟨hlt, hnot, _⟩ := hfree
  obtain ⟨hnodup, hown⟩ := ProvisionFields.entered_lanes hrange h st due
  have append {g : Circuit → Nat} (hg : (s.records.map g).Nodup) (hx : g (f.entered h st due) ∉ s.records.map g) :
      (t.records.map g).Nodup := by
    rw [ht, List.map_append]
    exact List.nodup_append.mpr ⟨hg, List.nodup_singleton _, by simpa using hx⟩
  have range : ∀ r ∈ t.records, r.inRange := by
    rw [ht]
    intro r hr
    rcases List.mem_append.mp hr with hr | hr
    · exact hall r hr
    · obtain rfl := List.mem_singleton.mp hr
      exact ProvisionFields.entered_inRange hrange hlt st due
  have place : (t.records.map (·.place)).Nodup := append hplace hnot
  have len : t.records.length ≤ 64 := by
    have := length_le_of_nodup_lt place (n := 64) (by simpa using fun r hr => (range r hr).1)
    simpa using this
  refine ⟨len, append htag ?_, append hport ?_, place, ?_, range⟩
  · simpa [ProvisionFields.entered] using fun r hr => (hnew r hr).1
  · simpa [ProvisionFields.entered] using fun r hr => (hnew r hr).2
  · rw [ht, List.flatMap_append, List.nodup_append]
    refine ⟨hlanes, by simpa using hnodup, fun a ha b hb e => hlane ?_⟩
    subst e
    obtain ⟨r, hr, hmem⟩ := List.mem_flatMap.mp ha
    rcases (hown a (by simpa using hb)).2 with e | ⟨hind, e⟩
    · exact ⟨r, hr, .inl (e ▸ hmem)⟩
    · exact ⟨r, hr, .inr ⟨hind, e ▸ hmem⟩⟩

end Sys2Proof.Machine
end

section
/-! What each row does to the Circuit Table and to the Retention Store: the rows that tend it, the rows that edit it,
and the four that write it anew or strike it (O54, O25). -/

namespace Sys2Proof.Machine

/-! ### Table edits -/

/-- From `s` to `t` the table stays within its limits, the sum of the retained content, where it was zero, is zero, and
the keep-alive mark stays as it is (R13, R16). -/
structure State.Edits (s t : State) : Prop where
  table : s.tableOk → t.tableOk
  sum : s.sumZero = true → t.sumZero = true
  alive : t.store.keepAlive = s.store.keepAlive

theorem State.Tends.edits {s t : State} (h : s.Tends t) : s.Edits t := by
  obtain ⟨_, hstore⟩ := h.store
  exact ⟨h.tableOk, h.sum, by rw [hstore]⟩

theorem State.Edits.trans {s t u : State} (h : s.Edits t) (k : t.Edits u) : s.Edits u :=
  ⟨k.table ∘ h.table, k.sum ∘ h.sum, k.alive.trans h.alive⟩

/-- An edit that leaves the records alone and closes with the check word. -/
theorem State.Edits.closeEdit {s t : State} (hr : t.records = s.records) (ha : t.store.keepAlive = s.store.keepAlive) :
    s.Edits t.closeEdit :=
  ⟨fun ok => by simpa only [State.tableOk, State.closeEdit_records, hr] using ok, fun _ => t.closeEdit_sumZero, ha⟩

/-- The relink fields of every record discarded (R3, R48): nothing retained changes. -/
theorem State.Tends.fresh {s t : State} (hr : t.records = s.records.map Circuit.fresh) (hs : t.store = s.store) :
    s.Tends t := by
  refine (State.Tends.refl s).relink Circuit.fresh (fun _ => rfl) (fun _ r _ hrange => ?_) hr hs
  exact hrange.of_ident rfl (Nat.zero_le _) (Nat.zero_le _) (fun e => by cases e)

/-! ### The ends of a start -/

theorem State.endWarm_edits (s : State) : s.Edits s.endWarm := by
  have epoch : s.Edits (State.closeEdit { s with store := { s.store with epoch := s.store.epoch + 1 } }) :=
    State.Edits.closeEdit rfl rfl
  refine epoch.trans (State.Tends.fresh ?_ ?_).edits <;> simp [State.endWarm, State.freshLinks]

/-- After a cold rewrite the table is empty and its content sums to zero (R18). -/
theorem State.coldRewrite_enterSetup {s t : State} (hr : t.records = s.coldRewrite.records)
    (hs : t.store = s.coldRewrite.store) : t.tableOk ∧ t.sumZero = true := by
  refine ⟨?_, ?_⟩
  · have : t.records = [] := hr
    simp [State.tableOk, this]
  · rw [State.sumZero_congr (congrArg _ hr) hs]
    exact State.closeEdit_sumZero _

theorem State.endCold_ok (s : State) : s.endCold.tableOk ∧ s.endCold.sumZero = true :=
  State.coldRewrite_enterSetup (s := s) (by simp [State.endCold]) (by simp [State.endCold])

/-- Settling keeps the table and its sum: a cold start that ends in it leaves an empty table. -/
theorem State.settle_ok (s : State) :
    (s.tableOk → s.settle.tableOk) ∧ (s.sumZero = true → s.settle.sumZero = true) := by
  have due : (s.tableOk → s.settleAll.tableOk) ∧ (s.sumZero = true → s.settleAll.sumZero = true) := by
    rw [State.settleAll_eq]
    generalize hu : (if s.startDue then (if s.storeValid then s.endWarm else s.endCold) else s) = u
    have rest := (State.Tends.refl u).settleDue
    suffices (s.tableOk → u.tableOk) ∧ (s.sumZero = true → u.sumZero = true) from
      ⟨rest.tableOk ∘ this.1, rest.sum ∘ this.2⟩
    subst hu
    split
    · split
      · exact ⟨s.endWarm_edits.table, s.endWarm_edits.sum⟩
      · exact ⟨fun _ => s.endCold_ok.1, fun _ => s.endCold_ok.2⟩
    · exact ⟨id, id⟩
  unfold State.settle
  split
  · exact due
  · exact ⟨id, id⟩

/-! ### Commands at the card port -/

theorem State.takeDrop_tends (r : Circuit) (s : State) : s.Tends (s.takeDrop r) := by
  have removed := (State.Tends.refl s).removeRecord (r := r)
  exact ((removed.frame (u := State.appendRelease _ _ _) (by simp) (by simp)).ite removed).restartRoll.settleChange

theorem State.takeRearm_tends (r : Circuit) (s : State) : s.Tends (s.takeRearm r) := by
  have cleared : s.Tends (s.mapRec r.place
      (fun x => { x with clashMark := false, clashPending := false, inUse := .primary })).closeEdit := by
    refine (State.Tends.refl s).edited _ (fun x => by split <;> rfl) (fun x hx => ?_) (State.mapRec_records _ _ _) rfl
    split
    · exact hx.of_ident rfl hx.sendCount_le hx.sweepsSinceSend_le (fun e => by cases e)
    · exact hx
  have parked := cleared.enter (p := r.place) (new := .parked) (due := (s.peer r.farSlot).up) (Nat.zero_le 4)
  exact parked.checkSingle.settleChange.ite (parked.enter (Nat.zero_le 4)).settleChange

/-- The checks of R6 that a PROVISION passes. -/
theorem State.provisionRefusal_eq_none {f : ProvisionFields} {s : State} (h : s.provisionRefusal f = none) :
    ¬ f.OutOfRange s ∧ (∀ r ∈ s.records, r.tag ≠ f.tag ∧ r.localPort ≠ f.localPort) ∧ ¬ f.LaneInUse s := by
  unfold State.provisionRefusal at h
  repeat' split at h
  any_goals cases h
  rw [← State.provisionRange_iff, ← State.laneTaken_iff]
  simp_all

/-- A PROVISION taken is one table edit (R7). -/
theorem State.takeProvision_edits {f : ProvisionFields} {h : Nat} {s : State} (hpass : s.provisionRefusal f = none)
    (hfree : s.freePlace = some h) : s.Edits (s.takeProvision f h) := by
  obtain ⟨hrange, hnew, hlane⟩ := State.provisionRefusal_eq_none hpass
  have entered : s.Edits (State.closeEdit { s with records := s.records ++ [s.newRecord f h] }) :=
    ⟨fun ok => ok.entered ((State.freePlace_eq_some_iff h s).mp hfree) hrange hnew hlane rfl,
      fun _ => State.closeEdit_sumZero _, rfl⟩
  exact entered.trans ((State.Tends.refl _).checkSingle.restartRoll.settleChange.ite (.refl _)).edits

theorem State.takeSetPace_edits (reload : Nat) (mode : PaceMode) (s : State) : s.Edits (s.takeSetPace reload mode) := by
  have written : s.Edits (s.writeSettings { s.store.settings with reload := clampReload reload }) :=
    State.Edits.closeEdit rfl rfl
  refine written.trans (State.Tends.edits ((State.Tends.refl _).frame (by simp) ?_))
  unfold State.takeSetPace
  dsimp only
  split <;> rfl

/-- Every command but PURGE, where it is taken, keeps the table, its sum and the keep-alive mark. -/
theorem CardCommand.judge_edits {c : CardCommand} (hc : c ≠ .purge) {s t : State} {p : List Byte}
    (h : c.judge s = .take t p) : s.Edits t := by
  unfold CardCommand.judge at h
  split at h
  · cases h
  have same : s.Edits s := (State.Tends.refl s).edits
  have frame {u : State} (hr : u.records = s.records) (hs : u.store = s.store) : s.Edits u :=
    ((State.Tends.refl s).frame hr hs).edits
  cases c <;> simp only [CardCommand.run] at h
  case purge => exact absurd rfl hc
  case nop => cases h
  case status => cases h; exact same
  case configure c =>
    unfold State.doConfigure at h
    split at h <;> cases h
    exact State.Edits.closeEdit rfl rfl
  case go => cases h; exact frame (by simp) (by simp)
  case provision f =>
    unfold State.doProvision at h
    split at h <;> cases h
    exact State.takeProvision_edits ‹_› ‹_›
  case drop tag =>
    unfold State.doDrop at h
    split at h
    · cases h
    · split at h <;> cases h
      exact (s.takeDrop_tends _).edits
  case rearm tag =>
    unfold State.doRearm at h
    split at h
    · cases h
    · split at h <;> cases h
      exact (s.takeRearm_tends _).edits
  case query tag => unfold State.doQuery at h; split at h <;> cases h; exact same
  case readEntry cls index =>
    unfold State.doReadEntry at h
    split at h
    · cases h
    · split at h <;> cases h
      exact same
  case readPeer slot => unfold State.doReadPeer at h; split at h <;> cases h; exact same
  case readNotices => cases h; exact frame rfl rfl
  case readEvents => cases h; exact frame rfl rfl
  case setEnables w => cases h; exact frame rfl rfl
  case setPace reload mode =>
    unfold State.doSetPace at h
    split at h <;> cases h
    exact s.takeSetPace_edits _ _
  case stepPace =>
    unfold State.doStep at h
    split at h
    · cases h
    · split at h <;> cases h
      · exact same
      · exact frame rfl rfl
  case unmute => cases h; exact frame (by simp) (by simp)

/-- A transfer takes its command, or leaves the table and the store as they are. -/
theorem State.transfer_cases (c : CardCommand) (k : Nat) (s : State) :
    (∃ u t p, u.records = s.records ∧ u.store = s.store ∧ c.judge u = .take t p ∧ (s.transfer c k).records = t.records ∧
        (s.transfer c k).store = t.store) ∨
      ((s.transfer c k).records = s.records ∧ (s.transfer c k).store = s.store) := by
  unfold State.transfer
  split
  · exact .inr ⟨rfl, rfl⟩
  · rcases (s.endTransfer (c.record.length + k)).takeCommand_cases c with ⟨r, p, _, e⟩ | ⟨t, p, hj, e⟩ | ⟨_, e⟩
    · exact .inr (by rw [e]; exact ⟨rfl, rfl⟩)
    · exact .inl ⟨s.endTransfer (c.record.length + k), t, p, rfl, rfl, hj, by rw [e]; exact ⟨rfl, rfl⟩⟩
    · exact .inr (by rw [e]; exact ⟨rfl, rfl⟩)

theorem State.transfer_edits {c : CardCommand} (hc : c ≠ .purge) (k : Nat) (s : State) : s.Edits (s.transfer c k) := by
  have frame {u t : State} (hr : t.records = u.records) (hs : t.store = u.store) : u.Edits t :=
    ((State.Tends.refl u).frame hr hs).edits
  rcases s.transfer_cases c k with ⟨u, t, p, hru, hsu, hj, hrt, hst⟩ | ⟨hr, hs⟩
  · exact (frame hru hsu).trans ((CardCommand.judge_edits hc hj).trans (frame hrt hst))
  · exact frame hr hs

theorem State.rejectTransfer_edits (bytes : List Byte) (s : State) : s.Edits (s.rejectTransfer bytes) := by
  refine State.Tends.edits ((State.Tends.refl s).frame ?_ ?_) <;> unfold State.rejectTransfer <;> dsimp only <;>
    (repeat' split) <;> rfl

/-- PURGE, where it is taken, leaves an empty table (R161). -/
theorem CardCommand.judge_purge {s t : State} {p : List Byte} (h : CardCommand.purge.judge s = .take t p) :
    t.tableOk ∧ t.sumZero = true := by
  unfold CardCommand.judge at h
  split at h <;> cases h
  exact State.coldRewrite_enterSetup (State.enterSetup_keeps _).1 (State.enterSetup_keeps _).2.1

/-! ### The rows -/

/-- The rows that write the whole table anew, or that strike the store from outside: PURGE, a start and a cold start,
and the fall of the hold-up supply. -/
def rewritesStore : Instr → Bool
  | .purge _ => true
  | .start _ _ => true
  | .coldStart => true
  | .keepAliveClear => true
  | _ => false

theorem rewritesStore_cases {c : Instr} (h : ¬ rewritesStore c = false) :
    (∃ k, c = .purge k) ∨ (∃ cause cut, c = .start cause cut) ∨ c = .coldStart ∨ c = .keepAliveClear := by
  cases c <;> simp_all [rewritesStore]

/-- Every other row keeps the table, its sum and the keep-alive mark, after the due steps that wait before it. -/
theorem exec_edits {c : Instr} (hc : rewritesStore c = false) {s t : State} (h : exec c s = .next t) :
    s.Edits t ∨ s.settle.Edits t := by
  have start := State.Tends.refl s
  have settled := State.Tends.refl s.settle
  cases c <;> cases hc <;> cases h
  case nop | status | configure | go | provision | drop | rearm | query | readEntry | readPeer | readNotices |
      readEvents | setEnables | setPace | stepPace | unmute =>
    exact .inr (State.transfer_edits (by simp) _ _)
  case rejectedRecord bytes => exact .inr (State.rejectTransfer_edits bytes _)
  case strapRead => exact .inr (settled.frame (by simp) (by simp)).edits
  case warmStart =>
    refine .inl ?_
    unfold State.takeWarm
    split <;> [exact s.endWarm_edits; exact start.edits]
  case conversionResult => exact .inr settled.convert.edits
  case sweep => exact .inr settled.takeSweep.edits
  case peerSilent => exact .inl start.takeSilence.edits
  case beaconDue => exact .inl start.takeBeacon.edits
  case claimResend => exact .inl start.resendTag.edits
  case rollAbandon => exact .inl start.takeAbandon.edits
  case listenIntervalEnd => exact .inl start.takeListenEnd.edits
  case paceExpiry => exact .inr settled.expirePace.edits
  case probeCompletion => exact .inl start.takeCompletion.edits
  case echoFault => exact .inl start.takeEcho.edits
  case linePosition => exact .inr settled.takePosition.edits
  case frameSentWhole => exact .inr settled.takeSentWhole.edits
  case collision => exact .inr settled.takeCollision.edits
  case beaconReceived | rollReceived | offerReceived | answerReceived | releaseReceived | otherFrameReceived =>
    exact .inr settled.receive.edits
  case badFrameReceived =>
    refine .inr (State.Tends.edits ?_)
    exact settled.ite (settled.lineError.ite settled)
  case jamReceived => exact .inr settled.edits
  case lampPeriod => exact .inr (settled.frame (by simp) (by simp)).edits
  case highwayFrame => exact .inr settled.highwayFrame.edits
  case chipSelectAsserted => exact .inr (settled.frame (by simp) (by simp)).edits

/-- A start keeps what the strike left of the store: it discards relink fields only (R3, R149). -/
theorem State.enterStarting_tends (cut : EditCut) (s : State) : (s.strike cut).Tends (s.enterStarting cut) :=
  State.Tends.fresh rfl rfl

/-- Every row keeps the table within its limits, and every row but a start that cuts an edit keeps the zero sum. -/
theorem exec_ok (c : Instr) {s t : State} (h : exec c s = .next t) :
    (s.tableOk → t.tableOk) ∧
      ((∀ a b, c = .start a b → b = .none) → s.sumZero = true → t.sumZero = true) := by
  obtain ⟨table, sum⟩ := s.settle_ok
  by_cases hc : rewritesStore c = false
  · rcases exec_edits hc h with e | e
    · exact ⟨e.table, fun _ => e.sum⟩
    · exact ⟨e.table ∘ table, fun _ => e.sum ∘ sum⟩
  rcases rewritesStore_cases hc with ⟨k, rfl⟩ | ⟨cause, cut, rfl⟩ | rfl | rfl <;> cases h
  · rcases s.settle.transfer_cases .purge k with ⟨u, t, p, hru, hsu, hj, hrt, hst⟩ | ⟨hr, hs⟩
    · have same := ((State.Tends.refl t).frame hrt hst).edits
      obtain ⟨ok, zero⟩ := CardCommand.judge_purge hj
      exact ⟨fun _ => same.table ok, fun _ _ => same.sum zero⟩
    · have same := ((State.Tends.refl s.settle).frame hr hs).edits
      exact ⟨same.table ∘ table, fun _ => same.sum ∘ sum⟩
  · have started := s.settle.enterStarting_tends cut
    refine ⟨fun ok => started.tableOk ?_, fun hcut z => started.sum ?_⟩
    · have := table ok
      rwa [State.tableOk, (s.settle.strike_keeps cut).1]
    · obtain rfl := hcut cause cut rfl
      exact sum z
  · unfold State.takeCold
    split
    · exact ⟨fun _ => s.endCold_ok.1, fun _ _ => s.endCold_ok.2⟩
    · exact ⟨id, fun _ => id⟩
  · exact ⟨table, fun _ => sum⟩

/-- Settling writes no keep-alive mark unless a start ends in it. -/
theorem State.settle_alive {s : State} (hstart : s.startDue = false) :
    s.settle.store.keepAlive = s.store.keepAlive := (((State.Tends.refl s).settle hstart).edits).alive

/-- No row but PURGE and a cold start sets the keep-alive mark (R16). -/
theorem exec_alive {c : Instr} (hc : ∀ k, c ≠ .purge k) {s t : State} (hstart : s.startDue = false)
    (h : exec c s = .next t) (hs : s.store.keepAlive = false) : t.store.keepAlive = false := by
  have settled := (State.settle_alive hstart).trans hs
  by_cases hrow : rewritesStore c = false
  · rcases exec_edits hrow h with e | e
    · exact e.alive.trans hs
    · exact e.alive.trans settled
  rcases rewritesStore_cases hrow with ⟨k, rfl⟩ | ⟨cause, cut, rfl⟩ | rfl | rfl <;> cases h
  · exact absurd rfl (hc k)
  · rw [(s.settle.enterStarting_tends cut).edits.alive]
    cases cut <;> [exact settled; exact settled; rfl]
  · simpa [State.takeCold, hstart] using hs
  · rfl

/-! ### The statements -/

theorem State.tick_ok (s : State) : (s.tableOk → s.tick.tableOk) ∧ (s.sumZero = true → s.tick.sumZero = true) := by
  obtain ⟨table, sum⟩ := s.settle_ok
  have ticked : s.settle.Tends s.tick := (State.Tends.refl _).tickLamp.tickPace.tickSweep
  exact ⟨ticked.tableOk ∘ table, ticked.sum ∘ sum⟩

end Sys2Proof.Machine

open Sys2Proof Sys2Proof.Machine

/-- Settles O54: one millisecond and every row tend the table, edit it as a whole, or leave it empty. -/
theorem tableKept : Obligations.TableKept := by
  unfold Obligations.TableKept
  intro s t ok hstep
  unfold step at hstep
  split at hstep
  · cases hstep
    exact ⟨s.tick_ok.1 ok, fun z _ => s.tick_ok.2 z⟩
  · rename_i c rest hpending
    obtain ⟨table, sum⟩ := exec_ok c hstep
    refine ⟨table ok, fun z hcut => sum (fun a b e => hcut a b rest ?_) z⟩
    rw [hpending, e]

/-- Settles O25: no row but PURGE and a cold start sets the mark. -/
theorem keepAliveStaysClear : Obligations.KeepAliveStaysClear := by
  refine ⟨fun s calm => ?_, fun s hs => ?_, fun c s t hs hstart hc h => exec_alive hc hstart h hs⟩
  · show Host.Outcome.next s.settle.clearKeepAlive = _
    rw [State.settle_of_calm calm]
    rfl
  · simp [State.storeValid, hs]

end

section
/-! A command record at a ready card port, and the commands that look something up (O14, O15). -/

namespace Sys2Proof.Machine

/-! ### Taken and refused -/

section Transfer

variable {s t : State} {r : ResultCode} {p : List Byte}

/-- What the row of a card port command comes to: the transfer, after the due steps that wait. -/
def cardRow (c : CardCommand) (k : Nat) (s : State) : Host.Outcome State Fault Refusal := .next (s.settle.transfer c k)

/-- A command that is turned away changes the response alone (R166). -/
theorem cardRow_of_refuse (h : s.portReady) (c : CardCommand) (k : Nat)
    (hj : c.judge (s.endTransfer (c.record.length + k)) = .refuse r p) :
    cardRow c k s = .next (s.answered (c.record.length + k) c.code r p) := by
  rw [cardRow, State.transfer_of_ready c k h, State.takeCommand, hj]
  rfl

/-- A command that its station state turns away (R168). -/
theorem cardRow_gated (h : s.portReady) (c : CardCommand) (k : Nat) (hg : c.gate s.ctl.st = some r) :
    cardRow c k s = .next (s.answered (c.record.length + k) c.code r c.gatePayload) :=
  cardRow_of_refuse h c k (by simp only [CardCommand.judge, State.endTransfer_ctl, hg])

/-- A command that a check of its own turns away. -/
theorem cardRow_refused (h : s.portReady) (c : CardCommand) (k : Nat) (hg : c.gate s.ctl.st = none)
    (hr : c.run (s.endTransfer (c.record.length + k)) = .refuse r p) :
    cardRow c k s = .next (s.answered (c.record.length + k) c.code r p) :=
  cardRow_of_refuse h c k (by simp only [CardCommand.judge, State.endTransfer_ctl, hg, hr])

/-- A command that is taken has its effects on the state that the end of the transfer leaves, and its response. -/
theorem cardRow_taken (h : s.portReady) (c : CardCommand) (k : Nat) (hg : c.gate s.ctl.st = none)
    (hr : c.run (s.endTransfer (c.record.length + k)) = .take t p) :
    cardRow c k s = .next (t.respond c.code .ok p) := by
  have hj : c.judge (s.endTransfer (c.record.length + k)) = .take t p := by
    simp only [CardCommand.judge, State.endTransfer_ctl, hg, hr]
  rw [cardRow, State.transfer_of_ready c k h, State.takeCommand, hj]

end Transfer

/-! ### Station states (R168) -/

theorem editGate_of_edits {s : State} (h : s.edits) : CardCommand.gate.editGate s.ctl.st = none := by
  rcases h with h | h | h <;> rw [h] <;> rfl

theorem readGate_of_reads {s : State} (h : s.edits ∨ s.ctl.st = .quiesce) :
    CardCommand.gate.readGate s.ctl.st = none := by
  rcases h with (h | h | h) | h <;> rw [h] <;> rfl

theorem State.running_iff (s : State) : s.running = true ↔ s.ctl.st = .relink ∨ s.ctl.st = .service := by
  simp [State.running]

theorem rearmGate_of_running {s : State} (h : s.running = true) (tag : Nat) :
    (CardCommand.rearm tag).gate s.ctl.st = none := by
  rcases s.running_iff.mp h with h | h <;> rw [h] <;> rfl

theorem State.edits_of_running {s : State} (h : s.running = true) : s.edits := .inr (s.running_iff.mp h)

/-! ### Lookups (R4, R5) -/

theorem State.findTag_eq_none {s : State} {tag : Nat} (h : ∀ r ∈ s.records, r.tag ≠ tag) : s.findTag tag = none := by
  simpa [State.findTag] using h

/-- A tag is held once, so a record is found by its tag. -/
theorem State.findTag_eq_some {s : State} (ok : s.tableOk) {r : Circuit} (h : r ∈ s.records) :
    s.findTag r.tag = some r := by
  cases e : s.findTag r.tag with
  | none => simpa using List.find?_eq_none.mp e r h
  | some x =>
    obtain ⟨hx, htag⟩ := State.mem_of_findTag e
    rw [(ok.tag_eq_iff hx h).mp htag]

theorem State.classList_length (cls : Nat) (s : State) :
    (s.classList cls).length = s.records.countP (fun r => r.cls == cls) := List.countP_eq_length_filter.symm

/-- Whether a RELEASE is needed, in the words of the statements (R10). -/
theorem State.releaseNeeded_iff (r : Circuit) (s : State) : s.releaseNeeded r = true ↔ s.NeedsRelease r := by
  simp [State.releaseNeeded, State.NeedsRelease, or_assoc]

/-! ### What the lookups answer -/

section Answers

variable {s : State} {tag : Nat} {r : Circuit}

theorem State.doDrop_notFound (h : s.findTag tag = none) : s.doDrop tag = .refuse .notFound [] := by
  simp [State.doDrop, h]

theorem State.doDrop_backlog (h : s.findTag tag = some r) (hneed : s.NeedsRelease r)
    (hfull : 16 ≤ (s.peer r.farSlot).releases.length) :
    s.doDrop tag = .refuse .releaseBacklog (wordBytes r.tag ++ [byteOf r.farSlot]) := by
  simp [State.doDrop, h, (s.releaseNeeded_iff r).mpr hneed, listCapacity, hfull]

theorem State.doRearm_notFound (h : s.findTag tag = none) : s.doRearm tag = .refuse .notFound [] := by
  simp [State.doRearm, h]

theorem State.doRearm_state (h : s.findTag tag = some r) (hstate : r.state ≠ .clashed) :
    s.doRearm tag = .refuse .state (wordBytes r.tag ++ [relinkByte r.state]) := by
  simp [State.doRearm, h, hstate]

theorem State.doQuery_notFound (h : s.findTag tag = none) : s.doQuery tag = .refuse .notFound [] := by
  simp [State.doQuery, h]

theorem State.doQuery_found (h : s.findTag tag = some r) : s.doQuery tag = .take s (recordBytes r) := by
  simp [State.doQuery, h]

theorem State.doReadEntry_noList {cls index : Nat} (h : 3 < cls) : s.doReadEntry cls index = .refuse .range [] := by
  simp [State.doReadEntry, h]

theorem State.doReadEntry_pastEnd {cls index : Nat} (h : cls ≤ 3) (hi : (s.classList cls).length ≤ index) :
    s.doReadEntry cls index = .refuse .range [byteOf (s.classList cls).length] := by
  simp [State.doReadEntry, Nat.not_lt.mpr h, List.getElem?_eq_none hi]

theorem State.doReadEntry_found {cls index : Nat} (h : cls ≤ 3) (hi : (s.classList cls)[index]? = some r) :
    s.doReadEntry cls index = .take s (byteOf (s.classList cls).length :: recordBytes r) := by
  simp [State.doReadEntry, Nat.not_lt.mpr h, hi]

theorem State.doReadPeer_range {slot : Nat} (h : 23 < slot) : s.doReadPeer slot = .refuse .range [] := by
  simp [State.doReadPeer, h]

theorem State.doReadPeer_taken {slot : Nat} (h : slot < 24) :
    s.doReadPeer slot = .take s (peerBytes slot (s.peer slot)) := by
  simp [State.doReadPeer, Nat.not_lt.mpr (Nat.le_of_lt_succ h)]

end Answers

/-! ### The layouts of R191 -/

theorem boolBit_eq (b : Bool) (i : Nat) : boolBit b i = if b = true then 2 ^ i else 0 := rfl

/-- The 20 bytes of a record, item by item. -/
theorem recordBytes_eq_items (r : Circuit) : recordBytes r = r.items := by
  have standby : (if r.standby.isSome then (0x01 : Byte) else 0x00) = if r.standby = none then 0x00 else 0x01 := by
    cases r.standby <;> rfl
  have lane : inUseByte r.inUse = if r.inUse = .primary then 0x00 else 0x01 := by cases r.inUse <;> rfl
  simp only [recordBytes, Circuit.items, wordBytes, standby, lane, boolBit_eq, Bool.or_eq_true, List.cons_append,
    List.nil_append]
  cases r.state with
  | refused cause => cases cause <;> rfl
  | parked | offered | confirmed | probing | opened | deferred | clashed => rfl

end Sys2Proof.Machine

open Sys2Proof Sys2Proof.Machine

/-- Settles O14: each refusal is the one its lookup gives on the state as it stands. -/
theorem lookupRefusals : Obligations.LookupRefusals := by
  intro k s ready
  refine ⟨fun tag hnone => ?_, fun r hr ok => ?_, fun hreads => ?_⟩
  · have hfind := State.findTag_eq_none hnone
    exact ⟨fun h => cardRow_refused ready (.drop tag) k (editGate_of_edits h) (State.doDrop_notFound hfind),
      fun h => cardRow_refused ready (.rearm tag) k (rearmGate_of_running h tag) (State.doRearm_notFound hfind),
      fun h => cardRow_refused ready (.query tag) k (readGate_of_reads h) (State.doQuery_notFound hfind)⟩
  · have hfind := State.findTag_eq_some ok hr
    exact ⟨fun h hneed hfull =>
        cardRow_refused ready (.drop r.tag) k (editGate_of_edits h) (State.doDrop_backlog hfind hneed hfull),
      fun h hstate =>
        cardRow_refused ready (.rearm r.tag) k (rearmGate_of_running h r.tag) (State.doRearm_state hfind hstate)⟩
  · have hgate := readGate_of_reads hreads
    refine ⟨fun cls index h => cardRow_refused ready (.readEntry cls index) k hgate (State.doReadEntry_noList h),
      fun cls index h hi => ?_,
      fun slot h => cardRow_refused ready (.readPeer slot) k hgate (State.doReadPeer_range h)⟩
    rw [← State.classList_length] at hi ⊢
    exact cardRow_refused ready (.readEntry cls index) k hgate (State.doReadEntry_pastEnd h hi)

/-- Settles O15: each read answers the bytes of what it names, on the state as it stands. -/
theorem readsAnswer : Obligations.ReadsAnswer := by
  intro k s ready hreads
  have hgate := readGate_of_reads hreads
  refine ⟨fun r hr ok => ?_, fun cls index r h hi => ?_, fun slot h => ?_, ?_⟩
  · rw [← recordBytes_eq_items]
    exact cardRow_taken ready (.query r.tag) k hgate (State.doQuery_found (State.findTag_eq_some ok hr))
  · rw [← recordBytes_eq_items, ← State.classList_length]
    exact cardRow_taken ready (.readEntry cls index) k hgate (State.doReadEntry_found h hi)
  · refine (cardRow_taken ready (.readPeer slot) k hgate (State.doReadPeer_taken h)).trans ?_
    refine congrArg (fun p => Host.Outcome.next (s.answered (3 + k) 0x25 .ok p)) ?_
    show peerBytes slot (s.peer slot) = _
    rcases s.peer slot with ⟨_, _, _, _ | _ | _ | _, _, _ | _, _, _, _, _⟩ <;> rfl
  · refine (cardRow_taken ready .readNotices k hgate rfl).trans ?_
    refine congrArg
      (fun p => Host.Outcome.next (State.answered (2 + k) 0x30 .ok p { s with notices := s.notices.drop 4 })) ?_
    rw [← List.length_drop, ← List.length_take]
    refine congrArg _ (List.flatMap_congr fun n _ => ?_)
    unfold noticeBytes
    cases n.kind with
    | refused cause => cases cause <;> rfl
    | opened | clashed | deferred | removed | laneMoved => rfl

end

section
/-! What a posting and a restart of a roll change of the peer records and the requests, and PROVISION (O10, O11). -/

namespace Sys2Proof.Machine

section Postings

variable {s t : State} {req r : Request} {p q : Nat}

/-! ### Requests that are owed (R128, R129) -/

theorem State.owes_congr (hline : t.line = s.line) (hpeers : t.peers = s.peers) : t.owes r ↔ s.owes r := by
  have : t.wanted r = s.wanted r := by cases r <;> simp only [State.wanted, State.peer, hline, hpeers]
  rw [State.owes, hline, this]

/-- Every want mark that is set in one record is set in the other. -/
structure WantMarks.Within (w v : WantMarks) : Prop where
  roll : w.roll = true → v.roll = true
  rollOffer : w.rollOffer = true → v.rollOffer = true
  singleOffer : w.singleOffer = true → v.singleOffer = true
  answer : w.answer = true → v.answer = true
  release : w.release = true → v.release = true

theorem WantMarks.Within.refl (w : WantMarks) : w.Within w := ⟨id, id, id, id, id⟩

/-- Where no want mark goes, what is wanted stays wanted. -/
theorem State.wanted_mono (hbeacon : s.line.beaconWant = true → t.line.beaconWant = true)
    (hpeer : ∀ p, (s.peer p).wants.Within (t.peer p).wants) (h : s.wanted r = true) : t.wanted r = true := by
  cases r with
  | beacon => exact hbeacon h
  | roll p => exact (hpeer p).roll h
  | rollOffer p => exact (hpeer p).rollOffer h
  | singleOffer p => exact (hpeer p).singleOffer h
  | answer p => exact (hpeer p).answer h
  | release p => exact (hpeer p).release h

theorem State.within_updPeer {f : Peer → Peer} (hf : ∀ x : Peer, x.wants.Within (f x).wants) (q : Nat) :
    (s.peer q).wants.Within ((s.updPeer p f).peer q).wants := by
  rw [State.peer_updPeer]
  split
  · obtain ⟨rfl, _⟩ := ‹_ ∧ _›
    exact hf _
  · exact .refl _

/-- Setting a want mark clears none. -/
theorem State.wanted_setWant (h : s.wanted r = true) : (s.setWant req true).wanted r = true := by
  cases req with
  | beacon => exact State.wanted_mono (s := s) (fun _ => rfl) (fun _ => .refl _) h
  | roll p | rollOffer p | singleOffer p | answer p | release p =>
    exact State.wanted_mono (s := s) id (State.within_updPeer fun x => by constructor <;> simp) h

/-- A posting leaves what is owed owed. -/
theorem State.owes_request (h : s.owes r) : (s.request req).owes r := by
  rcases h with h | h
  · exact .inl (State.mem_request req h)
  · refine .inr ?_
    rcases s.request_cases req with ⟨_, e⟩ | ⟨_, _, e⟩ | ⟨_, _, e⟩ <;> rw [e]
    · exact h
    · exact State.wanted_mono (s := s) id (fun _ => .refl _) h
    · exact State.wanted_setWant h

/-- What is posted for a slot of the peer table is owed. -/
theorem State.owes_request_self (h : ∀ p, req.peer = some p → p < s.peers.length) : (s.request req).owes req := by
  rcases s.request_cases req with ⟨hmem, e⟩ | ⟨_, _, e⟩ | ⟨_, _, e⟩ <;> rw [State.owes, e]
  · exact .inl hmem
  · exact .inl (by simp)
  · refine .inr ?_
    cases req with
    | beacon => rfl
    | roll p | rollOffer p | singleOffer p | answer p | release p =>
      simp [State.setWant, State.wanted, State.peer_updPeer, h p rfl]

theorem State.owes_pass (h : s.owes r) : (s.pass p).owes r := by
  unfold State.pass
  split
  · exact State.owes_request h
  · exact h

theorem State.owes_checkSingle (h : s.owes r) : (s.checkSingle p).owes r := by
  unfold State.checkSingle
  split
  · exact State.owes_request h
  · exact h

theorem State.owes_judgeEnd (h : s.owes r) : s.judgeEnd.owes r := by
  unfold State.judgeEnd
  split
  · exact State.owes_request ((State.owes_congr (by simp) (by simp)).mpr h)
  · exact h

theorem State.owes_setRollOut {x : RollOut} (h : s.owes r) : (s.setRollOut p x).owes r := by
  refine h.imp id (State.wanted_mono (s := s) id ?_)
  exact State.within_updPeer fun x => .refl x.wants

theorem State.owes_restartRoll (h : s.owes r) : (s.restartRoll p).owes r := by
  unfold State.restartRoll
  split
  · exact State.owes_checkSingle (State.owes_pass (State.owes_setRollOut h))
  · exact h

/-! ### Peer records -/

/-- A posting changes no more of a peer record than its want marks. -/
theorem State.peer_request (req : Request) (q : Nat) (s : State) :
    ∃ w, (s.request req).peer q = { s.peer q with wants := w } := by
  rcases s.request_cases req with ⟨_, e⟩ | ⟨_, _, e⟩ | ⟨_, _, e⟩ <;> rw [e]
  · exact ⟨_, rfl⟩
  · exact ⟨_, rfl⟩
  · cases req with
    | beacon => exact ⟨_, rfl⟩
    | roll p | rollOffer p | singleOffer p | answer p | release p =>
      simp only [State.setWant, State.peer_updPeer]
      split <;> [(obtain ⟨rfl, _⟩ := ‹_ ∧ _›; exact ⟨_, rfl⟩); exact ⟨_, rfl⟩]

theorem State.peer_setRollOut (p q : Nat) (x : RollOut) (s : State) : (s.setRollOut p x).peer q =
    { s.peer q with rollOut := if q = p ∧ p < s.peers.length then x else (s.peer q).rollOut } := by
  simp only [State.setRollOut, State.peer_updPeer]
  split <;> [(obtain ⟨rfl, _⟩ := ‹_ ∧ _›; rfl); rfl]

theorem State.peer_pass (p q : Nat) (s : State) : ∃ w, (s.pass p).peer q = { s.peer q with wants := w } := by
  unfold State.pass
  split
  · exact s.peer_request _ q
  · exact ⟨_, rfl⟩

theorem State.peer_checkSingle (p q : Nat) (s : State) :
    ∃ w, (s.checkSingle p).peer q = { s.peer q with wants := w } := by
  unfold State.checkSingle
  split
  · exact s.peer_request _ q
  · exact ⟨_, rfl⟩

theorem State.peer_judgeEnd (q : Nat) (s : State) : ∃ w, s.judgeEnd.peer q = { s.peer q with wants := w } := by
  unfold State.judgeEnd
  split
  · obtain ⟨w, hw⟩ := State.peer_request .beacon q
      { State.raise .relinkDone (s.setStation .service) with sweep := { s.sweep with beaconCount := 0 } }
    refine ⟨w, ?_⟩
    simpa [State.announce, State.peer] using hw
  · exact ⟨_, rfl⟩

/-- A peer that is up stands in the peer table. -/
theorem State.lt_of_up (h : (s.peer p).up = true) : p < s.peers.length := by
  by_contra hp
  rw [State.peer_of_length_le (Nat.not_lt.mp hp)] at h
  cases h

theorem State.lt_of_sending (h : (s.peer p).rollOut = .sending) : p < s.peers.length := by
  by_contra hp
  rw [State.peer_of_length_le (Nat.not_lt.mp hp)] at h
  cases h

end Postings

/-! ### Single claims and the restart of a roll (R71, R73) -/

theorem State.mem_towards {p : Nat} {r : Circuit} {s : State} (h : r ∈ s.records) (hcls : r.cls ≤ 3)
    (hp : r.farSlot = p) : r ∈ s.towards p := by
  have : r.cls = 0 ∨ r.cls = 1 ∨ r.cls = 2 ∨ r.cls = 3 := by omega
  simpa [State.towards, State.classOrder, State.classList, h, hp, or_assoc] using this

/-- The check for a single claim posts the OFFER where its three conditions hold (R73). -/
theorem State.checkSingle_owes {p : Nat} {r : Circuit} {s : State} (hrun : s.running = true)
    (hup : (s.peer p).up = true) (hr : r ∈ s.towards p) (hwait : r.waiting = true) :
    (s.checkSingle p).owes (.singleOffer p) := by
  have : (s.towards p).any Circuit.waiting = true := List.any_eq_true.mpr ⟨r, hr, hwait⟩
  simp only [State.checkSingle, hrun, hup, this, Bool.and_self, if_true]
  exact State.owes_request_self (fun _ e => by cases e; exact State.lt_of_up hup)

/-- A restart clears the roll marks towards its peer and no other field of a record (R71). -/
theorem State.restartRoll_records (p : Nat) (s : State) : (s.restartRoll p).records =
    s.records.map (fun r =>
      if (s.peer p).rollOut = .sending ∧ r.farSlot = p then { r with rollMark := false } else r) := by
  unfold State.restartRoll
  by_cases h : (s.peer p).rollOut = .sending <;> simp [h, State.clearRollMarks, State.mapTowards]

/-- A restart makes a SENDING roll OWED, and changes no more of the peer records than that and want marks (R71). -/
theorem State.restartRoll_peer (p q : Nat) (s : State) : ∃ w, (s.restartRoll p).peer q =
    { s.peer q with
        wants := w
        rollOut := if q = p ∧ (s.peer p).rollOut = .sending then .owed else (s.peer q).rollOut } := by
  unfold State.restartRoll
  by_cases h : (s.peer p).rollOut = .sending
  · obtain ⟨w, hw⟩ := State.peer_checkSingle p q (((s.clearRollMarks p).setRollOut p .owed).pass p)
    obtain ⟨v, hv⟩ := State.peer_pass p q ((s.clearRollMarks p).setRollOut p .owed)
    refine ⟨w, ?_⟩
    rw [if_pos h, hw, hv]
    have hlt : p < (s.clearRollMarks p).peers.length := State.lt_of_sending h
    simp only [State.peer_setRollOut, hlt, h]
    rfl
  · exact ⟨(s.peer q).wants, by simp [h]⟩

/-- A restart posts the ROLL where the roll is releasable (R66, R71). -/
theorem State.restartRoll_owes {p : Nat} {s : State} (h : (s.peer p).rollOut = .sending) (hup : (s.peer p).up = true)
    (hst : s.ctl.st = .service ∨ s.ctl.st = .relink ∧ s.ctl.listenOver = true) : (s.restartRoll p).owes (.roll p) := by
  have hlt : p < (s.clearRollMarks p).peers.length := State.lt_of_sending h
  have hrel : ((s.clearRollMarks p).setRollOut p .owed).releasable p = true := by
    have howed : (((s.clearRollMarks p).setRollOut p .owed).peer p).rollOut = .owed := by
      rw [State.peer_setRollOut]
      exact if_pos ⟨rfl, hlt⟩
    have hstays : (((s.clearRollMarks p).setRollOut p .owed).peer p).up = true := by
      rw [State.peer_setRollOut]
      exact hup
    have hctl : ((s.clearRollMarks p).setRollOut p .owed).ctl = s.ctl := rfl
    rcases hst with hst | ⟨hst, hover⟩ <;> simp [State.releasable, *]
  simp only [State.restartRoll, if_pos h, State.pass, if_pos hrel]
  refine State.owes_checkSingle (State.owes_request_self fun _ e => ?_)
  cases e
  simpa [State.setRollOut, State.updPeer, State.setPeer, State.clearRollMarks] using State.lt_of_sending h

end Sys2Proof.Machine

end

section
/-! PROVISION: its checks in their order and what is entered when they pass (O10, O11). -/

namespace Sys2Proof.Machine

section Checks

variable {f : ProvisionFields} {s : State}

/-- A table of 64 records uses every local port (R2, R6). -/
theorem State.port_of_full (ok : s.tableOk) (full : 64 ≤ s.records.length) {p : Nat} (hp : p ≤ 63) :
    ∃ r ∈ s.records, r.localPort = p := by
  obtain ⟨_, _, hport, _, _, hall⟩ := ok
  have hsub : s.records.map (·.localPort) ⊆ List.range 64 := by
    intro x hx
    obtain ⟨r, hr, rfl⟩ := List.mem_map.mp hx
    obtain ⟨_, _, hle, _⟩ := hall r hr
    exact List.mem_range.mpr (by omega)
  have hperm := (List.subperm_of_subset hport hsub).perm_of_length_le (by simpa using full)
  simpa using hperm.mem_iff.mpr (List.mem_range.mpr (by omega : p < 64))

/-- A table that is not full has a free place (R4). -/
theorem State.exists_lowestFree (h : s.records.length < 64) : ∃ p, s.LowestFree p := by
  cases e : s.freePlace with
  | some p => exact ⟨p, (s.freePlace_eq_some_iff p).mp e⟩
  | none =>
    have hsub : List.range 64 ⊆ s.records.map (·.place) := by
      intro p hp
      simpa using List.find?_eq_none.mp e p hp
    have := (List.subperm_of_subset List.nodup_range hsub).length_le
    simp only [List.length_range, List.length_map] at this
    omega

theorem State.freePlace_of_port (ok : s.tableOk) (hrange : ¬ f.OutOfRange s)
    (hport : ¬ ∃ r ∈ s.records, r.localPort = f.localPort) : ∃ p, s.LowestFree p := by
  refine State.exists_lowestFree (Nat.lt_of_not_le fun full => hport (State.port_of_full ok full ?_))
  simp only [ProvisionFields.OutOfRange, not_or] at hrange
  omega

/-! ### The checks in their order (R6) -/

theorem State.provisionRefusal_range (h : f.OutOfRange s) : s.provisionRefusal f = some .range := by
  simp [State.provisionRefusal, (s.provisionRange_iff f).mpr h]

theorem State.provisionRange_eq_false (h : ¬ f.OutOfRange s) : s.provisionRange f = false :=
  Bool.eq_false_iff.mpr fun e => h ((s.provisionRange_iff f).mp e)

theorem State.provisionRefusal_duplicate (h : ¬ f.OutOfRange s) (hdup : ∃ r ∈ s.records, r.tag = f.tag) :
    s.provisionRefusal f = some .duplicate := by
  have : s.records.any (fun r => r.tag == f.tag) = true := by simpa using hdup
  simp [State.provisionRefusal, State.provisionRange_eq_false h, this]

theorem State.provisionRefusal_port (h : ¬ f.OutOfRange s) (hdup : ¬ ∃ r ∈ s.records, r.tag = f.tag)
    (hport : ∃ r ∈ s.records, r.localPort = f.localPort) : s.provisionRefusal f = some .portTaken := by
  have htag : s.records.any (fun r => r.tag == f.tag) = false := by simpa using hdup
  have : s.records.any (fun r => r.localPort == f.localPort) = true := by simpa using hport
  simp [State.provisionRefusal, State.provisionRange_eq_false h, htag, this]

/-- Past the first three checks the lanes decide. -/
theorem State.provisionRefusal_lanes (h : ¬ f.OutOfRange s) (hdup : ¬ ∃ r ∈ s.records, r.tag = f.tag)
    (hport : ¬ ∃ r ∈ s.records, r.localPort = f.localPort) {p : Nat} (hfree : s.LowestFree p) :
    s.provisionRefusal f = if s.laneTaken (ProvisionFields.fixed f) then some .laneTaken else none := by
  have htag : s.records.any (fun r => r.tag == f.tag) = false := by simpa using hdup
  have hnone : s.records.any (fun r => r.localPort == f.localPort) = false := by simpa using hport
  simp [State.provisionRefusal, State.provisionRange_eq_false h, htag, hnone, (s.freePlace_eq_some_iff p).mpr hfree]

theorem State.doProvision_refused {c : ResultCode} (h : s.provisionRefusal f = some c) :
    s.doProvision f = .refuse c (wordBytes f.tag) := by
  simp [State.doProvision, h]

/-- What passes the checks is entered in the lowest free place. -/
theorem State.doProvision_taken {p : Nat} (hfree : s.LowestFree p) (hrange : ¬ f.OutOfRange s)
    (hdup : ¬ ∃ r ∈ s.records, r.tag = f.tag) (hport : ¬ ∃ r ∈ s.records, r.localPort = f.localPort)
    (hlane : ¬ f.LaneInUse s) :
    s.doProvision f = .take (s.takeProvision f p) (wordBytes f.tag ++ [relinkByte (s.entryState f.farSlot)]) := by
  have hpass := State.provisionRefusal_lanes hrange hdup hport hfree
  rw [if_neg (mt (s.laneTaken_iff f).mp hlane)] at hpass
  simp [State.doProvision, hpass, (s.freePlace_eq_some_iff p).mpr hfree]

end Checks

/-! ### The effects (R7, R8) -/

/-- The table edit of a PROVISION (R7). -/
def State.entering (x : Circuit) (s : State) : State := State.closeEdit { s with records := s.records ++ [x] }

theorem State.entering_records (x : Circuit) (s : State) : (s.entering x).records = s.records ++ [x] := rfl

/-- In SETUP a PROVISION is its table edit alone (R7). -/
theorem State.takeProvision_setup {s : State} (h : s.running = false) (f : ProvisionFields) (p : Nat) :
    s.takeProvision f p = s.entering (f.entered p .parked false) := by
  simp only [State.takeProvision, h, State.newRecord_eq_entered, State.entryState]
  rfl

section Running

variable {f : ProvisionFields} {p : Nat} {s : State}

/-- In RELINK and SERVICE the claim is let go and a SENDING roll restarts (R8, R71). -/
theorem State.takeProvision_running (h : s.running = true) (f : ProvisionFields) (p : Nat) :
    s.takeProvision f p = (((s.entering (s.newRecord f p)).checkSingle f.farSlot).restartRoll f.farSlot).judgeEnd := by
  simp only [State.takeProvision, h]
  rfl

/-- The blocks that a PROVISION in RELINK or SERVICE leaves as they are. -/
theorem State.takeProvision_running_keeps (h : s.running = true) :
    (s.takeProvision f p).store = (s.entering (s.newRecord f p)).store ∧ (s.takeProvision f p).notices = s.notices ∧
      (s.takeProvision f p).hw = s.hw ∧ (s.takeProvision f p).seq = s.seq := by
  rw [State.takeProvision_running h]
  simp [State.entering]

theorem State.takeProvision_sumZero (h : s.running = true) : (s.takeProvision f p).sumZero = true := by
  rw [State.takeProvision_running h]
  exact ((State.Tends.refl _).checkSingle.restartRoll.judgeEnd).sum (State.closeEdit_sumZero _)

theorem State.checkSingle_rollOut (p q : Nat) (s : State) :
    ((s.checkSingle p).peer q).rollOut = (s.peer q).rollOut := by
  obtain ⟨_, h⟩ := s.peer_checkSingle p q
  rw [h]

/-- The new record stands at the end; where its roll restarts the marks towards its far slot are cleared (R5, R71). -/
theorem State.takeProvision_records (h : s.running = true) : (s.takeProvision f p).records =
    s.records.map (fun r => if (s.peer f.farSlot).rollOut = .sending ∧ r.farSlot = f.farSlot then
      { r with rollMark := false } else r) ++ [s.newRecord f p] := by
  simp only [State.takeProvision_running h, State.judgeEnd_keeps, State.restartRoll_records, State.checkSingle_rollOut,
    State.checkSingle_keeps, State.entering_records, List.map_append]
  refine congrArg _ ?_
  simp only [List.map_cons, List.map_nil]
  split <;> rfl

/-- A roll that is SENDING to the far slot is OWED (R71). -/
theorem State.takeProvision_rollOut (h : s.running = true) : ((s.takeProvision f p).peer f.farSlot).rollOut =
    if (s.peer f.farSlot).rollOut = .sending then .owed else (s.peer f.farSlot).rollOut := by
  rw [State.takeProvision_running h]
  obtain ⟨_, hend⟩ := State.peer_judgeEnd f.farSlot
    (((s.entering (s.newRecord f p)).checkSingle f.farSlot).restartRoll f.farSlot)
  obtain ⟨_, hroll⟩ := State.restartRoll_peer f.farSlot f.farSlot ((s.entering (s.newRecord f p)).checkSingle f.farSlot)
  rw [hend, hroll]
  simp only [State.checkSingle_rollOut, true_and]
  rfl

/-- Its single OFFER is posted where its peer is up (R8, R73). -/
theorem State.takeProvision_owes_offer (h : s.running = true) (hcls : f.cls ≤ 3)
    (hup : (s.peer f.farSlot).up = true) : (s.takeProvision f p).owes (.singleOffer f.farSlot) := by
  rw [State.takeProvision_running h]
  refine State.owes_judgeEnd (State.owes_restartRoll (State.checkSingle_owes (r := s.newRecord f p) h hup ?_ ?_))
  · exact State.mem_towards (by simp [State.entering_records]) hcls rfl
  · simpa [State.newRecord, Circuit.waiting] using h

/-- The ROLL of a restart is posted where it is releasable (R66, R71). -/
theorem State.takeProvision_owes_roll (h : s.running = true) (hsend : (s.peer f.farSlot).rollOut = .sending)
    (hover : s.ctl.st = .service ∨ s.ctl.listenOver = true) (hup : (s.peer f.farSlot).up = true) :
    (s.takeProvision f p).owes (.roll f.farSlot) := by
  rw [State.takeProvision_running h]
  obtain ⟨_, hpeer⟩ := (s.entering (s.newRecord f p)).peer_checkSingle f.farSlot f.farSlot
  refine State.owes_judgeEnd (State.restartRoll_owes ?_ ?_ ?_)
  · rw [hpeer]; exact hsend
  · rw [hpeer]; exact hup
  · simp only [State.checkSingle_keeps]
    rcases s.running_iff.mp h with hst | hst
    · exact hover.imp id (fun ho => ⟨hst, ho⟩)
    · exact .inl hst

end Running

/-- The card port after a command that has been taken. -/
theorem State.respond_card {s t : State} {n : Nat} {code : Byte} {r : ResultCode} {p : List Byte}
    (h : t.card = (s.endTransfer n).card) : (t.respond code r p).card = (s.answered n code r p).card := by
  simp only [State.respond, h]
  rfl

/-- A PROVISION that passes its checks is entered in the lowest free place, and answers with its relink state (R173). -/
theorem exec_provision_taken {k p : Nat} {f : ProvisionFields} {s : State} (ready : s.portReady) (edits : s.edits)
    (hfree : s.LowestFree p) (hrange : ¬ f.OutOfRange s)
    (hnew : ∀ r ∈ s.records, r.tag ≠ f.tag ∧ r.localPort ≠ f.localPort) (hlane : ¬ f.LaneInUse s) :
    exec (.provision k f) s = .next (State.respond 0x20 .ok (wordBytes f.tag ++ [relinkByte (s.entryState f.farSlot)])
      ((s.endTransfer (14 + k)).takeProvision f p)) :=
  cardRow_taken ready (.provision f) k (editGate_of_edits edits)
    (State.doProvision_taken (s := s.endTransfer (14 + k)) hfree hrange
      (fun ⟨r, hr, e⟩ => (hnew r hr).1 e) (fun ⟨r, hr, e⟩ => (hnew r hr).2 e) hlane)

end Sys2Proof.Machine

open Sys2Proof Sys2Proof.Machine

/-- Settles O10: each refusal is that of the first check that fails; a full table holds every port. -/
theorem provisionByChecks : Obligations.ProvisionByChecks := by
  intro k f s ready refused dup port
  refine ⟨fun h => cardRow_gated ready (.provision f) k (by rw [h]; rfl),
    fun h => cardRow_gated ready (.provision f) k (by rcases h with h | h <;> rw [h] <;> rfl),
    fun edits => ?_⟩
  have gate : (CardCommand.provision f).gate s.ctl.st = none := editGate_of_edits edits
  have refuse {r : ResultCode} (h : s.provisionRefusal f = some r) : refused r :=
    cardRow_refused ready (.provision f) k gate (State.doProvision_refused h)
  refine ⟨fun h => refuse (State.provisionRefusal_range h),
    fun h hdup => refuse (State.provisionRefusal_duplicate h hdup),
    fun h hdup hport => refuse (State.provisionRefusal_port h hdup hport), fun ok full h hdup => ?_,
    fun ok h hdup hport hlane => ?_, fun ok h hdup hport hlane => ?_⟩
  · refine refuse (State.provisionRefusal_port h hdup (State.port_of_full ok full.ge ?_))
    simp only [ProvisionFields.OutOfRange, not_or] at h
    omega
  · obtain ⟨p, hfree⟩ := State.freePlace_of_port ok h hport
    refine refuse ?_
    rw [State.provisionRefusal_lanes h hdup hport hfree, if_pos ((s.laneTaken_iff f).mpr hlane)]
  · obtain ⟨p, hfree⟩ := State.freePlace_of_port ok h hport
    have hnew : ∀ r ∈ s.records, r.tag ≠ f.tag ∧ r.localPort ≠ f.localPort :=
      fun r hr => ⟨fun e => hdup ⟨r, hr, e⟩, fun e => hport ⟨r, hr, e⟩⟩
    refine ⟨_, exec_provision_taken ready edits hfree h hnew hlane, rfl,
      (s.endTransfer (14 + k)).newRecord f p, ?_, rfl, rfl⟩
    rw [State.respond_records]
    cases run : (s.endTransfer (14 + k)).running
    · rw [State.takeProvision_setup run, State.newRecord_eq_entered]
      simp [State.entering_records, State.entryState, run]
    · rw [State.takeProvision_records run]
      simp

/-- Settles O11: the table edit, the claim that is let go, and the restart beside it. -/
theorem provisionTaken : Obligations.ProvisionTaken := by
  intro k p f s ready hfree hrange hnew hlane
  have taken (edits : s.edits) := exec_provision_taken (k := k) ready edits hfree hrange hnew hlane
  refine ⟨fun hst => ?_, fun run => ?_⟩
  · have still : s.running = false := by simp [State.running, hst]
    have entry : s.entryState f.farSlot = .parked := by simp [State.entryState, still]
    rw [taken (.inl hst), entry, State.takeProvision_setup (s := s.endTransfer (14 + k)) still]
    exact ⟨_, _, rfl, State.closeEdit_sumZero _, rfl⟩
  · have run' : (s.endTransfer (14 + k)).running = true := run
    have entry : s.entryState f.farSlot = if (s.peer f.farSlot).up = true then .parked else .deferred := by
      cases hup : (s.peer f.farSlot).up <;> simp [State.entryState, run, hup]
    obtain ⟨hstore, hnotices, hhw, hseq⟩ := State.takeProvision_running_keeps (f := f) (p := p) run'
    have hsum := State.takeProvision_sumZero (f := f) (p := p) run'
    have hrecords := State.takeProvision_records (f := f) (p := p) run'
    have hroll := State.takeProvision_rollOut (f := f) (p := p) run'
    have howesRoll := State.takeProvision_owes_roll (f := f) (p := p) run'
    have howesOffer := State.takeProvision_owes_offer (f := f) (p := p) run' (by
      simp only [ProvisionFields.OutOfRange, not_or] at hrange
      omega)
    obtain ⟨_, hcard, _⟩ := (s.endTransfer (14 + k)).takeProvision_keeps f p
    rw [taken (State.edits_of_running run)]
    generalize (s.endTransfer (14 + k)).takeProvision f p = t at *
    refine ⟨_, _, rfl, hsum, ?_, hroll, howesRoll, howesOffer, hstore, hnotices, hhw, hseq, ?_⟩
    · rw [State.respond_records, hrecords, State.newRecord_eq_entered]
      show _ ++ [f.entered p (s.entryState f.farSlot) s.running] = _
      rw [entry, run]
      rfl
    · rw [State.respond_card hcard, entry]
      cases (s.peer f.farSlot).up <;> rfl

end

section
/-! What an attempt and the judgement after a change leave unchanged, and DROP (O12). -/

namespace Sys2Proof.Machine

/-! ### Attempts (5.1, 5.2) -/

section Attempt

variable {s : State}

/-- The candidate is a record of the table (R91). -/
theorem State.mem_of_candidate {r : Circuit} (h : s.candidate = some r) : r ∈ s.records := by
  unfold State.candidate at h
  split at h
  · cases h
  · exact List.mem_of_mem_filter (List.mem_of_find?_eq_some h)

/-- Starting a probe changes relink fields of its candidate alone (R92). -/
theorem State.startProbe_map {β : Type} (g : Circuit → β) (hg : ∀ k r, g (r.enter (.probing k) false 0) = g r)
    (r : Circuit) (k : Nat) (s : State) : (s.startProbe r k).records.map g = s.records.map g := by
  simp only [State.startProbe, State.enter, reduceCtorEq, if_false, State.judgeLamp_keeps, State.mapRec_records,
    List.map_map]
  refine List.map_congr_left fun x _ => ?_
  simp only [Function.comp]
  split <;> simp only [hg]

/-- Starting a probe holds one slot more, for its candidate (R115). -/
theorem State.mem_startProbe_probes {r : Circuit} {k : Nat} {p : Probe} (h : p ∈ (s.startProbe r k).hw.probes) :
    p ∈ s.hw.probes ∨ p.place = r.place := by
  simp only [State.startProbe, State.enter_keeps, List.mem_append, List.mem_singleton] at h
  exact h.imp id (fun e => by rw [e])

/-- What a change to PROBING leaves of every record, an attempt leaves. -/
theorem State.attemptTurns_map {β : Type} (g : Circuit → β) (hg : ∀ k r, g (r.enter (.probing k) false 0) = g r)
    (n : Nat) (s : State) : (s.attemptTurns n).records.map g = s.records.map g := by
  induction n generalizing s with
  | zero => rfl
  | succ n ih =>
    unfold State.attemptTurns
    split
    · split
      · rw [ih, State.startProbe_map g hg]
      · rfl
    · rfl

/-- The slots held after an attempt were held before it, or are those of records of the table. -/
theorem State.attemptTurns_probes {n : Nat} {p : Probe} (h : p ∈ (s.attemptTurns n).hw.probes) :
    p ∈ s.hw.probes ∨ p.place ∈ s.records.map (·.place) := by
  induction n generalizing s with
  | zero => exact .inl h
  | succ n ih =>
    unfold State.attemptTurns at h
    split at h
    · rename_i r k hr _
      split at h
      · rcases ih h with h | h
        · refine (State.mem_startProbe_probes h).imp id fun e => ?_
          rw [e]
          exact List.mem_map_of_mem (State.mem_of_candidate hr)
        · exact .inr (State.startProbe_map (fun x => x.place) (fun _ _ => rfl) r k s ▸ h)
      · exact .inl h
    · exact .inl h

end Attempt

/-! ### After a change (R94, R156) -/

section Settle

variable {s : State} {cause : Bool}

/-- After a change the station attempts, where the change is a cause of it, and then judges the end of RELINK. -/
theorem State.settleChange_cases (cause : Bool) (s : State) :
    s.settleChange cause = s.judgeEnd ∨ s.settleChange cause = (s.attemptTurns 4).judgeEnd := by
  cases cause
  · exact .inl rfl
  · simp only [State.settleChange, State.attempt, if_true]
    split
    · exact .inr rfl
    · exact .inl rfl

theorem State.settleChange_map {β : Type} (g : Circuit → β) (hg : ∀ k r, g (r.enter (.probing k) false 0) = g r) :
    (s.settleChange cause).records.map g = s.records.map g := by
  rcases s.settleChange_cases cause with e | e <;> rw [e, (State.judgeEnd_keeps _).1]
  exact State.attemptTurns_map g hg 4 s

theorem State.settleChange_probes {p : Probe} (h : p ∈ (s.settleChange cause).hw.probes) :
    p ∈ s.hw.probes ∨ p.place ∈ s.records.map (·.place) := by
  rcases s.settleChange_cases cause with e | e <;> rw [e] at h <;> simp only [State.judgeEnd_keeps] at h
  · exact .inl h
  · exact State.attemptTurns_probes h

theorem State.settleChange_peer (q : Nat) : ∃ w, (s.settleChange cause).peer q = { s.peer q with wants := w } := by
  rcases s.settleChange_cases cause with e | e <;> rw [e]
  · exact s.peer_judgeEnd q
  · obtain ⟨w, hw⟩ := (s.attemptTurns 4).peer_judgeEnd q
    have : (s.attemptTurns 4).peer q = s.peer q := by simp [State.peer]
    exact ⟨w, by rw [hw, this]⟩

theorem State.settleChange_owes {r : Request} (h : s.owes r) : (s.settleChange cause).owes r := by
  rcases s.settleChange_cases cause with e | e <;> rw [e]
  · exact State.owes_judgeEnd h
  · exact State.owes_judgeEnd ((State.owes_congr (by simp) (by simp)).mpr h)

/-- No event follows but RELINK_DONE (R156). -/
theorem State.settleChange_events :
    (s.settleChange cause).events = s.events ∨ (s.settleChange cause).events = s.events.raise .relinkDone := by
  have judged (u : State) : u.judgeEnd.events = u.events ∨ u.judgeEnd.events = u.events.raise .relinkDone := by
    unfold State.judgeEnd
    split
    · exact .inr (by simp [State.raise])
    · exact .inl rfl
  rcases s.settleChange_cases cause with e | e <;> rw [e]
  · exact judged s
  · simpa only [State.attemptTurns_keeps] using judged (s.attemptTurns 4)

end Settle

/-! ### Removal (R9, R10) -/

section Removal

variable {s : State} {r : Circuit}

theorem State.removeRecord_records (r : Circuit) (s : State) :
    (s.removeRecord r).records = s.records.filter (fun x => x.place != r.place) := by
  simp [State.removeRecord]

theorem State.removeRecord_sumZero (r : Circuit) (s : State) : (s.removeRecord r).sumZero = true := by
  unfold State.removeRecord
  exact ((State.Tends.refl _).judgeLamp).sum (State.closeEdit_sumZero _)

/-- A removal frees the probe slot of its record (R9, R117). -/
theorem State.removeRecord_probes (ok : s.tableOk) (probes : s.probesOk) (hr : r ∈ s.records) {p : Probe}
    (hp : p ∈ (s.removeRecord r).hw.probes) : p.place ≠ r.place := by
  have hcancel : p ∈ (s.cancelProbe r).hw.probes := by simpa [State.removeRecord] using hp
  unfold State.cancelProbe at hcancel
  split at hcancel
  · have : p ∈ s.hw.probes ∧ p.place ≠ r.place := by simpa [State.freeProbe] using hcancel
    exact this.2
  · rename_i hstate
    intro e
    obtain ⟨_, _, _, holder, _⟩ := probes
    obtain ⟨x, hx, hplace, hprobing⟩ := holder p hcancel
    obtain rfl := (ok.place_eq_iff hx hr).mp (hplace.trans e)
    exact hstate (by rw [hprobing]; rfl)

/-- A tag put on a pending release list (R87). -/
theorem State.peer_appendRelease (p tag q : Nat) (s : State) : ∃ w, (s.appendRelease p tag).peer q =
    { s.peer q with
        wants := w
        releases := if q = p ∧ p < s.peers.length then (s.peer q).releases ++ [tag] else (s.peer q).releases } := by
  obtain ⟨w, hw⟩ := State.peer_request (.release p) q
    (s.updPeer p (fun x => { x with releases := x.releases ++ [tag] }))
  refine ⟨w, ?_⟩
  rw [State.appendRelease, hw, State.peer_updPeer]
  split <;> [(obtain ⟨rfl, _⟩ := ‹_ ∧ _›; rfl); rfl]

theorem State.lt_of_needsRelease (h : s.NeedsRelease r) : r.farSlot < s.peers.length := by
  by_contra hp
  have := h.2
  rw [State.peer_of_length_le (Nat.not_lt.mp hp)] at this
  cases this

/-- The removal of a dropped record, and the RELEASE where it is needed (R9, R10). -/
def State.releasing (r : Circuit) (s : State) : State :=
  if s.releaseNeeded r then (s.removeRecord r).appendRelease r.farSlot r.tag else s.removeRecord r

theorem State.releasing_keeps (r : Circuit) (s : State) : (s.releasing r).records = (s.removeRecord r).records ∧
    (s.releasing r).store = (s.removeRecord r).store ∧ (s.releasing r).hw = (s.removeRecord r).hw ∧
    (s.releasing r).events = s.events := by
  unfold State.releasing
  split <;> simp

theorem State.releasing_peer (r : Circuit) (q : Nat) (s : State) : ∃ w, (s.releasing r).peer q =
    { s.peer q with
        wants := w
        releases := if s.NeedsRelease r ∧ q = r.farSlot then (s.peer q).releases ++ [r.tag]
          else (s.peer q).releases } := by
  have hpeers : (s.removeRecord r).peers = s.peers := by simp
  have same : (s.removeRecord r).peer q = s.peer q := by simp [State.peer]
  unfold State.releasing
  by_cases hneed : s.NeedsRelease r
  · obtain ⟨w, hw⟩ := (s.removeRecord r).peer_appendRelease r.farSlot r.tag q
    refine ⟨w, ?_⟩
    rw [if_pos ((s.releaseNeeded_iff r).mpr hneed), hw, same, hpeers]
    simp only [and_iff_right hneed, State.lt_of_needsRelease hneed, and_true]
  · refine ⟨(s.peer q).wants, ?_⟩
    rw [if_neg (mt (s.releaseNeeded_iff r).mp hneed), same]
    simp only [hneed, false_and, if_false]

theorem State.releasing_rollOut (r : Circuit) (q : Nat) (s : State) :
    ((s.releasing r).peer q).rollOut = (s.peer q).rollOut := by
  obtain ⟨_, h⟩ := s.releasing_peer r q
  rw [h]

theorem State.releasing_owes (hneed : s.NeedsRelease r) : (s.releasing r).owes (.release r.farSlot) := by
  rw [State.releasing, if_pos ((s.releaseNeeded_iff r).mpr hneed)]
  refine State.owes_request_self fun _ e => ?_
  cases e
  simpa [State.updPeer, State.setPeer] using State.lt_of_needsRelease hneed

/-- A DROP taken is the removal with its RELEASE, the restart, and what follows a change (R10, R45, R71). -/
theorem State.takeDrop_eq (r : Circuit) (s : State) :
    s.takeDrop r = ((s.releasing r).restartRoll r.farSlot).settleChange (removalCause r.state) := rfl

/-- What neither roll marks nor a change to PROBING tell of stays as the removal leaves it. -/
theorem State.takeDrop_map {β : Type} (g : Circuit → β) (hmark : ∀ x : Circuit, g { x with rollMark := false } = g x)
    (henter : ∀ k x, g (x.enter (.probing k) false 0) = g x) (r : Circuit) (s : State) :
    (s.takeDrop r).records.map g = (s.records.filter (fun x => x.place != r.place)).map g := by
  rw [State.takeDrop_eq, State.settleChange_map g henter, State.restartRoll_records, (s.releasing_keeps r).1,
    State.removeRecord_records, List.map_map]
  refine List.map_congr_left fun x _ => ?_
  simp only [Function.comp]
  split <;> [exact hmark x; rfl]

theorem State.takeDrop_sumZero (r : Circuit) (s : State) : (s.takeDrop r).sumZero = true := by
  obtain ⟨hrecords, hstore, _⟩ := s.releasing_keeps r
  exact (((State.Tends.refl _).frame hrecords hstore).restartRoll.settleChange).sum (s.removeRecord_sumZero r)

/-- No probe slot is held by the place that a dropped record left (R9, R117). -/
theorem State.takeDrop_probes (ok : s.tableOk) (probes : s.probesOk) (hr : r ∈ s.records) {p : Probe}
    (hp : p ∈ (s.takeDrop r).hw.probes) : p.place ≠ r.place := by
  rw [State.takeDrop_eq] at hp
  rcases State.settleChange_probes hp with hp | hp
  · simp only [State.restartRoll_keeps, s.releasing_keeps r] at hp
    exact State.removeRecord_probes ok probes hr hp
  · rw [State.restartRoll_records, (s.releasing_keeps r).1, State.removeRecord_records] at hp
    simp only [List.map_map, List.mem_map, List.mem_filter, bne_iff_ne, Function.comp] at hp
    obtain ⟨x, ⟨_, hne⟩, e⟩ := hp
    rw [← e]
    split <;> exact hne

/-- The peer records after a DROP: release lists and roll-out states (R10, R71). -/
theorem State.takeDrop_peer (r : Circuit) (q : Nat) (s : State) : ∃ w, (s.takeDrop r).peer q =
    { s.peer q with
        wants := w
        releases := if s.NeedsRelease r ∧ q = r.farSlot then (s.peer q).releases ++ [r.tag] else (s.peer q).releases
        rollOut := if q = r.farSlot ∧ (s.peer r.farSlot).rollOut = .sending then .owed else (s.peer q).rollOut } := by
  obtain ⟨w, hsettle⟩ := State.settleChange_peer (s := (s.releasing r).restartRoll r.farSlot)
    (cause := removalCause r.state) q
  obtain ⟨_, hrestart⟩ := (s.releasing r).restartRoll_peer r.farSlot q
  obtain ⟨_, hrelease⟩ := s.releasing_peer r q
  refine ⟨w, ?_⟩
  rw [State.takeDrop_eq, hsettle, hrestart, s.releasing_rollOut, hrelease]

theorem State.takeDrop_owes (hneed : s.NeedsRelease r) : (s.takeDrop r).owes (.release r.farSlot) :=
  State.settleChange_owes (State.owes_restartRoll (State.releasing_owes hneed))

theorem State.takeDrop_events (r : Circuit) (s : State) :
    (s.takeDrop r).events = s.events ∨ (s.takeDrop r).events = s.events.raise .relinkDone := by
  have same : ((s.releasing r).restartRoll r.farSlot).events = s.events := by simp [s.releasing_keeps r]
  rw [State.takeDrop_eq, ← same]
  exact State.settleChange_events

/-- A restart leaves no roll mark towards the far slot (R71). -/
theorem State.takeDrop_rollMark (hsend : (s.peer r.farSlot).rollOut = .sending) {x : Circuit}
    (hx : x ∈ (s.takeDrop r).records) (hp : x.farSlot = r.farSlot) : x.rollMark = false := by
  have hmem : (x.farSlot, x.rollMark) ∈ (s.takeDrop r).records.map (fun x => (x.farSlot, x.rollMark)) :=
    List.mem_map_of_mem hx
  rw [State.takeDrop_eq, State.settleChange_map _ (fun _ _ => rfl), State.restartRoll_records] at hmem
  simp only [List.map_map, List.mem_map, Function.comp, s.releasing_rollOut, hsend, true_and] at hmem
  obtain ⟨y, _, e⟩ := hmem
  obtain ⟨hslot, hmark⟩ := Prod.mk.inj e
  rw [← hmark]
  split
  · rfl
  · rename_i hno
    rw [if_neg hno] at hslot
    exact absurd (hslot.trans hp) hno

end Removal

/-- A DROP that is taken, with its response (R173). -/
theorem exec_drop_taken {k : Nat} {r : Circuit} {s : State} (ready : s.portReady) (edits : s.edits) (ok : s.tableOk)
    (hr : r ∈ s.records) (hroom : s.NeedsRelease r → (s.peer r.farSlot).releases.length < 16) :
    exec (.drop k r.tag) s = .next (State.respond 0x21 .ok
      (wordBytes r.tag ++ [relinkByte r.state, if s.NeedsRelease r then 0x01 else 0x00])
      ((s.endTransfer (4 + k)).takeDrop r)) := by
  have hdrop : (s.endTransfer (4 + k)).doDrop r.tag = .take ((s.endTransfer (4 + k)).takeDrop r)
      (wordBytes r.tag ++ [relinkByte r.state, if s.releaseNeeded r then 0x01 else 0x00]) := by
    have hfind : (s.endTransfer (4 + k)).findTag r.tag = some r := State.findTag_eq_some ok hr
    have hbacklog : (s.releaseNeeded r && decide (listCapacity ≤ (s.peer r.farSlot).releases.length)) = false := by
      by_cases hneed : s.NeedsRelease r
      · exact Bool.and_eq_false_iff.mpr (.inr (decide_eq_false (Nat.not_le.mpr (hroom hneed))))
      · exact Bool.and_eq_false_iff.mpr (.inl (Bool.eq_false_iff.mpr (mt (s.releaseNeeded_iff r).mp hneed)))
    simp only [State.doDrop, hfind]
    exact if_neg (Bool.eq_false_iff.mp hbacklog)
  simp only [s.releaseNeeded_iff r] at hdrop
  exact cardRow_taken ready (.drop r.tag) k (editGate_of_edits edits) hdrop

end Sys2Proof.Machine

open Sys2Proof Sys2Proof.Machine

/-- Settles O12: the removal as one edit, the RELEASE, the restart, and then the attempt, which holds slots for records
that are left alone. -/
theorem dropTaken : Obligations.DropTaken := by
  intro k tag r s safe ready edits hr htag hroom
  subst htag
  have ok := safe.table
  rw [exec_drop_taken ready edits ok hr hroom]
  have hretained := (s.endTransfer (4 + k)).takeDrop_map Circuit.retained (fun _ => rfl) (fun _ _ => rfl) r
  have hsum := (s.endTransfer (4 + k)).takeDrop_sumZero r
  have hprobes (p : Probe) := State.takeDrop_probes (s := s.endTransfer (4 + k)) ok safe.probes hr (p := p)
  have hpeer (q : Nat) := (s.endTransfer (4 + k)).takeDrop_peer r q
  have howes := State.takeDrop_owes (s := s.endTransfer (4 + k)) (r := r)
  have hevents := (s.endTransfer (4 + k)).takeDrop_events r
  have hmark := State.takeDrop_rollMark (s := s.endTransfer (4 + k)) (r := r)
  obtain ⟨_, hcard, hnotices, _⟩ := (s.endTransfer (4 + k)).takeDrop_keeps r
  generalize (s.endTransfer (4 + k)).takeDrop r = t at *
  refine ⟨_, rfl, hsum, ?_, hprobes, fun q => ?_, howes, hnotices, fun hsend => ⟨?_, fun x => hmark hsend⟩, hevents,
    State.respond_card hcard⟩
  · rw [State.respond_records, hretained]
    refine congrArg _ (List.filter_congr fun x hx => ?_)
    have : x.place = r.place ↔ x.tag = r.tag := (ok.place_eq_iff hx hr).trans (ok.tag_eq_iff hx hr).symm
    rw [Bool.eq_iff_iff]
    simp [this]
  · obtain ⟨_, hq⟩ := hpeer q
    exact (congrArg Peer.releases hq)
  · obtain ⟨_, hq⟩ := hpeer r.farSlot
    exact (congrArg Peer.rollOut hq).trans (if_pos ⟨rfl, hsend⟩)

end

section
/-! The allowance, the probe slots and the PROBING records: what the agreement of O56 reads of a state, and the changes that
keep it (R22, R47, R97, R114). -/

namespace Sys2Proof.Machine

/-! ### What the agreement reads -/

/-- A relink state that records rest in where the station has come from SETUP (R22; log 29). -/
def Relink.Rests (x : Relink) : Prop := x = .parked ∨ (Config.setupRecordsDefer = true ∧ x = .deferred)

/-- The place and the relink state of a record. -/
def Circuit.stand (r : Circuit) : Nat × Relink := (r.place, r.state)

/-- The relink states of the table, place by place. -/
def State.stands (s : State) : List (Nat × Relink) := s.records.map Circuit.stand

/-- The HELD probe slots, each with the place it probes (R114). -/
def State.held (s : State) : List (Nat × Nat) := s.hw.probes.map (fun p => (p.place, p.slot))

/-- The station state with its return state; RELINK and SERVICE count as one, since RELINK ends in SERVICE by itself. -/
abbrev Phase := StationState × Option Announced

def State.phase (s : State) : Phase := (if s.running then .service else s.ctl.st, s.ctl.ret)

/-- RELINK or SERVICE. -/
def Phase.Running (φ : Phase) : Prop := φ.1 = .service

/-- SETUP, or a QUIESCE that returns to it. -/
def Phase.Resting (φ : Phase) : Prop := φ.1 = .setup ∨ (φ.1 = .quiesce ∧ φ.2 = some .setup)

/-- The table is fresh: no circuit can have been opened. -/
def Phase.Fresh (φ : Phase) : Prop := φ.1 = .starting ∨ φ.1 = .strapFault ∨ φ.Resting

theorem Phase.Running.not_fresh {φ : Phase} (h : φ.Running) : ¬ φ.Fresh := by
  simp only [Phase.Running] at h
  simp [Phase.Fresh, Phase.Resting, h]

theorem Phase.Running.not_resting {φ : Phase} (h : φ.Running) : ¬ φ.Resting := fun e => h.not_fresh (.inr (.inr e))

theorem State.phase_running_iff (s : State) : s.phase.Running ↔ s.running = true := by
  unfold State.phase Phase.Running
  by_cases h : s.running = true
  · simp [h]
  · have : s.ctl.st ≠ .service := fun e => h (by simp [State.running, e])
    simp [h, this]

theorem State.phase_resting_iff (s : State) :
    s.phase.Resting ↔ s.ctl.st = .setup ∨ (s.ctl.st = .quiesce ∧ s.ctl.ret = some .setup) := by
  unfold State.phase Phase.Resting
  by_cases h : s.running = true
  · rcases s.running_iff.mp h with e | e <;> simp [h, e]
  · simp [h]

theorem State.phase_fresh_iff (s : State) : s.phase.Fresh ↔ s.ctl.st = .starting ∨ s.ctl.st = .strapFault ∨
    s.ctl.st = .setup ∨ (s.ctl.st = .quiesce ∧ s.ctl.ret = some .setup) := by
  rw [Phase.Fresh, State.phase_resting_iff]
  unfold State.phase
  by_cases h : s.running = true
  · rcases s.running_iff.mp h with e | e <;> simp [h, e]
  · simp [h]

/-- The part of a state that the agreement reads. -/
structure Posture where
  stands : List (Nat × Relink)
  held : List (Nat × Nat)
  allowance : Nat
  cap : Nat
  phase : Phase

def State.posture (s : State) : Posture := ⟨s.stands, s.held, s.seq.allowance, s.cap, s.phase⟩

/-- An operation that touches neither the records, the store, the sequencer, the highway port nor the station state. -/
theorem State.posture_congr {s t : State} (hr : t.records = s.records) (hs : t.store = s.store) (hq : t.seq = s.seq)
    (hw : t.hw = s.hw) (hc : t.ctl = s.ctl) : t.posture = s.posture := by
  have hrun : t.running = s.running := by rw [State.running, hc, State.running]
  simp only [State.posture, State.stands, State.held, State.cap, State.phase, hrun, hr, hs, hq, hw, hc]

/-- An operation that changes records in other fields than place and relink state. -/
theorem State.posture_of_map {s t : State} (f : Circuit → Circuit) (hf : ∀ r, (f r).stand = r.stand)
    (hr : t.records = s.records.map f) (hb : t.store.settings = s.store.settings) (hq : t.seq = s.seq) (hw : t.hw = s.hw)
    (hc : t.ctl = s.ctl) : t.posture = s.posture := by
  have : t.stands = s.stands := by
    rw [State.stands, hr, List.map_map]
    exact List.map_congr_left fun r _ => hf r
  have hrun : t.running = s.running := by rw [State.running, hc, State.running]
  simp only [State.posture, this, State.held, State.cap, State.phase, hrun, hb, hq, hw, hc]

section Frames

variable (s : State)

@[simp] theorem State.posture_raise (f : EventFlag) : (s.raise f).posture = s.posture := rfl
@[simp] theorem State.posture_raiseIf (c : Bool) (f : EventFlag) : (s.raiseIf c f).posture = s.posture :=
  State.posture_congr (by simp) (by simp) (by simp) (by simp) (by simp)
@[simp] theorem State.posture_post (k : NoticeKind) (r : Circuit) : (s.post k r).posture = s.posture :=
  State.posture_congr (by simp) (by simp) (by simp) (by simp) (by simp)
@[simp] theorem State.posture_postIf (c : Bool) (k : NoticeKind) (r : Circuit) : (s.postIf c k r).posture = s.posture :=
  State.posture_congr (by simp) (by simp) (by simp) (by simp) (by simp)
@[simp] theorem State.posture_updPeer (p : Nat) (f : Peer → Peer) : (s.updPeer p f).posture = s.posture := rfl
@[simp] theorem State.posture_setRollOut (p : Nat) (x : RollOut) : (s.setRollOut p x).posture = s.posture := rfl
@[simp] theorem State.posture_overrun (p : Nat) : (s.overrun p).posture = s.posture := rfl
@[simp] theorem State.posture_setQueue (q : List Request) : (s.setQueue q).posture = s.posture := rfl
@[simp] theorem State.posture_lineError : s.lineError.posture = s.posture := rfl
@[simp] theorem State.posture_startCount : s.startCount.posture = s.posture := rfl
@[simp] theorem State.posture_stopTimer : s.stopTimer.posture = s.posture := rfl
@[simp] theorem State.posture_closeEdit : s.closeEdit.posture = s.posture := rfl
@[simp] theorem State.posture_request (req : Request) : (s.request req).posture = s.posture :=
  State.posture_congr (by simp) (by simp) (by simp) (by simp) (by simp)
@[simp] theorem State.posture_announce : s.announce.posture = s.posture :=
  State.posture_congr (by simp) (by simp) (by simp) (by simp) (by simp)
@[simp] theorem State.posture_judgeLamp : s.judgeLamp.posture = s.posture :=
  State.posture_congr (by simp) (by simp) (by simp) (by simp) (by simp)
@[simp] theorem State.posture_pass (p : Nat) : (s.pass p).posture = s.posture :=
  State.posture_congr (by simp) (by simp) (by simp) (by simp) (by simp)
@[simp] theorem State.posture_passAll : s.passAll.posture = s.posture :=
  State.posture_congr (by simp) (by simp) (by simp) (by simp) (by simp)
@[simp] theorem State.posture_checkSingle (p : Nat) : (s.checkSingle p).posture = s.posture :=
  State.posture_congr (by simp) (by simp) (by simp) (by simp) (by simp)
@[simp] theorem State.posture_appendVerdict (p : Nat) (v : Verdict) : (s.appendVerdict p v).posture = s.posture :=
  State.posture_congr (by simp) (by simp) (by simp) (by simp) (by simp)
@[simp] theorem State.posture_appendRelease (p tag : Nat) : (s.appendRelease p tag).posture = s.posture :=
  State.posture_congr (by simp) (by simp) (by simp) (by simp) (by simp)
@[simp] theorem State.posture_unsolicitedClash (r : Circuit) : (s.unsolicitedClash r).posture = s.posture :=
  State.posture_congr (by simp) (by simp) (by simp) (by simp) (by simp)
@[simp] theorem State.posture_mapFlying (f : InFlight → InFlight) : (s.mapFlying f).posture = s.posture :=
  State.posture_congr (by simp) (by simp) (by simp) (by simp) (by simp)
@[simp] theorem State.posture_emptyLists (p : Nat) : (s.emptyLists p).posture = s.posture :=
  State.posture_congr (by simp) (by simp) (by simp) (by simp) (by simp)
@[simp] theorem State.posture_dropRequests (p : Nat) : (s.dropRequests p).posture = s.posture :=
  State.posture_congr (by simp) (by simp) (by simp) (by simp) (by simp)
@[simp] theorem State.posture_convertWants : s.convertWants.posture = s.posture :=
  State.posture_congr (by simp) (by simp) (by simp) (by simp) (by simp)

@[simp] theorem State.posture_clearRollMarks (p : Nat) : (s.clearRollMarks p).posture = s.posture :=
  State.posture_of_map _ (fun r => by split <;> rfl) rfl rfl rfl rfl rfl
@[simp] theorem State.posture_clearScopeMarks (p : Nat) : (s.clearScopeMarks p).posture = s.posture :=
  State.posture_of_map _ (fun r => by split <;> rfl) rfl rfl rfl rfl rfl

theorem State.posture_mapRec (p : Nat) {f : Circuit → Circuit} (hf : ∀ r, (f r).stand = r.stand) :
    (s.mapRec p f).posture = s.posture :=
  State.posture_of_map (fun r => if r.place = p then f r else r) (fun r => by split <;> [exact hf r; rfl]) rfl rfl rfl rfl rfl

theorem State.posture_mapTowards (p : Nat) {f : Circuit → Circuit} (hf : ∀ r, (f r).stand = r.stand) :
    (s.mapTowards p f).posture = s.posture :=
  State.posture_of_map (fun r => if r.farSlot = p then f r else r) (fun r => by split <;> [exact hf r; rfl]) rfl rfl rfl rfl rfl

@[simp] theorem State.posture_restartRoll (p : Nat) : (s.restartRoll p).posture = s.posture := by
  unfold State.restartRoll
  split <;> simp

@[simp] theorem State.posture_oweRoll (p : Nat) : (s.oweRoll p).posture = s.posture := by
  unfold State.oweRoll
  rw [State.posture_setRollOut]
  split <;> simp

@[simp] theorem State.posture_cutChannel (p : Nat) : (s.cutChannel p).posture = s.posture := by
  unfold State.cutChannel
  split <;> simp

@[simp] theorem State.posture_warmRestart (p : Nat) (st : Announced) : (s.warmRestart p st).posture = s.posture := by
  unfold State.warmRestart
  split <;> simp

/-- The timer is no part of the agreement. -/
@[simp] theorem State.posture_resumeTimer : s.resumeTimer.posture = s.posture := by
  unfold State.resumeTimer
  repeat' split
  all_goals rfl

@[simp] theorem State.posture_writePending : s.writePending.posture = s.posture := by
  unfold State.writePending
  split
  · exact State.posture_of_map (fun r => if r.clashPending then { r with clashMark := true, clashPending := false } else r)
      (fun r => by split <;> rfl) rfl rfl rfl rfl rfl
  · rfl

/-- RELINK that ends stays a station in RELINK or SERVICE (R156). -/
@[simp] theorem State.posture_judgeEnd : s.judgeEnd.posture = s.posture := by
  have hphase : s.judgeEnd.phase = s.phase := by
    unfold State.judgeEnd
    split
    · rename_i h
      have : s.ctl.st = .relink := by
        simp only [State.relinkDone, Bool.and_eq_true, beq_iff_eq] at h
        obtain ⟨⟨⟨hst, _⟩, _⟩, _⟩ := h
        exact hst
      simp [State.phase, State.running, State.setStation, this]
    · rfl
  simp [State.posture, hphase, State.stands, State.held, State.cap]

@[simp] theorem State.posture_abortEffects (req : Request) : (s.abortEffects req).posture = s.posture := by
  cases req with
  | roll p =>
    simp only [State.abortEffects]
    split <;> split <;> simp
  | beacon | rollOffer | singleOffer | answer | release => rfl

@[simp] theorem State.posture_jamFrame : s.jamFrame.posture = s.posture := by
  unfold State.jamFrame
  split
  · rfl
  · rw [State.posture_abortEffects]; rfl

end Frames

/-! ### Relink states entered -/

/-- The stands with another relink state in a place. -/
def restand (h : Nat) (new : Relink) (xs : List (Nat × Relink)) : List (Nat × Relink) :=
  xs.map (fun x => if x.1 = h then (h, new) else x)

theorem mem_restand {h : Nat} {new : Relink} {xs : List (Nat × Relink)} {x : Nat × Relink} (hx : x ∈ restand h new xs) :
    x = (h, new) ∨ (x.1 ≠ h ∧ x ∈ xs) := by
  obtain ⟨y, hy, rfl⟩ := List.mem_map.mp hx
  split
  · exact .inl rfl
  · exact .inr ⟨‹_›, hy⟩

theorem mem_restand_of_ne {h g : Nat} {new x : Relink} {xs : List (Nat × Relink)} (hg : g ≠ h) :
    (g, x) ∈ restand h new xs ↔ (g, x) ∈ xs := by
  refine ⟨fun hx => ?_, fun hx => List.mem_map.mpr ⟨(g, x), hx, if_neg hg⟩⟩
  rcases mem_restand hx with e | ⟨_, hx⟩
  · exact absurd (congrArg Prod.fst e) hg
  · exact hx

theorem restand_places (h : Nat) (new : Relink) (xs : List (Nat × Relink)) :
    (restand h new xs).map Prod.fst = xs.map Prod.fst := by
  rw [restand, List.map_map]
  refine List.map_congr_left fun x _ => ?_
  simp only [Function.comp]
  split <;> simp_all

/-- A record enters a relink state (R24): its stand changes, and nothing else that the agreement reads. -/
theorem State.posture_enter (s : State) (h : Nat) (new : Relink) (due : Bool) (sends : Nat) :
    (s.enter h new due sends).posture = ⟨restand h new s.stands, s.held, s.seq.allowance, s.cap, s.phase⟩ := by
  have hstands : (s.mapRec h (fun r => r.enter new due sends)).stands = restand h new s.stands := by
    simp only [State.stands, restand, State.mapRec_records, List.map_map]
    refine List.map_congr_left fun r _ => ?_
    by_cases e : r.place = h
    · simp [Circuit.stand, Circuit.enter, e]
    · simp [Circuit.stand, e]
  have marked (u : State) : (u.markClash h).posture = u.posture := by
    unfold State.markClash
    split
    · exact u.posture_mapRec h (fun _ => rfl)
    · exact u.posture_mapRec h (f := fun r => { r with clashMark := true }) (fun _ => rfl)
  rw [← hstands]
  unfold State.enter
  rw [State.posture_judgeLamp]
  split
  · exact marked _
  · rfl

end Sys2Proof.Machine
end

section
/-! The agreement itself, and the changes of one record that keep it. -/

namespace Sys2Proof.Machine

/-- The agreement of O56, while the station counts as being in `φ`: the allowance within its cap, and 0 where the table is
fresh; the HELD probe slots those of the PROBING records, and none outside RELINK and SERVICE; and, where `P` says so, every
record at rest in SETUP. The record in the place `hole`, if there is one, is about to enter another relink state and holds
no slot; nothing else is said of it. -/
structure State.Agrees (P : Prop) (φ : Phase) (hole : Option Nat) (s : State) : Prop where
  places : (s.stands.map Prod.fst).Nodup
  slots : (s.held.map Prod.snd).Nodup
  holders : (s.held.map Prod.fst).Nodup
  four : ∀ x ∈ s.held, x.2 < 4
  probing : ∀ h k, some h ≠ hole → ((h, .probing k) ∈ s.stands ↔ (h, k) ∈ s.held)
  vacant : ∀ x ∈ s.held, some x.1 ≠ hole
  cap : s.seq.allowance ≤ s.cap
  fresh : φ.Fresh → s.seq.allowance = 0
  still : ¬ φ.Running → s.held = []
  rest : P → φ.Resting → ∀ x ∈ s.stands, some x.1 ≠ hole → x.2.Rests

/-- The agreement, in the words of the statement. -/
theorem State.agrees_iff {P : Prop} {s : State} (places : (s.records.map (·.place)).Nodup) :
    s.Agrees P s.phase none ↔ s.paceOk ∧ s.probesOk ∧ (P → s.setupOk) := by
  have hplaces : s.stands.map Prod.fst = s.records.map (·.place) := by simp [State.stands, Circuit.stand, Function.comp_def]
  have hslots : s.held.map Prod.snd = s.hw.probes.map (·.slot) := by simp [State.held, Function.comp_def]
  have hholders : s.held.map Prod.fst = s.hw.probes.map (·.place) := by simp [State.held, Function.comp_def]
  have hstand (h : Nat) (x : Relink) : (h, x) ∈ s.stands ↔ ∃ r ∈ s.records, r.place = h ∧ r.state = x := by
    simp [State.stands, Circuit.stand]
  have hheld (h k : Nat) : (h, k) ∈ s.held ↔ ∃ p ∈ s.hw.probes, p.place = h ∧ p.slot = k := by simp [State.held]
  have hprobing (r : Circuit) : r.state.isProbing = true ↔ ∃ k, r.state = .probing k := by
    cases r.state <;> simp [Relink.isProbing, relinkByte]
  constructor
  · rintro ⟨_, slots, holders, four, probing, _, cap, fresh, still, rest⟩
    refine ⟨⟨cap, fun h => fresh (s.phase_fresh_iff.mpr h), fun h r hr => ?_⟩,
      ⟨hslots ▸ slots, hholders ▸ holders, fun p hp => four _ (List.mem_map_of_mem hp), fun p hp => ?_, fun r hr k hk => ?_⟩,
      fun hP hrest r hr => ?_⟩
    · refine Bool.eq_false_iff.mpr fun e => ?_
      obtain ⟨k, hk⟩ := (hprobing r).mp e
      have := (probing r.place k (by simp)).mp ((hstand _ _).mpr ⟨r, hr, rfl, hk⟩)
      rw [still (fun e => by simp [s.phase_running_iff.mp e] at h)] at this
      cases this
    · exact (hstand _ _).mp ((probing p.place p.slot (by simp)).mpr ((hheld _ _).mpr ⟨p, hp, rfl, rfl⟩))
    · exact (hheld _ _).mp ((probing r.place k (by simp)).mp ((hstand _ _).mpr ⟨r, hr, rfl, hk⟩))
    · exact rest hP (s.phase_resting_iff.mpr hrest) r.stand (List.mem_map_of_mem hr) (by simp)
  · rintro ⟨⟨cap, fresh, still⟩, ⟨slots, holders, four, ofProbe, ofRecord⟩, rest⟩
    have probing (h k : Nat) : (h, .probing k) ∈ s.stands ↔ (h, k) ∈ s.held := by
      rw [hstand, hheld]
      constructor
      · rintro ⟨r, hr, rfl, hk⟩
        exact ofRecord r hr k hk
      · rintro ⟨p, hp, rfl, rfl⟩
        exact ofProbe p hp
    refine ⟨hplaces ▸ places, hslots ▸ slots, hholders ▸ holders, fun x hx => ?_, fun h k _ => probing h k, by simp, cap,
      fun h => fresh (s.phase_fresh_iff.mp h), fun h => ?_, fun hP hrest x hx _ => ?_⟩
    · obtain ⟨p, hp, rfl⟩ := List.mem_map.mp hx
      exact four p hp
    · refine List.eq_nil_iff_forall_not_mem.mpr fun x hx => ?_
      obtain ⟨r, hr, _, hk⟩ := (hstand _ _).mp ((probing x.1 x.2).mpr hx)
      have hrun : s.running = false := Bool.eq_false_iff.mpr fun e => h (s.phase_running_iff.mpr e)
      have := still hrun r hr
      rw [(hprobing r).mpr ⟨_, hk⟩] at this
      cases this
    · obtain ⟨r, hr, rfl⟩ := List.mem_map.mp hx
      exact rest hP (s.phase_resting_iff.mp hrest) r hr

section Rules

variable {P : Prop} {φ : Phase} {hole : Option Nat} {s t : State} {r : Circuit}

theorem State.Agrees.congr (h : s.Agrees P φ hole) (hs : t.stands = s.stands) (hh : t.held = s.held)
    (ha : t.seq.allowance = s.seq.allowance) (hc : t.cap = s.cap) : t.Agrees P φ hole := by
  obtain ⟨places, slots, holders, four, probing, vacant, cap, fresh, still, rest⟩ := h
  constructor <;> simp only [hs, hh, ha, hc] <;> assumption

theorem State.Agrees.frame (h : s.Agrees P φ hole) (he : t.posture = s.posture) : t.Agrees P φ hole :=
  h.congr (congrArg Posture.stands he) (congrArg Posture.held he) (congrArg Posture.allowance he) (congrArg Posture.cap he)

/-- A record that is not PROBING holds no slot. -/
theorem State.Agrees.not_held (h : s.Agrees P φ none) (hr : r.stand ∈ s.stands) (hn : r.state.isProbing = false) :
    ∀ x ∈ s.held, x.1 ≠ r.place := by
  intro x hx e
  have hx' := (h.probing r.place x.2 (by simp)).mpr (e ▸ hx)
  have := List.inj_on_of_nodup_map h.places hr hx' rfl
  rw [show r.state = .probing x.2 from congrArg Prod.snd this] at hn
  cases hn

theorem State.Agrees.opens (h : s.Agrees P φ none) (hr : r.stand ∈ s.stands) (hn : r.state.isProbing = false) :
    s.Agrees P φ (some r.place) :=
  { h with
    probing := fun g k _ => h.probing g k (by simp)
    vacant := fun x hx e => h.not_held hr hn x hx (Option.some.inj e)
    rest := fun hP hrest x hx _ => h.rest hP hrest x hx (by simp) }

theorem State.held_freeProbe (g : Nat) (s : State) : (s.freeProbe g).held = s.held.filter (fun x => x.1 != g) := by
  simp [State.held, State.freeProbe, List.filter_map, Function.comp_def]

/-- A place that holds no record holds no slot. -/
theorem State.Agrees.not_held_of_findPlace (h : s.Agrees P φ none) {g : Nat} (hnone : s.findPlace g = none) :
    ∀ x ∈ s.held, x.1 ≠ g := by
  intro x hx e
  obtain ⟨r, hr, hstand⟩ := List.mem_map.mp ((h.probing x.1 x.2 (by simp)).mpr hx)
  have hplace : r.place = g := (congrArg Prod.fst hstand).trans e
  simpa [hplace] using List.find?_eq_none.mp hnone r hr

/-- A slot that is freed leaves its record to its next relink state (R117). -/
theorem State.Agrees.freeProbe (h : s.Agrees P φ none) (g : Nat) : (s.freeProbe g).Agrees P φ (some g) := by
  have hheld := s.held_freeProbe g
  have hsub : (s.freeProbe g).held.Sublist s.held := hheld ▸ List.filter_sublist
  refine ⟨h.places, h.slots.sublist (hsub.map _), h.holders.sublist (hsub.map _), fun x hx => h.four x (hsub.subset hx),
    fun i k hi => (h.probing i k (by simp)).trans ?_, fun x hx e => ?_, h.cap, h.fresh, fun hrun => ?_,
    fun hP hrest x hx _ => h.rest hP hrest x hx (by simp)⟩
  · rw [hheld]
    simpa using fun _ e => hi (congrArg some e)
  · rw [hheld] at hx
    simp only [List.mem_filter, bne_iff_ne] at hx
    exact hx.2 (Option.some.inj e)
  · rw [hheld, h.still hrun]
    rfl

/-- A refund is made in RELINK, in SERVICE and at the entry to QUIESCE only, and stays within the cap (R99). -/
theorem State.Agrees.credit (h : s.Agrees P φ hole) (hnf : ¬ φ.Fresh) (n : Nat) : (s.credit n).Agrees P φ hole :=
  { h with cap := min_le_left _ _, fresh := fun e => absurd e hnf }

/-- Where a record is PROBING the station is running. -/
theorem State.Agrees.running_of_probing (h : s.Agrees P φ none) (hr : r.stand ∈ s.stands)
    (hp : r.state.isProbing = true) : φ.Running := by
  by_contra hrun
  obtain ⟨k, hk⟩ : ∃ k, r.state = .probing k := by
    revert hp
    cases r.state <;> simp [Relink.isProbing, relinkByte]
  have hheld := (h.probing r.place k (by simp)).mp (by rw [← hk]; exact hr)
  rw [h.still hrun] at hheld
  cases hheld

/-- A probe that is cancelled, where the record is PROBING, frees its slot (R25, R117). -/
theorem State.Agrees.cancelProbe (h : s.Agrees P φ none) (hr : r.stand ∈ s.stands) :
    (s.cancelProbe r).Agrees P φ (some r.place) := by
  unfold State.cancelProbe
  split
  · rename_i hp
    exact (h.freeProbe r.place).credit (h.running_of_probing hr hp).not_fresh r.weight
  · rename_i hn
    exact h.opens hr (Bool.eq_false_iff.mpr hn)

/-- A record that holds no slot enters a relink state other than PROBING. -/
theorem State.Agrees.enter {g : Nat} (h : s.Agrees P φ (some g)) (new : Relink) (hn : new.isProbing = false)
    (hrest : P → φ.Resting → new.Rests) (due : Bool) (sends : Nat) : (s.enter g new due sends).Agrees P φ none := by
  have he := s.posture_enter g new due sends
  have hs : (s.enter g new due sends).stands = restand g new s.stands := congrArg Posture.stands he
  have hh : (s.enter g new due sends).held = s.held := congrArg Posture.held he
  have ha : (s.enter g new due sends).seq.allowance = s.seq.allowance := congrArg Posture.allowance he
  have hc : (s.enter g new due sends).cap = s.cap := congrArg Posture.cap he
  constructor <;> simp only [hs, hh, ha, hc]
  · rw [restand_places]; exact h.places
  · exact h.slots
  · exact h.holders
  · exact h.four
  · intro i k _
    by_cases e : i = g
    · subst e
      refine ⟨fun hx => ?_, fun hx => absurd rfl (h.vacant _ hx)⟩
      rcases mem_restand hx with e | ⟨e, _⟩
      · rw [← show Relink.probing k = new from congrArg Prod.snd e] at hn
        cases hn
      · exact absurd rfl e
    · rw [mem_restand_of_ne e]
      exact h.probing i k (fun e' => e (Option.some.inj e'))
  · simp
  · exact h.cap
  · exact h.fresh
  · exact h.still
  · intro hP hr x hx _
    rcases mem_restand hx with rfl | ⟨e, hx⟩
    · exact hrest hP hr
    · exact h.rest hP hr x hx (fun e' => e (Option.some.inj e'))

/-- A record goes from its relink state to another one (R24, R25). -/
theorem State.Agrees.moveTo (h : s.Agrees P φ none) (hr : r.stand ∈ s.stands) (new : Relink)
    (hn : new.isProbing = false) (hrest : P → φ.Resting → new.Rests) (due : Bool) (sends : Nat) :
    (s.moveTo r new due sends).Agrees P φ none := (h.cancelProbe hr).enter new hn hrest due sends

/-- A record that holds no slot leaves the table (R9). -/
theorem State.Agrees.remove {g : Nat} (h : s.Agrees P φ (some g)) (hs : t.stands = s.stands.filter (fun x => x.1 != g))
    (hh : t.held = s.held) (ha : t.seq.allowance = s.seq.allowance) (hc : t.cap = s.cap) : t.Agrees P φ none := by
  have hmem {x : Nat × Relink} : x ∈ t.stands ↔ x ∈ s.stands ∧ x.1 ≠ g := by simp [hs]
  have hsub : t.stands.Sublist s.stands := hs ▸ List.filter_sublist
  refine ⟨h.places.sublist (hsub.map _), hh ▸ h.slots, hh ▸ h.holders, hh ▸ h.four, fun i k _ => ?_, by simp,
    by rw [ha, hc]; exact h.cap, by rw [ha]; exact h.fresh, hh ▸ h.still, fun hP hr x hx _ => ?_⟩
  · rw [hmem, hh]
    by_cases e : i = g
    · subst e
      exact ⟨fun hx => absurd rfl hx.2, fun hx => absurd rfl (h.vacant _ hx)⟩
    · rw [h.probing i k (fun e' => e (Option.some.inj e'))]
      exact and_iff_left e
  · exact h.rest hP hr x (hmem.mp hx).1 (fun e => (hmem.mp hx).2 (Option.some.inj e))

/-- A lane fault of a record that holds no slot (R37). -/
theorem State.Agrees.laneFault (h : s.Agrees P φ (some r.place)) (hrest : P → ¬ φ.Resting) :
    (s.laneFault r).Agrees P φ none := by
  have never {new : Relink} (hP : P) (hr : φ.Resting) : new.Rests := absurd hr (hrest hP)
  unfold State.laneFault
  split
  · have moved : (State.post .laneMoved r (s.mapRec r.place (fun x => { x with inUse := .standby }))).Agrees P φ
        (some r.place) := h.frame ((State.posture_post _ _ _).trans (State.posture_mapRec s _ fun _ => rfl))
    dsimp only
    split
    · exact (moved.enter .offered rfl never true 0).frame (by simp)
    · exact (moved.enter .deferred rfl never false 0).frame (by simp)
  · exact (h.enter .clashed rfl never false 0).frame (by simp)

/-- The lowest free slot is below 4 and not held (R115). -/
theorem State.freeSlot_eq_some {k : Nat} (h : s.freeSlot = some k) : k < 4 ∧ ∀ x ∈ s.held, x.2 ≠ k := by
  have hfree := List.find?_some h
  have hmem := List.mem_of_find?_eq_some h
  refine ⟨by simp at hmem; omega, fun x hx => ?_⟩
  obtain ⟨p, hp, rfl⟩ := List.mem_map.mp hx
  simpa using List.all_eq_true.mp hfree p hp

theorem State.candidate_confirmed (h : s.candidate = some r) : r.state = .confirmed := by
  unfold State.candidate at h
  split at h
  · cases h
  · simpa using List.find?_some h

/-- What a probe that starts changes: the candidate's stand, the slot it holds and the allowance (R92, R98). -/
theorem State.posture_startProbe (r : Circuit) (k : Nat) (s : State) : (s.startProbe r k).posture =
    ⟨restand r.place (.probing k) s.stands, s.held ++ [(r.place, k)], s.seq.allowance - r.weight, s.cap, s.phase⟩ := by
  unfold State.startProbe
  rw [State.posture_enter]
  simp [State.held, State.stands, State.cap, State.phase, State.running]

/-- The candidate takes a free slot and goes to PROBING (R92, R93, R98, R115). -/
theorem State.Agrees.startProbe (h : s.Agrees P φ none) (hrun : φ.Running) {k : Nat} (hc : s.candidate = some r)
    (hk : s.freeSlot = some k) : (s.startProbe r k).Agrees P φ none := by
  have he := s.posture_startProbe r k
  have hs : (s.startProbe r k).stands = _ := congrArg Posture.stands he
  have hh : (s.startProbe r k).held = _ := congrArg Posture.held he
  have ha : (s.startProbe r k).seq.allowance = _ := congrArg Posture.allowance he
  have hcap : (s.startProbe r k).cap = _ := congrArg Posture.cap he
  have hr : r.stand ∈ s.stands := List.mem_map_of_mem (State.mem_of_candidate hc)
  have hconf := State.candidate_confirmed hc
  obtain ⟨hlt, hfree⟩ := State.freeSlot_eq_some hk
  have hnone := h.not_held hr (by rw [hconf]; rfl)
  constructor <;> simp only [hs, hh, ha, hcap]
  · rw [restand_places]; exact h.places
  · rw [List.map_append, List.nodup_append]
    exact ⟨h.slots, by simp, by simpa using fun k h hx => hfree (h, k) hx⟩
  · rw [List.map_append, List.nodup_append]
    exact ⟨h.holders, by simp, by simpa using fun a b hx => hnone (a, b) hx⟩
  · simpa [or_imp, forall_and] using ⟨fun a b hx => h.four (a, b) hx, hlt⟩
  · intro i j _
    by_cases e : i = r.place
    · subst e
      have hnot : (r.place, j) ∉ s.held := fun hx => hnone _ hx rfl
      simp only [List.mem_append, hnot, false_or, List.mem_singleton, Prod.mk.injEq, true_and]
      refine ⟨fun hx => ?_, fun e => ?_⟩
      · rcases mem_restand hx with e | ⟨e, _⟩
        · simpa using e
        · exact absurd rfl e
      · subst e
        exact List.mem_map.mpr ⟨r.stand, hr, if_pos rfl⟩
    · rw [mem_restand_of_ne e, h.probing i j (by simp)]
      simp [e]
  · simp
  · have := h.cap; omega
  · exact fun e => absurd e hrun.not_fresh
  · exact fun e => absurd hrun e
  · exact fun _ e => absurd e hrun.not_resting

end Rules

end Sys2Proof.Machine
end

section
/-! Which operations keep the agreement of O56 while the station counts as being in one phase: one rule per operation. -/

namespace Sys2Proof.Machine

/-- The agreement holds, and the station counts as being in `φ`. -/
structure State.Paced (P : Prop) (φ : Phase) (s : State) : Prop where
  phase : s.phase = φ
  agrees : s.Agrees P φ none

/-- A deferral by a peer is one that the records at rest may make (R23; log 29). -/
def Phase.Minds (φ : Phase) : Prop := φ.Resting → Config.setupRecordsDefer = true

theorem Phase.Running.minds {φ : Phase} (h : φ.Running) : φ.Minds := fun e => absurd e h.not_resting

theorem Phase.Running.never {P : Prop} {φ : Phase} (h : φ.Running) {new : Relink} : P → φ.Resting → new.Rests :=
  fun _ e => absurd e h.not_resting

theorem Phase.Minds.rests {P : Prop} {φ : Phase} (h : φ.Minds) : P → φ.Resting → Relink.deferred.Rests :=
  fun _ e => .inr ⟨h e, rfl⟩

theorem State.phase_minds {s : State} (h : s.minding = true) : s.phase.Minds := by
  intro hrest
  have hst := s.phase_resting_iff.mp hrest
  rcases s.minding_iff.mp h with hrun | ⟨hq, hdefer⟩
  · rcases s.running_iff.mp hrun with e | e <;> simp [e] at hst
  · exact hdefer (by simpa [hq] using hst)

theorem State.phase_congr {s t : State} (h : t.ctl = s.ctl) : t.phase = s.phase := by
  have hrun : t.running = s.running := by rw [State.running, h, State.running]
  rw [State.phase, State.phase, hrun, h]

theorem State.stand_mem {s : State} {r : Circuit} (h : r ∈ s.records) : r.stand ∈ s.stands := List.mem_map_of_mem h

/-- A change of marks or lanes leaves every stand. -/
theorem State.stands_congr {s t : State} (h : t.posture = s.posture) : t.stands = s.stands := congrArg Posture.stands h

section Rules

variable {P : Prop} {φ : Phase} {s t : State} {r : Circuit} {p : Nat}

theorem State.Paced.frame (h : s.Paced P φ) (he : t.posture = s.posture) : t.Paced P φ :=
  ⟨(congrArg Posture.phase he).trans h.phase, h.agrees.frame he⟩

theorem State.Paced.ite {c : Prop} [Decidable c] (hs : c → s.Paced P φ) (ht : ¬ c → t.Paced P φ) :
    (if c then s else t).Paced P φ := by
  split
  · exact hs ‹_›
  · exact ht ‹_›

theorem State.Paced.each {α : Type} (h : s.Paced P φ) {xs : List α} {f : α → State → State}
    (hf : ∀ x (u : State), u.Paced P φ → (f x u).Paced P φ) : (s.each xs f).Paced P φ := by
  induction xs generalizing s with
  | nil => exact h
  | cons x xs ih => exact ih (hf x s h)

theorem State.Paced.running (h : s.Paced P φ) (hrun : s.running = true) : φ.Running :=
  h.phase ▸ s.phase_running_iff.mpr hrun

theorem State.Paced.minds (h : s.Paced P φ) (hm : s.minding = true) : φ.Minds := h.phase ▸ State.phase_minds hm

/-- A record that is not at rest shows that the station does not come from SETUP. -/
theorem State.Paced.not_resting (h : s.Paced P φ) (hr : r.stand ∈ s.stands) (hst : ¬ r.state.Rests) : P → ¬ φ.Resting :=
  fun hP e => hst (h.agrees.rest hP e r.stand hr (by simp))

/-! ### Changes of one record (2.2) -/

theorem State.Paced.moveTo (h : s.Paced P φ) (hr : r.stand ∈ s.stands) (new : Relink) (hn : new.isProbing = false)
    (hrest : P → φ.Resting → new.Rests) (due : Bool) (sends : Nat) : (s.moveTo r new due sends).Paced P φ :=
  ⟨(State.phase_congr (by simp)).trans h.phase, h.agrees.moveTo hr new hn hrest due sends⟩

/-- A record that is not PROBING enters another relink state (R24). -/
theorem State.Paced.enter (h : s.Paced P φ) (hr : r.stand ∈ s.stands) (hold : r.state.isProbing = false) (new : Relink)
    (hn : new.isProbing = false) (hrest : P → φ.Resting → new.Rests) (due : Bool) (sends : Nat) :
    (s.enter r.place new due sends).Paced P φ :=
  ⟨(State.phase_congr (by simp)).trans h.phase, (h.agrees.opens hr hold).enter new hn hrest due sends⟩

/-- The turns of an attempt (R92). -/
theorem State.Paced.attemptTurns (h : s.Paced P φ) (hrun : φ.Running) (n : Nat) : (s.attemptTurns n).Paced P φ := by
  induction n generalizing s with
  | zero => exact h
  | succ n ih =>
    unfold State.attemptTurns
    split
    · rename_i r k hc hk
      exact .ite (fun _ => ih ⟨(State.phase_congr (by simp)).trans h.phase, h.agrees.startProbe hrun hc hk⟩) fun _ => h
    · exact h

theorem State.Paced.attempt (h : s.Paced P φ) : s.attempt.Paced P φ :=
  .ite (fun hrun => h.attemptTurns (h.running hrun) 4) fun _ => h

theorem State.Paced.settleChange (h : s.Paced P φ) {cause : Bool} : (s.settleChange cause).Paced P φ :=
  (State.Paced.ite (fun _ => h.attempt) fun _ => h).frame (State.posture_judgeEnd _)

theorem State.Paced.removeRecord (h : s.Paced P φ) (hr : r.stand ∈ s.stands) : (s.removeRecord r).Paced P φ := by
  refine ⟨(State.phase_congr (by simp)).trans h.phase, (h.agrees.cancelProbe hr).remove ?_ ?_ ?_ ?_⟩
  · simp [State.stands, State.removeRecord_records, List.filter_map, Function.comp_def, Circuit.stand]
  all_goals simp [State.removeRecord, State.held, State.cap, State.closeEdit]

/-! ### Causes that act on one record (chapters 2 and 4) -/

theorem State.Paced.deferPlace (h : s.Paced P φ) (hm : φ.Minds) {cond : Relink → Bool} :
    (s.deferPlace cond p).Paced P φ := by
  unfold State.deferPlace
  split
  · exact h
  · rename_i r hfind
    have hr := State.stand_mem (State.mem_of_findPlace hfind).1
    exact .ite (fun _ => ((h.moveTo hr .deferred rfl hm.rests false 0).frame (State.posture_post _ _ _)).settleChange)
      fun _ => h

theorem State.Paced.deferMany (h : s.Paced P φ) (hm : φ.Minds) {cond : Relink → Bool} {rs : List Circuit} :
    (s.deferMany cond rs).Paced P φ :=
  (h.frame (State.posture_raiseIf _ _ _)).each fun _ _ hu => hu.deferPlace hm

theorem State.Paced.claimSent (h : s.Paced P φ) (hrun : φ.Running) {roll : Bool} : (s.claimSent roll p).Paced P φ := by
  unfold State.claimSent
  split
  · exact h
  · rename_i r hfind
    obtain ⟨hmem, rfl⟩ := State.mem_of_findPlace hfind
    have same : (s.mapRec r.place
        (fun x => { x with claimDue := false, rollMark := if roll then false else x.rollMark })).posture = s.posture :=
      s.posture_mapRec _ fun _ => rfl
    have marked := h.frame same
    have hr : r.stand ∈ State.stands _ := State.stands_congr same ▸ State.stand_mem hmem
    have sent (hold : r.state.isProbing = false) :=
      (marked.enter hr hold .offered rfl hrun.never false 1).settleChange (cause := false)
    dsimp only
    split
    case h_1 e | h_2 e | h_3 e => exact sent (by rw [e]; rfl)
    case h_4 => exact marked.frame (State.posture_mapRec _ _ fun _ => rfl)
    case h_5 | h_6 | h_7 | h_8 => exact marked

/-- An agreement leaves no record PROBING that was not (R30, R33). -/
theorem Circuit.agreed_isProbing (lane : InUse) (r : Circuit) (h : r.agreed lane ≠ r.state) :
    (r.agreed lane).isProbing = false := by
  unfold Circuit.agreed at *
  cases e : r.state with
  | probing k => simp only [e] at h ⊢; split <;> simp_all [Relink.isProbing, relinkByte]
  | opened n => dsimp only; split <;> rfl
  | parked | offered | confirmed | deferred | refused | clashed => rfl

theorem State.Paced.agree (h : s.Paced P φ) (hrun : φ.Running) (hr : r.stand ∈ s.stands) (lane : InUse) :
    (s.agree lane r).Paced P φ := by
  have same : (s.mapRec r.place (fun x => { x with inUse := lane })).posture = s.posture :=
    s.posture_mapRec _ fun _ => rfl
  have hr' : r.stand ∈ State.stands _ := State.stands_congr same ▸ hr
  refine State.Paced.frame (State.Paced.ite (fun _ => h.frame same) fun hne => ?_) (State.posture_postIf _ _ _ _)
  exact (h.frame same).moveTo hr' _ (r.agreed_isProbing lane hne) hrun.never false 0

theorem State.Paced.refuse (h : s.Paced P φ) (hrun : φ.Running) (hr : r.stand ∈ s.stands) (c : Cause) :
    (s.refuse c r).Paced P φ :=
  ((h.frame (State.posture_raise s .refusal)).moveTo hr (.refused c) rfl hrun.never false 0).frame
    (State.posture_post _ _ _)

theorem State.Paced.clash (h : s.Paced P φ) (hrun : φ.Running) (hr : r.stand ∈ s.stands) : (s.clash r).Paced P φ :=
  ((h.frame (State.posture_raise s .clash)).moveTo hr .clashed rfl hrun.never false 0).frame (State.posture_post _ _ _)

theorem State.Paced.completeProbe (h : s.Paced P φ) (hrun : φ.Running) {pr : Probe} :
    (s.completeProbe pr).Paced P φ := by
  have freed := h.agrees.freeProbe pr.place
  have phase {u : State} (hu : u.ctl = s.ctl) : u.phase = φ := (State.phase_congr hu).trans h.phase
  unfold State.completeProbe
  dsimp only
  split
  · rename_i hnone
    have hheld := h.agrees.not_held_of_findPlace hnone
    have same : (s.freeProbe pr.place).held = s.held := by
      rw [State.held_freeProbe, List.filter_eq_self]
      simpa using fun h k hx => hheld (h, k) hx
    exact ⟨phase rfl, h.agrees.congr rfl same rfl rfl⟩
  · rename_i r hfind
    obtain ⟨_, hplace⟩ := State.mem_of_findPlace hfind
    rw [← hplace] at freed ⊢
    have fault := (freed.credit hrun.not_fresh r.weight).laneFault fun _ => hrun.not_resting
    have opened := (freed.enter (.opened 0) rfl hrun.never false 0).frame (State.posture_post _ .opened r)
    refine .ite (fun _ => State.Paced.settleChange ⟨phase (by simp), fault⟩)
      fun _ => State.Paced.settleChange ⟨phase (by simp), opened⟩

/-! ### Claims and rolls received -/

theorem State.Paced.claimMatched (h : s.Paced P φ) (hrun : φ.Running) (hr : r.stand ∈ s.stands) {c : Claim} :
    (s.claimMatched p c r).Paced P φ :=
  .ite (fun _ => h.frame (State.posture_appendVerdict _ _ _))
    fun _ => ((h.agree hrun hr _).frame (State.posture_appendVerdict _ _ _)).settleChange

theorem State.Paced.claimMismatched (h : s.Paced P φ) (hrun : φ.Running) (hr : r.stand ∈ s.stands) {c : Claim} :
    (s.claimMismatched p c r).Paced P φ :=
  .ite (fun _ => ((h.refuse hrun hr .mismatch).frame (State.posture_appendVerdict _ _ _)).settleChange)
    fun _ => h.frame (State.posture_appendVerdict _ _ _)

theorem State.Paced.orphanPlace (h : s.Paced P φ) (hrun : φ.Running) : (s.orphanPlace p).Paced P φ := by
  unfold State.orphanPlace
  split
  · exact h
  · rename_i r hfind
    have same : (s.mapRec p (fun x => { x with scopeMark := false })).posture = s.posture :=
      s.posture_mapRec _ fun _ => rfl
    have hr : r.stand ∈ State.stands _ := State.stands_congr same ▸ State.stand_mem (State.mem_of_findPlace hfind).1
    have moved := (h.frame same).moveTo hr (.refused .orphan) rfl hrun.never false 0
    exact .ite (fun _ => .ite (fun _ => (moved.frame (State.posture_post _ _ _)).settleChange) fun _ => h.frame same)
      fun _ => h

theorem State.Paced.completeRoll (h : s.Paced P φ) (hrun : φ.Running) : (s.completeRoll p).Paced P φ := by
  have idle : (s.updPeer p (fun x => { x with channel := .idle })).Paced P φ := h.frame rfl
  exact (idle.frame (State.posture_raiseIf _ _ _)).each fun g _ hu => hu.orphanPlace (p := g) hrun

theorem State.Paced.countClaim (h : s.Paced P φ) (hrun : φ.Running) : (s.countClaim p).Paced P φ := by
  unfold State.countClaim
  split
  · exact h
  · exact .ite (fun _ => State.Paced.completeRoll (h.frame rfl) hrun) fun _ => h.frame rfl

theorem State.Paced.answerClaim (h : s.Paced P φ) (hrun : φ.Running) {c : Claim} : (s.answerClaim p c).Paced P φ := by
  unfold State.answerClaim
  split
  · exact h.frame (State.posture_appendVerdict _ _ _)
  · rename_i r hfind
    have same : (s.mapRec r.place (fun x => { x with scopeMark := false })).posture = s.posture :=
      s.posture_mapRec _ fun _ => rfl
    have hr : r.stand ∈ State.stands _ := State.stands_congr same ▸ State.stand_mem (State.mem_of_findTag hfind).1
    exact .ite (fun _ => h.frame (State.posture_appendVerdict _ _ _)) fun _ =>
      .ite (fun _ => (h.frame same).claimMismatched hrun hr) fun _ => (h.frame same).claimMatched hrun hr

/-- A claim that SETUP takes is told to wait (R81); the other station states that take one are RELINK and SERVICE. -/
theorem State.Paced.takeClaim (h : s.Paced P φ) (hst : φ.Running ∨ φ.1 = .setup) {roll : Bool} {c : Claim} :
    (s.takeClaim p roll c).Paced P φ := by
  refine .ite (fun _ => h.frame (State.posture_appendVerdict _ _ _)) fun hsetup => ?_
  have hrun : φ.Running := hst.resolve_right fun e => by
    rw [← h.phase, State.phase] at e
    by_cases hr : s.running = true
    · simp [hr] at e
    · simp [hr, hsetup] at e
  exact .ite (fun _ => (h.answerClaim hrun).countClaim hrun) fun _ => h.answerClaim hrun

theorem State.Paced.takeOffer (h : s.Paced P φ) (hst : φ.Running ∨ φ.1 = .setup) {roll : Bool} {cs : List Claim} :
    (s.takeOffer p roll cs).Paced P φ :=
  .ite (fun _ => h.each fun _ _ hu => hu.takeClaim hst) fun _ => h.frame rfl

theorem State.Paced.takeRoll (h : s.Paced P φ) (hrun : φ.Running) {n : Nat} : (s.takeRoll p n).Paced P φ := by
  have marked := h.frame (State.posture_mapTowards (s.updPeer p (fun x => { x with channel := .receiving n 0 0 })) p
    (f := fun r => { r with scopeMark := r.state != .clashed }) fun _ => rfl)
  exact .ite (fun _ => marked.completeRoll hrun) fun _ => marked

/-! ### Verdicts and releases received -/

theorem State.Paced.verdictRefuse (h : s.Paced P φ) (hrun : φ.Running) (hr : r.stand ∈ s.stands) {c : Cause} :
    (s.verdictRefuse c r).Paced P φ := .ite (fun _ => (h.refuse hrun hr c).settleChange) fun _ => h

theorem State.Paced.verdictAccept (h : s.Paced P φ) (hrun : φ.Running) (hr : r.stand ∈ s.stands) {lane : Nat} :
    (s.verdictAccept lane r).Paced P φ := by
  unfold State.verdictAccept
  split
  · exact h.verdictRefuse hrun hr
  · exact .ite (fun _ => h) fun _ => (h.agree hrun hr _).settleChange

theorem State.Paced.verdictWait (h : s.Paced P φ) (hrun : φ.Running) (hr : r.stand ∈ s.stands) :
    (s.verdictWait r).Paced P φ := by
  have waited := (h.frame (State.posture_raise s .deferral)).moveTo hr .deferred rfl hrun.never false 0
  exact .ite (fun _ => (waited.frame (State.posture_post _ _ _)).settleChange) fun _ => h

theorem State.Paced.verdictClash (h : s.Paced P φ) (hrun : φ.Running) (hr : r.stand ∈ s.stands) :
    (s.verdictClash r).Paced P φ := .ite (fun _ => h) fun _ => (h.clash hrun hr).settleChange

theorem State.Paced.takeVerdict (h : s.Paced P φ) (hrun : φ.Running) {v : Verdict} : (s.takeVerdict p v).Paced P φ := by
  unfold State.takeVerdict
  split
  · exact h.frame rfl
  · rename_i r hfind
    have hr := State.stand_mem (State.mem_of_findTowards hfind)
    split
    · exact h.verdictAccept hrun hr
    · exact h.verdictRefuse hrun hr
    · exact h.verdictRefuse hrun hr
    · exact h.verdictWait hrun hr
    · exact h.verdictClash hrun hr

theorem State.Paced.takeRelease (h : s.Paced P φ) {tag : Nat} : (s.takeRelease p tag).Paced P φ := by
  unfold State.takeRelease
  split
  · exact h
  · rename_i r hfind
    have removed := h.removeRecord (State.stand_mem (State.mem_of_findTowards hfind))
    exact (removed.frame (by simp)).settleChange

/-! ### Peers heard and peers silent (chapter 3) -/

theorem State.Paced.coldRestart (h : s.Paced P φ) : (s.coldRestart p).Paced P φ := by
  unfold State.coldRestart
  dsimp only
  generalize hu : State.raise _ _ = u
  have paced : u.Paced P φ := h.frame (by subst hu; simp only [State.posture_raise, State.posture_clearScopeMarks,
    State.posture_emptyLists, State.posture_updPeer]; split <;> simp)
  exact .ite (fun hm => paced.deferMany (paced.minds hm)) fun _ => paced

theorem State.Paced.recognise (h : s.Paced P φ) {epoch : Byte} {st : Announced} : (s.recognise p epoch st).Paced P φ := by
  unfold State.recognise
  split
  · exact h
  · exact h.frame (State.posture_warmRestart _ _ _)
  · exact h.frame (State.posture_warmRestart _ _ _)
  · exact h.coldRestart
  · exact h.frame rfl

theorem State.Paced.heard (h : s.Paced P φ) {epoch : Byte} {st : Announced} : (s.heard p epoch st).Paced P φ := by
  unfold State.heard
  refine .ite (fun _ => ?_) fun _ => h
  have recognised : (if s.awake then s.recognise p epoch st else s).Paced P φ := .ite (fun _ => h.recognise) fun _ => h
  dsimp only
  refine recognised.frame ((State.posture_judgeEnd _).trans ?_)
  split <;> simp

theorem State.Paced.goSilent (h : s.Paced P φ) : (s.goSilent p).Paced P φ := by
  unfold State.goSilent
  dsimp only
  generalize hu : State.clearScopeMarks _ _ = u
  have paced : u.Paced P φ := h.frame (by subst hu; simp only [State.posture_clearScopeMarks, State.posture_dropRequests,
    State.posture_emptyLists, State.posture_updPeer]; split <;> simp)
  exact (State.Paced.ite (fun hm => paced.deferMany (paced.minds hm)) fun _ => paced).frame (State.posture_judgeEnd _)

/-! ### The sweep, the highway frame and the due steps (chapters 3 and 6) -/

theorem State.Paced.sweepEvent (h : s.Paced P φ) : s.sweepEvent.Paced P φ := by
  refine h.frame ?_
  have hstands : s.sweepEvent.stands = s.stands := by
    simp only [State.sweepEvent, State.stands]
    split
    · rw [List.map_map]
      refine List.map_congr_left fun r _ => ?_
      simp only [Function.comp, Circuit.age]
      split <;> rfl
    · rfl
  rw [State.posture, hstands]
  rfl

/-- The echo watch moves runs alone: no record starts or stops PROBING, and none at rest is watched (R121). -/
theorem State.Paced.highwayFrame (h : s.Paced P φ) {x : HighwayInput} : (s.highwayFrame x).Paced P φ := by
  have watch (r : Circuit) : (r.watch s.ctl.slot x).place = r.place ∧
      ((r.watch s.ctl.slot x).state = r.state ∨
        ∃ m n, r.state = .opened m ∧ (r.watch s.ctl.slot x).state = .opened n) := by
    unfold Circuit.watch
    split
    · rename_i m e
      exact ⟨rfl, .inr ⟨m, _, e, rfl⟩⟩
    all_goals exact ⟨rfl, .inl rfl⟩
  have hplaces : (s.highwayFrame x).stands.map Prod.fst = s.stands.map Prod.fst := by
    simp only [State.stands, State.highwayFrame, List.map_map]
    exact List.map_congr_left fun r _ => (watch r).1
  have hheld : (s.highwayFrame x).held = s.held := by simp [State.held, State.highwayFrame, Probe.watch]
  have hprobing (g k : Nat) : (g, .probing k) ∈ (s.highwayFrame x).stands ↔ (g, .probing k) ∈ s.stands := by
    simp only [State.stands, State.highwayFrame, List.map_map, List.mem_map, Function.comp, Circuit.stand, Prod.mk.injEq]
    refine exists_congr fun r => and_congr_right fun _ => ?_
    obtain ⟨hp, e | ⟨m, n, em, en⟩⟩ := watch r
    · rw [hp, e]
    · simp [em, en]
  obtain ⟨places, slots, holders, four, probing, vacant, cap, fresh, still, rest⟩ := h.agrees
  refine ⟨h.phase, hplaces ▸ places, hheld ▸ slots, hheld ▸ holders, hheld ▸ four, fun g k hg => ?_, by simp, cap, fresh,
    hheld ▸ still, fun hP hrest y hy _ => ?_⟩
  · rw [hprobing, hheld]
    exact probing g k hg
  · obtain ⟨_, hw, rfl⟩ := List.mem_map.mp hy
    obtain ⟨r, hr, rfl⟩ := List.mem_map.mp (show _ ∈ s.records.map (Circuit.watch s.ctl.slot x) from hw)
    have hrests := rest hP hrest r.stand (State.stand_mem hr) (by simp)
    obtain ⟨_, e | ⟨m, n, em, _⟩⟩ := watch r
    · exact (show (r.watch s.ctl.slot x).stand.2 = r.state from e) ▸ hrests
    · simp [Circuit.stand, em, Relink.Rests] at hrests

theorem State.Paced.takeResend (h : s.Paced P φ) : (s.takeResend p).Paced P φ := by
  unfold State.takeResend
  split
  · exact h
  · rename_i r hfind
    have hr := State.stand_mem (State.mem_of_findPlace hfind).1
    refine .ite (fun hdue => .ite (fun _ => h.frame ?_) fun _ => ?_) fun _ => h
    · rw [State.posture_checkSingle]
      exact s.posture_mapRec _ fun _ => rfl
    · have hst : r.state = .offered := by simp at hdue; exact hdue.2
      have hrest := h.not_resting hr (by simp [hst, Relink.Rests])
      have moved := (h.frame (State.posture_raise s .deferral)).moveTo hr .deferred rfl
        (fun hP e => absurd e (hrest hP)) false 0
      exact (moved.frame (State.posture_post _ _ _)).settleChange

theorem State.Paced.takeSilence (h : s.Paced P φ) : (s.takeSilence p).Paced P φ := .ite (fun _ => h.goSilent) fun _ => h

theorem State.Paced.takeBeacon (h : s.Paced P φ) : s.takeBeacon.Paced P φ :=
  .ite (fun _ => h.frame (State.posture_announce _)) fun _ => h

theorem State.Paced.takeAbandon (h : s.Paced P φ) : (s.takeAbandon p).Paced P φ :=
  .ite (fun _ => h.frame (by simp)) fun _ => h

theorem State.Paced.takeListenEnd (h : s.Paced P φ) : s.takeListenEnd.Paced P φ := by
  refine .ite (fun hdue => ?_) fun _ => h
  have hst : s.ctl.st = .relink := by
    simp only [State.listenDue, Bool.and_eq_true, beq_iff_eq] at hdue
    obtain ⟨⟨hst, _⟩, _⟩ := hdue
    exact hst
  have hrun : φ.Running := h.running (s.running_iff.mpr (.inl hst))
  have ended : State.Paced P φ { s with ctl := { s.ctl with listenOver := true } } := h.frame rfl
  exact ((ended.frame (State.posture_passAll _)).deferMany hrun.minds).frame (State.posture_judgeEnd _)

theorem State.Paced.takeCompletion (h : s.Paced P φ) : s.takeCompletion.Paced P φ := by
  refine .ite (fun hrun => ?_) fun _ => h
  split
  · exact h
  · exact h.completeProbe (h.running hrun)

/-- A gate that faults is that of an OPEN record, which the station does not have where it comes from SETUP (R22, R39). -/
theorem State.Paced.takeEcho (h : s.Paced P φ) : s.takeEcho.Paced P φ := by
  refine .ite (fun _ => ?_) fun _ => h
  split
  · exact h
  · rename_i r hfind
    have hr := State.stand_mem (State.mem_of_mem_classOrder (List.mem_of_find?_eq_some hfind))
    obtain ⟨n, hn⟩ : ∃ n, r.state = .opened n := by
      have hdue := List.find?_some hfind
      unfold Circuit.echoDue at hdue
      split at hdue <;> simp_all
    have fault := (h.agrees.opens hr (by rw [hn]; rfl)).laneFault (h.not_resting hr (by simp [hn, Relink.Rests]))
    exact State.Paced.settleChange ⟨(State.phase_congr (by simp)).trans h.phase, fault⟩

theorem State.Paced.settleDue (h : s.Paced P φ) : s.settleDue.Paced P φ := by
  have silent := (h.each (xs := List.range 24) fun p _ hu => hu.takeSilence (p := p)).takeBeacon
  have resent {ps : List Nat} := silent.each (xs := ps) fun p _ hu => hu.takeResend (p := p)
  have abandoned {ps : List Nat} := (resent (ps := ps)).each (xs := List.range 24) fun p _ hu => hu.takeAbandon (p := p)
  exact (abandoned.takeListenEnd.each fun _ _ hu => hu.takeCompletion).each fun _ _ hu => hu.takeEcho

theorem State.Paced.resendTag (h : s.Paced P φ) {tag : Nat} : (s.resendTag tag).Paced P φ := by
  unfold State.resendTag
  split
  · exact h
  · exact h.takeResend

theorem State.Paced.expirePace (h : s.Paced P φ) : s.expirePace.Paced P φ := by
  refine .ite (fun hdue => ?_) fun _ => h
  have hrun : φ.Running := h.running (by simp at hdue; exact hdue.1)
  have granted : (s.credit s.grant).Paced P φ := ⟨h.phase, h.agrees.credit hrun.not_fresh _⟩
  refine State.Paced.settleChange (granted.frame ?_)
  split <;> rfl

/-! ### The shelf line (chapter 7) -/

theorem State.posture_build (s : State) (req : Request) : (s.build req).posture = s.posture := by
  cases req with
  | roll p =>
    exact s.posture_mapTowards p (f := fun r => if r.state = .clashed then r else { r with rollMark := true })
      (fun r => by split <;> rfl)
  | beacon | rollOffer | singleOffer | answer | release => rfl

theorem State.posture_passedOver (s : State) (req : Request) : (s.passedOver req).posture = s.posture := by
  cases req with
  | rollOffer p => simp only [State.passedOver]; split <;> simp
  | beacon | roll | singleOffer | answer | release => rfl

theorem State.posture_takeTurns (n : Nat) (s : State) : (s.takeTurns n).posture = s.posture := by
  induction n generalizing s with
  | zero => rfl
  | succ n ih =>
    unfold State.takeTurns
    split
    · rw [State.posture_convertWants]; rfl
    · split
      · rw [ih, State.posture_passedOver, State.posture_setQueue]
      · exact s.posture_build _

theorem State.Paced.takePosition (h : s.Paced P φ) {pos : Nat} : (s.takePosition pos).Paced P φ :=
  .ite (fun _ => h.frame (State.posture_takeTurns _ _)) fun _ => h

theorem State.Paced.claimsSent (h : s.Paced P φ) {roll : Bool} {places : List Nat} :
    (s.claimsSent roll places).Paced P φ :=
  .ite (fun hrun => h.each fun _ _ hu => hu.claimSent (h.running hrun)) fun _ => h

theorem State.Paced.sentEffects (h : s.Paced P φ) {f : InFlight} : (s.sentEffects f).Paced P φ := by
  unfold State.sentEffects
  split
  · exact h
  · split
    · exact h.frame (by split <;> simp)
    · exact h.frame (State.posture_pass _ _)
    · exact h
  · refine (h.claimsSent (roll := true) (places := f.carried)).frame ?_
    dsimp only
    split <;> [(split <;> simp); rfl]
  · exact h.claimsSent.frame (State.posture_checkSingle _ _)
  · exact h.frame (by dsimp only; split <;> simp)
  · exact h.frame (by dsimp only; split <;> simp)

theorem State.Paced.takeSentWhole (h : s.Paced P φ) : s.takeSentWhole.Paced P φ := by
  unfold State.takeSentWhole
  split
  · exact h
  · rename_i f _
    unfold State.sentWhole
    dsimp only
    refine State.Paced.frame (s := State.sentEffects f (if f.queued = true then _ else _))
      (State.Paced.sentEffects (h.frame ?_)) (by rw [State.posture_passAll, State.posture_convertWants]; rfl)
    split <;> rfl

theorem State.Paced.takeCollision (h : s.Paced P φ) : s.takeCollision.Paced P φ := by
  refine .ite (fun _ => h.frame ?_) fun _ => h
  rw [State.posture_judgeLamp, State.posture_raiseIf, State.posture_jamFrame]
  rfl

theorem State.Paced.actOn {α : Type} (h : s.Paced P φ) {src : Nat} {read : Option α} {act : α → State → State}
    (ha : ∀ x, (act x s).Paced P φ) : (s.actOn src read act).Paced P φ := by
  unfold State.actOn
  split
  · exact h.frame rfl
  · exact .ite (fun _ => ha _) fun _ => h

theorem State.Paced.handOn (h : s.Paced P φ) {kind : Byte} {f : LineFrame} : (s.handOn kind f).Paced P φ := by
  have error : s.lineError.Paced P φ := h.frame rfl
  unfold State.handOn
  refine .ite (fun _ => h) fun _ => .ite (fun _ => .ite (fun _ => h) fun _ => error) fun _ => .ite (fun _ => error) fun _ =>
    .ite (fun _ => error) fun _ => .ite (fun _ => .ite (fun hst => ?_) fun _ => h) fun _ => .ite (fun hr => ?_) fun _ => h
  · refine h.actOn fun _ => h.takeOffer (hst.imp h.running fun e => ?_)
    rw [← h.phase]
    simp [State.phase, State.running, e]
  · have hrun := h.running hr
    exact .ite (fun _ => h.actOn fun _ => h.takeRoll hrun) fun _ =>
      .ite (fun _ => h.actOn fun _ => h.each fun _ _ hu => hu.takeVerdict hrun) fun _ =>
        h.actOn fun _ => h.each fun _ _ hu => hu.takeRelease

theorem State.Paced.receive (h : s.Paced P φ) {kind : Byte} {f : LineFrame} : (s.receive kind f).Paced P φ := by
  refine .ite (fun _ => h) fun _ => ?_
  have heard : State.Paced P φ { s with line := { s.line with lastSender := f.src } } := h.frame rfl
  exact heard.heard.handOn

theorem State.Paced.tickLamp (h : s.Paced P φ) : s.tickLamp.Paced P φ :=
  h.frame (State.posture_congr (by simp) (by simp) (by simp) (by simp) (by simp))

theorem State.Paced.tickPace (h : s.Paced P φ) : s.tickPace.Paced P φ := by
  unfold State.tickPace
  split
  · exact h
  · exact .ite (fun _ => h.expirePace) fun _ => h.frame rfl

theorem State.Paced.tickSweep (h : s.Paced P φ) : s.tickSweep.Paced P φ := by
  unfold State.tickSweep
  split
  · exact h
  · exact .ite (fun _ => .ite (fun _ => h.sweepEvent) fun _ => h) fun _ => h.frame rfl

end Rules

end Sys2Proof.Machine
end

section
/-! Changes of the station state, the commands and the rows keep the agreement of O56. -/

namespace Sys2Proof.Machine

/-- The agreement holds, whatever the station state. -/
def State.Steady (P : Prop) (s : State) : Prop := s.Agrees P s.phase none

section Stations

variable {P : Prop} {φ ψ : Phase} {s t : State}

theorem State.Paced.steady (h : s.Paced P φ) : s.Steady P := by
  obtain ⟨rfl, agrees⟩ := h
  exact agrees

theorem State.Steady.paced (h : s.Steady P) : s.Paced P s.phase := ⟨rfl, h⟩

theorem State.Steady.frame (h : s.Steady P) (he : t.posture = s.posture) : t.Steady P := (h.paced.frame he).steady

/-- The station goes to a phase that asks no more of the records than the one it leaves. -/
theorem State.Agrees.rephase (h : s.Agrees P φ none) (hfresh : ψ.Fresh → φ.Fresh) (hrest : ψ.Resting → φ.Resting)
    (hstill : ¬ ψ.Running → s.held = []) : s.Agrees P ψ none :=
  { h with
    fresh := fun e => h.fresh (hfresh e)
    still := hstill
    rest := fun hP e => h.rest hP (hrest e) }

/-- A sequencer and a highway port at their start values (R97, R124), and no record PROBING. -/
theorem State.Agrees.blank (places : (s.stands.map Prod.fst).Nodup) (hheld : s.held = []) (ha : s.seq.allowance = 0)
    (hst : ∀ x ∈ s.stands, x.2.isProbing = false) (hrest : φ.Resting → ∀ x ∈ s.stands, x.2.Rests) :
    s.Agrees P φ none := by
  have none (h k : Nat) : (h, .probing k) ∈ s.stands ↔ (h, k) ∈ s.held := by
    refine iff_of_false (fun hx => ?_) (by simp [hheld])
    have := hst _ hx
    cases this
  exact ⟨places, by simp [hheld], by simp [hheld], by simp [hheld], fun h k _ => none h k, by simp, ha ▸ Nat.zero_le _,
    fun _ => ha, fun _ => hheld, fun _ e x hx _ => hrest e x hx⟩

/-- The relink fields discarded (R3, R48), where nothing is allowed yet. -/
theorem State.Agrees.ofFresh (h : s.Agrees P φ none) (hr : t.records = s.records.map Circuit.fresh)
    (hheld : t.held = []) (ha : t.seq.allowance = 0) (hrest : ¬ ψ.Resting) : t.Agrees P ψ none := by
  have hfresh (r : Circuit) : r.fresh.place = r.place ∧ r.fresh.state.isProbing = false := by
    unfold Circuit.fresh
    refine ⟨rfl, ?_⟩
    dsimp only
    split <;> rfl
  refine .blank ?_ hheld ha (fun x hx => ?_) fun e => absurd e hrest
  · have : t.stands.map Prod.fst = s.stands.map Prod.fst := by
      rw [State.stands, hr, State.stands, List.map_map, List.map_map, List.map_map]
      exact List.map_congr_left fun r _ => (hfresh r).1
    exact this ▸ h.places
  · rw [State.stands, hr, List.map_map] at hx
    obtain ⟨r, _, rfl⟩ := List.mem_map.mp hx
    exact (hfresh r).2

/-- An empty table (R18). -/
theorem State.Agrees.ofEmpty (hr : t.records = []) (hheld : t.held = []) (ha : t.seq.allowance = 0) :
    t.Agrees P ψ none := by
  have : t.stands = [] := by rw [State.stands, hr]; rfl
  refine .blank ?_ hheld ha ?_ ?_ <;> simp [this]

theorem State.Steady.held_of_not_running (h : s.Steady P) (hrun : s.running = false) : s.held = [] :=
  h.still fun e => by simp [s.phase_running_iff.mp e] at hrun

/-! ### Starts, GO and PURGE (chapter 8) -/

theorem State.Steady.enterStarting (h : s.Steady P) (cut : EditCut) : (s.enterStarting cut).Steady P := by
  refine State.Agrees.ofFresh h ?_ rfl rfl ?_
  · show (s.strike cut).records.map Circuit.fresh = _
    rw [(s.strike_keeps cut).1]
  · simp [State.phase_resting_iff, State.enterStarting]

theorem State.Steady.readStraps (h : s.Steady P) (slotPins sizePins : Nat) :
    (s.readStraps slotPins sizePins).Steady P := by
  unfold State.readStraps
  by_cases hdue : s.ctl.st = .starting ∧ s.ctl.resetHeld = true
  · have still : s.running = false := by simp [State.running, hdue.1]
    have fresh : s.phase.Fresh := s.phase_fresh_iff.mpr (.inl hdue.1)
    rw [if_pos hdue]
    dsimp only
    split
    · refine State.Agrees.congr (s := s) (State.Agrees.rephase h (fun _ => fresh) ?_ fun _ => h.held_of_not_running still) ?_ ?_ ?_ ?_
      · simp [State.phase_resting_iff, State.setStation]
      all_goals simp [State.stands, State.held, State.cap]
    · exact State.Agrees.frame (s := s) (State.Agrees.rephase h (fun _ => fresh)
        (by simp [State.phase_resting_iff, hdue.1]) fun _ => h.held_of_not_running still) rfl
  · rw [if_neg hdue]
    exact h

theorem State.phase_enterRelink (s : State) : s.enterRelink.phase.Running := by
  rw [State.phase_running_iff, State.running_iff]
  left
  simp [State.enterRelink, State.setStation, State.oweAll]

theorem State.allowance_relinkTimer (s : State) : s.relinkTimer.seq.allowance = s.seq.allowance := by
  unfold State.relinkTimer
  split <;> rfl

/-- RELINK asks nothing of the records (R152, R154). -/
theorem State.Steady.enterRelink (h : s.Steady P) : s.enterRelink.Steady P := by
  have hrun := s.phase_enterRelink
  refine State.Agrees.congr (s := s) (State.Agrees.rephase h (fun e => absurd e hrun.not_fresh)
    (fun e => absurd e hrun.not_resting) fun e => absurd hrun e) ?_ ?_ ?_ ?_
  · simp [State.stands]
  · simp [State.held]
  · simp [State.enterRelink, State.allowance_relinkTimer, State.oweAll]
  · simp [State.cap]

theorem State.startDue_starting (h : s.startDue = true) : s.ctl.st = .starting := by
  simp only [State.startDue, Bool.and_eq_true, beq_iff_eq] at h
  obtain ⟨⟨hst, _⟩, _⟩ := h
  exact hst

theorem State.Steady.endWarm (h : s.Steady P) (hdue : s.startDue = true) : s.endWarm.Steady P := by
  have hst := State.startDue_starting hdue
  have hrun : s.endWarm.phase.Running := State.phase_enterRelink _
  refine State.Agrees.ofFresh h ?_ ?_ ?_ hrun.not_resting
  · simp [State.endWarm, State.freshLinks]
  · have : s.held = [] := h.held_of_not_running (by simp [State.running, hst])
    simpa [State.held] using this
  · have : s.seq.allowance = 0 := h.fresh (s.phase_fresh_iff.mpr (.inl hst))
    simpa [State.endWarm, State.enterRelink, State.allowance_relinkTimer, State.oweAll] using this

theorem State.Steady.endCold (h : s.Steady P) (hdue : s.startDue = true) : s.endCold.Steady P := by
  have hst := State.startDue_starting hdue
  refine State.Agrees.ofEmpty ?_ ?_ ?_
  · simp [State.endCold, State.coldRewrite]
  · have : s.held = [] := h.held_of_not_running (by simp [State.running, hst])
    simpa [State.held] using this
  · have : s.seq.allowance = 0 := h.fresh (s.phase_fresh_iff.mpr (.inl hst))
    simpa [State.endCold, State.enterSetup] using this

theorem State.takePurge_steady (s : State) : s.takePurge.Steady P := by
  refine State.Agrees.ofEmpty ?_ ?_ ?_ <;>
    simp [State.takePurge, State.enterSetup, State.coldRewrite, State.held, HighwayPort.start, Sequencer.start]

/-! ### QUIESCE and recovery (R158, R160) -/

/-- At the entry to QUIESCE a place loses its probe, where it has one, and no more (R47). -/
theorem State.Agrees.unprobe (h : s.Agrees P φ none) (hq : ¬ s.phase.Running) (g : Nat) :
    (s.unprobe g).Agrees P φ none ∧ (s.unprobe g).phase = s.phase ∧
      ∀ x ∈ (s.unprobe g).held, x ∈ s.held ∧ x.1 ≠ g := by
  have kept (hno : ∀ x ∈ s.held, x.1 ≠ g) :
      s.Agrees P φ none ∧ s.phase = s.phase ∧ ∀ x ∈ s.held, x ∈ s.held ∧ x.1 ≠ g :=
    ⟨h, rfl, fun x hx => ⟨hx, hno x hx⟩⟩
  unfold State.unprobe
  split
  · rename_i hnone
    exact kept (h.not_held_of_findPlace hnone)
  · rename_i r hfind
    obtain ⟨hmem, rfl⟩ := State.mem_of_findPlace hfind
    have hr := State.stand_mem hmem
    split
    · rename_i hp
      have moved := h.moveTo hr .confirmed rfl (h.running_of_probing hr hp).never false 0
      have phase : (s.moveTo r .confirmed false 0).phase = s.phase := State.phase_congr (by simp)
      have still : (s.moveTo r .confirmed false 0).running = false := by
        rwa [← phase, State.phase_running_iff, Bool.not_eq_true] at hq
      have same : ((s.moveTo r .confirmed false 0).settleChange (attemptCause r.state .confirmed)).posture =
          (s.moveTo r .confirmed false 0).posture := by
        unfold State.settleChange State.attempt
        rw [State.posture_judgeEnd, still]
        split <;> rfl
      have held : ((s.moveTo r .confirmed false 0).settleChange (attemptCause r.state .confirmed)).held =
          s.held.filter (fun x => x.1 != r.place) := by
        refine (congrArg Posture.held same).trans ((congrArg Posture.held (State.posture_enter _ _ _ _ _)).trans ?_)
        show (s.cancelProbe r).held = _
        rw [State.cancelProbe, if_pos hp]
        exact s.held_freeProbe r.place
      refine ⟨moved.frame same, (congrArg Posture.phase same).trans phase, fun x hx => ?_⟩
      rw [held] at hx
      simpa using hx
    · rename_i hn
      exact kept (h.not_held hr (Bool.eq_false_iff.mpr hn))

/-- At the entry to QUIESCE the places walked over lose their probes. -/
theorem State.Agrees.unprobes (h : s.Agrees P φ none) (hq : ¬ s.phase.Running) (gs : List Nat) :
    (s.each gs State.unprobe).Agrees P φ none ∧ (s.each gs State.unprobe).phase = s.phase ∧
      ∀ x ∈ (s.each gs State.unprobe).held, x ∈ s.held ∧ x.1 ∉ gs := by
  induction gs generalizing s with
  | nil => exact ⟨h, rfl, fun x hx => ⟨hx, by simp⟩⟩
  | cons g gs ih =>
    obtain ⟨agrees, phase, held⟩ := h.unprobe hq g
    obtain ⟨walked, phase', left⟩ := ih agrees (phase ▸ hq)
    refine ⟨walked, phase'.trans phase, fun x hx => ?_⟩
    obtain ⟨hx, hnot⟩ := left x hx
    obtain ⟨hx, hne⟩ := held x hx
    exact ⟨hx, by simp [hne, hnot]⟩

/-- Class order lists every record of a table within its limits. -/
theorem State.tableOk.mem_classOrder (ok : s.tableOk) {r : Circuit} (hr : r ∈ s.records) : r ∈ s.classOrder := by
  obtain ⟨_, _, _, _, _, hcls, _⟩ := ok.inRange hr
  exact List.mem_of_mem_filter (State.mem_towards hr hcls rfl)

/-- A walk over the PROBING records leaves no slot held. -/
theorem State.Agrees.unprobes_all (h : s.Agrees P φ none) (ok : s.tableOk) (hq : ¬ s.phase.Running) :
    (s.each ((s.classOrder.filter (fun r => r.state.isProbing)).map Circuit.place) State.unprobe).held = [] := by
  obtain ⟨_, _, left⟩ := h.unprobes hq ((s.classOrder.filter (fun r => r.state.isProbing)).map Circuit.place)
  refine List.eq_nil_iff_forall_not_mem.mpr fun x hx => ?_
  obtain ⟨hx, hnot⟩ := left x hx
  obtain ⟨r, hr, hstand⟩ := List.mem_map.mp ((h.probing x.1 x.2 (by simp)).mpr hx)
  have hstate : r.state = .probing x.2 := congrArg Prod.snd hstand
  refine hnot (List.mem_map.mpr ⟨r, List.mem_filter.mpr ⟨ok.mem_classOrder hr, ?_⟩, congrArg Prod.fst hstand⟩)
  rw [hstate]
  rfl

/-- The station in QUIESCE, before any record is touched (R158). -/
def State.frozen (a : Announced) (s : State) : State :=
  State.setStation .quiesce { s with ctl := { s.ctl with ret := some a } }

/-- The state in which recovery writes, resumes and announces (R160). -/
def State.returned (a : Announced) (s : State) : State :=
  State.raise .recover (State.setStation (stationOf a) { s with ctl := { s.ctl with ret := none } })

/-- The entry to QUIESCE from an announced station state: no record stays PROBING, and one that comes from SETUP has nothing
allowed and every record at rest (R47, R158). -/
theorem State.Steady.enterQuiesce (h : s.Steady P) (ok : s.tableOk) {a : Announced} (ha : announcedOf s.ctl.st = some a) :
    (s.enterQuiesce a).Steady P := by
  have tends : s.Tends (s.frozen a) :=
    ((State.Tends.refl s).frame (u := { s with ctl := { s.ctl with ret := some a } }) rfl rfl).setStation
  have agrees : (s.frozen a).jamFrame.Agrees P s.phase none := by
    refine State.Agrees.frame (s := s.frozen a) (State.Agrees.congr (s := s) h ?_ ?_ ?_ ?_) (State.posture_jamFrame _) <;>
      simp [State.frozen, State.stands, State.held, State.cap]
  have phase : (s.frozen a).jamFrame.phase = (.quiesce, some a) := by
    simp [State.frozen, State.phase, State.running, State.setStation]
  have still : ¬ (s.frozen a).jamFrame.phase.Running := by simp [phase, Phase.Running]
  have empty := agrees.unprobes_all (tends.jamFrame.tableOk ok) still
  obtain ⟨walked, phase', _⟩ := agrees.unprobes still
    (((s.frozen a).jamFrame.classOrder.filter (fun r => r.state.isProbing)).map Circuit.place)
  have resting (e : Phase.Resting (.quiesce, some a)) : s.phase.Resting := by
    obtain rfl : a = .setup := by simpa [Phase.Resting] using e
    refine s.phase_resting_iff.mpr (.inl ?_)
    cases e : s.ctl.st <;> simp [announcedOf, e] at ha ⊢
  have quiet : State.Agrees P (.quiesce, some a) none _ := walked.rephase
    (fun e => .inr (.inr (resting (by simpa [Phase.Fresh] using e)))) resting fun _ => empty
  have hphase : (s.enterQuiesce a).phase = (.quiesce, some a) := phase'.trans phase
  rw [State.Steady, hphase]
  exact quiet.congr rfl rfl rfl rfl

/-- Recovery returns to the station state that was left (R160). -/
theorem State.Steady.recover (h : s.Steady P) (hst : s.ctl.st = .quiesce) {a : Announced} (ha : s.ctl.ret = some a) :
    (s.recover a).Steady P := by
  have still : s.held = [] := h.held_of_not_running (by simp [State.running, hst])
  have resting (e : (s.returned a).phase.Resting) : s.phase.Resting := by
    refine s.phase_resting_iff.mpr (.inr ⟨hst, ?_⟩)
    rw [State.phase_resting_iff] at e
    cases a <;> simp [State.returned, State.setStation, stationOf, ha] at e ⊢
  have fresh (e : (s.returned a).phase.Fresh) : s.phase.Fresh := by
    refine .inr (.inr (resting ?_))
    rw [State.phase_fresh_iff] at e
    rw [State.phase_resting_iff]
    cases a <;> simp [State.returned, State.setStation, stationOf] at e ⊢
  have agrees : (s.returned a).Steady P := by
    refine State.Agrees.congr (s := s) (State.Agrees.rephase h fresh resting fun _ => still) ?_ ?_ ?_ ?_ <;>
      simp [State.returned, State.stands, State.held, State.cap]
  have announced : ((s.returned a).writePending.resumeTimer.announce).Paced P (s.returned a).phase := agrees.paced.frame (by simp)
  have letGo : ((s.returned a).writePending.resumeTimer.announce.letGo).Paced P (s.returned a).phase := by
    refine .ite (fun _ => ?_) fun _ => announced
    exact ((announced.frame (State.posture_passAll _)).each fun p _ hu =>
      hu.frame (State.posture_checkSingle _ p)).attempt
  exact (letGo.frame (State.posture_judgeEnd _)).steady

theorem State.Steady.convert (h : s.Steady P) (ok : s.tableOk) (millivolts : Nat) : (s.convert millivolts).Steady P := by
  have counted : State.Steady P { s with supply := s.supply.take s.threshold (sampleOf millivolts) } := h.frame rfl
  unfold State.convert
  split
  · exact h
  · dsimp only
    split
    · split
      · rename_i a ha
        exact counted.enterQuiesce ok ha
      · exact counted
    · split
      · rename_i hrec
        have hst : s.ctl.st = .quiesce := by simp at hrec; exact hrec.2
        split
        · rename_i a ha
          exact counted.recover hst ha
        · exact counted
      · exact counted

/-! ### Settling -/

theorem State.Steady.settle (h : s.Steady P) : s.settle.Steady P := by
  unfold State.settle
  split
  · rw [State.settleAll_eq]
    refine State.Paced.steady (State.Paced.settleDue (State.Steady.paced ?_))
    split
    · split
      · exact h.endWarm ‹_›
      · exact h.endCold ‹_›
    · exact h
  · exact h

/-! ### Commands at the card port -/

/-- A record enters the table (R7). -/
theorem State.Paced.append (h : s.Paced P φ) {x : Circuit} (hnew : x.place ∉ s.records.map (·.place))
    (hst : x.state.isProbing = false) (hrest : P → φ.Resting → x.state.Rests) (hr : t.records = s.records ++ [x])
    (hs : t.store.settings = s.store.settings) (hq : t.seq = s.seq) (hw : t.hw = s.hw) (hc : t.ctl = s.ctl) :
    t.Paced P φ := by
  have stands : t.stands = s.stands ++ [x.stand] := by simp [State.stands, hr]
  have held : t.held = s.held := by rw [State.held, hw, State.held]
  have hne : ∀ y ∈ s.stands, y.1 ≠ x.place := by
    intro y hy e
    obtain ⟨r, hr, rfl⟩ := List.mem_map.mp hy
    exact hnew (List.mem_map.mpr ⟨r, hr, e⟩)
  obtain ⟨places, slots, holders, four, probing, vacant, cap, fresh, still, rest⟩ := h.agrees
  refine ⟨(State.phase_congr hc).trans h.phase, ⟨?_, held ▸ slots, held ▸ holders, held ▸ four, fun g k hg => ?_, by simp,
    by rw [hq, State.cap, hs]; exact cap, by rw [hq]; exact fresh, held ▸ still, fun hP hφ y hy _ => ?_⟩⟩
  · rw [stands, List.map_append, List.nodup_append]
    exact ⟨places, by simp, by simpa [Circuit.stand] using fun a b hx => hne (a, b) hx⟩
  · rw [stands, held, ← probing g k hg]
    simp only [List.mem_append, List.mem_singleton, or_iff_left_iff_imp, Circuit.stand]
    intro e
    rw [← show Relink.probing k = x.state from congrArg Prod.snd e] at hst
    cases hst
  · rw [stands] at hy
    rcases List.mem_append.mp hy with hy | hy
    · exact rest hP hφ y hy (by simp)
    · obtain rfl := List.mem_singleton.mp hy
      exact hrest hP hφ

theorem State.Paced.takeProvision (h : s.Paced P φ) {f : ProvisionFields} {g : Nat} (hfree : s.freePlace = some g) :
    (s.takeProvision f g).Paced P φ := by
  obtain ⟨_, hnew, _⟩ := (State.freePlace_eq_some_iff g s).mp hfree
  have entered : (State.closeEdit { s with records := s.records ++ [s.newRecord f g] }).Paced P φ := by
    refine h.append (x := s.newRecord f g) hnew ?_ (fun _ e => ?_) rfl rfl rfl rfl rfl
    · show (s.entryState f.farSlot).isProbing = false
      unfold State.entryState
      split <;> rfl
    · have hrun : s.running = false := Bool.eq_false_iff.mpr fun e' => (h.running e').not_resting e
      exact .inl (by simp [State.newRecord, State.entryState, hrun])
  exact .ite (fun _ => (entered.frame (by simp)).settleChange) fun _ => entered

theorem State.Paced.takeDrop (h : s.Paced P φ) {r : Circuit} (hr : r.stand ∈ s.stands) : (s.takeDrop r).Paced P φ := by
  have removed := h.removeRecord hr
  refine State.Paced.settleChange (removed.frame ?_)
  rw [State.posture_restartRoll]
  split <;> simp

theorem State.Paced.takeRearm (h : s.Paced P φ) (hrun : φ.Running) {r : Circuit} (hr : r.stand ∈ s.stands)
    (hst : r.state = .clashed) : (s.takeRearm r).Paced P φ := by
  have same : (s.mapRec r.place (fun x => { x with clashMark := false, clashPending := false, inUse := .primary })).closeEdit.posture =
      s.posture := s.posture_mapRec _ fun _ => rfl
  have parked := (h.frame same).enter (State.stands_congr same ▸ hr) (by rw [hst]; rfl) .parked rfl hrun.never
    (s.peer r.farSlot).up 0
  refine .ite (fun _ => (parked.frame (State.posture_checkSingle _ _)).settleChange) fun _ => State.Paced.settleChange ?_
  refine parked.enter (r := { r with state := .parked }) ?_ rfl .deferred rfl hrun.never false 0
  rw [show State.stands _ = _ from congrArg Posture.stands (State.posture_enter _ _ _ _ _), State.stands_congr same]
  exact List.mem_map.mpr ⟨r.stand, hr, if_pos rfl⟩

/-- CONFIGURE is taken in SETUP alone, where nothing is allowed yet (R97, R168). -/
theorem State.Steady.writeSettings (h : s.Steady P) (hst : s.ctl.st = .setup) (c : Settings) :
    (s.writeSettings c).Steady P := by
  have ha : s.seq.allowance = 0 := h.fresh (s.phase_fresh_iff.mpr (.inr (.inr (.inl hst))))
  exact { h with cap := (Nat.le_of_eq ha).trans (Nat.zero_le _) }

theorem State.takeSetPace_posture (reload : Nat) (mode : PaceMode) (s : State) :
    (s.takeSetPace reload mode).posture = s.posture := by
  unfold State.takeSetPace
  dsimp only
  split <;> rfl

/-- Every command that is taken keeps the agreement. -/
theorem CardCommand.judge_steady {c : CardCommand} (h : s.Steady P) {p : List Byte} (hj : c.judge s = .take t p) :
    t.Steady P := by
  unfold CardCommand.judge at hj
  split at hj
  · cases hj
  rename_i hgate
  cases c <;> simp only [CardCommand.run] at hj
  case nop => cases hj
  case status => cases hj; exact h
  case configure c =>
    have hst : s.ctl.st = .setup := by
      cases e : s.ctl.st <;> simp [CardCommand.gate, e] at hgate ⊢
    unfold State.doConfigure at hj
    split at hj <;> cases hj
    exact h.writeSettings hst _
  case go => cases hj; exact h.enterRelink
  case provision f =>
    unfold State.doProvision at hj
    split at hj <;> cases hj
    exact (h.paced.takeProvision ‹_›).steady
  case drop tag =>
    unfold State.doDrop at hj
    split at hj
    · cases hj
    · split at hj <;> cases hj
      exact (h.paced.takeDrop (State.stand_mem (State.mem_of_findTag ‹_›).1)).steady
  case rearm tag =>
    have hrun : s.running = true := by
      cases e : s.ctl.st <;> simp [CardCommand.gate, State.running, e] at hgate ⊢
    unfold State.doRearm at hj
    split at hj
    · cases hj
    · split at hj <;> cases hj
      exact (h.paced.takeRearm (h.paced.running hrun) (State.stand_mem (State.mem_of_findTag ‹_›).1) ‹_›).steady
  case query tag => unfold State.doQuery at hj; split at hj <;> cases hj; exact h
  case readEntry cls index =>
    unfold State.doReadEntry at hj
    split at hj
    · cases hj
    · split at hj <;> cases hj
      exact h
  case readPeer slot => unfold State.doReadPeer at hj; split at hj <;> cases hj; exact h
  case readNotices => cases hj; exact h.frame rfl
  case readEvents => cases hj; exact h.frame rfl
  case setEnables w => cases hj; exact h.frame rfl
  case setPace reload mode =>
    unfold State.doSetPace at hj
    split at hj <;> cases hj
    exact h.frame (State.takeSetPace_posture _ _ _)
  case stepPace =>
    unfold State.doStep at hj
    split at hj
    · cases hj
    · split at hj <;> cases hj
      · exact h
      · exact h.frame rfl
  case purge => cases hj; exact s.takePurge_steady
  case unmute => cases hj; exact h.frame (State.posture_judgeLamp _)

theorem State.Steady.transfer (h : s.Steady P) (c : CardCommand) (k : Nat) : (s.transfer c k).Steady P := by
  unfold State.transfer
  split
  · exact h.frame rfl
  · have ended : (s.endTransfer (c.record.length + k)).Steady P := h.frame rfl
    rcases (s.endTransfer (c.record.length + k)).takeCommand_cases c with ⟨r, p, _, e⟩ | ⟨t, p, hj, e⟩ | ⟨_, e⟩ <;> rw [e]
    · exact ended.frame rfl
    · exact (CardCommand.judge_steady ended hj).frame rfl
    · exact ended

theorem State.rejectTransfer_posture (bytes : List Byte) (s : State) : (s.rejectTransfer bytes).posture = s.posture := by
  unfold State.rejectTransfer
  dsimp only
  repeat' split
  all_goals rfl

/-! ### The rows -/

/-- Every row keeps the agreement. -/
theorem exec_steady (c : Instr) (h : s.Steady P) (ok : s.tableOk) (he : exec c s = .next t) : t.Steady P := by
  have settled := h.settle
  cases c <;> cases he
  case nop | status | configure | go | provision | drop | rearm | query | readEntry | readPeer | readNotices |
      readEvents | setEnables | setPace | stepPace | purge | unmute =>
    exact settled.transfer _ _
  case rejectedRecord bytes => exact settled.frame (State.rejectTransfer_posture bytes _)
  case start cause cut => exact settled.enterStarting cut
  case strapRead => exact settled.readStraps _ _
  case warmStart =>
    unfold State.takeWarm
    split
    · rename_i hdue
      simp only [Bool.and_eq_true] at hdue
      exact h.endWarm hdue.1
    · exact h
  case coldStart =>
    unfold State.takeCold
    split
    · rename_i hdue
      simp only [Bool.and_eq_true] at hdue
      exact h.endCold hdue.1
    · exact h
  case keepAliveClear => exact settled.frame rfl
  case conversionResult => exact settled.convert (s.settle_ok.1 ok) _
  case sweep =>
    exact (State.Paced.ite (fun _ => settled.paced.sweepEvent) fun _ => settled.paced).steady
  case peerSilent => exact h.paced.takeSilence.steady
  case beaconDue => exact h.paced.takeBeacon.steady
  case claimResend => exact h.paced.resendTag.steady
  case rollAbandon => exact h.paced.takeAbandon.steady
  case listenIntervalEnd => exact h.paced.takeListenEnd.steady
  case paceExpiry => exact settled.paced.expirePace.steady
  case probeCompletion => exact h.paced.takeCompletion.steady
  case echoFault => exact h.paced.takeEcho.steady
  case linePosition => exact settled.paced.takePosition.steady
  case frameSentWhole => exact settled.paced.takeSentWhole.steady
  case collision => exact settled.paced.takeCollision.steady
  case beaconReceived | rollReceived | offerReceived | answerReceived | releaseReceived | otherFrameReceived =>
    exact settled.paced.receive.steady
  case badFrameReceived =>
    refine settled.frame ?_
    unfold State.receiveBad
    split
    · rfl
    · split <;> rfl
  case jamReceived => exact settled
  case lampPeriod => exact settled.frame (State.posture_congr (by simp) (by simp) (by simp) (by simp) (by simp))
  case highwayFrame => exact settled.paced.highwayFrame.steady
  case chipSelectAsserted =>
    refine settled.frame ?_
    unfold State.assertSelect
    split <;> rfl

theorem State.Steady.tick (h : s.Steady P) : s.tick.Steady P :=
  h.settle.paced.tickLamp.tickPace.tickSweep.steady

end Stations

end Sys2Proof.Machine

open Sys2Proof Sys2Proof.Machine

/-- Settles O56: every operation keeps the agreement, in whatever phase the station is. -/
theorem paceAndProbesKept : Obligations.PaceAndProbesKept := by
  unfold Obligations.PaceAndProbesKept
  intro s t ok pace probes hstep
  have hplaces (u : State) (ok : u.tableOk) : (u.records.map (·.place)).Nodup := by
    obtain ⟨_, _, _, places, _⟩ := ok
    exact places
  have before : s.Steady s.setupOk := (State.agrees_iff (hplaces s ok)).mpr ⟨pace, probes, id⟩
  have after : t.tableOk ∧ t.Steady s.setupOk := by
    unfold step at hstep
    split at hstep
    · cases hstep
      exact ⟨s.tick_ok.1 ok, before.tick⟩
    · rename_i c rest _
      have waiting : State.Steady s.setupOk { s with pending := rest } := before.frame rfl
      exact ⟨(exec_ok c hstep).1 ok, exec_steady c waiting ok hstep⟩
  exact (State.agrees_iff (hplaces t after.1)).mp after.2

end

section
/-! What a change of one record leaves of it and of the others, and REARM, CLAIM_RESEND and the due steps that come first
(O4, O13, O32). -/

namespace Sys2Proof.Machine

/-! ### Flags -/

/-- A flag is set where its bit is. -/
theorem EventUnit.has_iff (f : EventFlag) (e : EventUnit) : e.has f = true ↔ e.flags.getLsbD f.bit = true := by
  have hmask : f.mask = BitVec.twoPow 12 f.bit := rfl
  have hbit : f.bit < 12 := by cases f <;> decide
  rw [EventUnit.has, hmask, BitVec.and_twoPow]
  split
  · rename_i h
    simp only [h, iff_true]
    cases f <;> decide
  · rename_i h
    simp [h]

@[simp] theorem EventUnit.has_raise_self (f : EventFlag) (e : EventUnit) : (e.raise f).has f = true := by
  have hbit : f.bit < 12 := by cases f <;> decide
  rw [EventUnit.has_iff]
  simp [EventUnit.raise, EventFlag.mask, hbit]

theorem EventUnit.has_raise {f : EventFlag} (g : EventFlag) {e : EventUnit} (h : e.has f = true) :
    (e.raise g).has f = true := by
  rw [EventUnit.has_iff] at h ⊢
  simp [EventUnit.raise, h]

/-- Raising a flag that is set changes nothing (R180). -/
theorem EventUnit.raise_raise (f : EventFlag) (e : EventUnit) : (e.raise f).raise f = e.raise f := by
  simp [EventUnit.raise, BitVec.or_assoc]

section Records

variable {s : State} {r x : Circuit} {new : Relink} {due : Bool} {sends : Nat}

/-- A posting of a notice clears no flag. -/
theorem State.has_post {f : EventFlag} {k : NoticeKind} (h : s.events.has f = true) : (s.post k r).events.has f = true := by
  rcases s.post_cases k r with ⟨_, e⟩ | ⟨_, e⟩ <;> rw [e]
  · exact h
  · exact EventUnit.has_raise _ h

theorem State.has_settleChange {f : EventFlag} {cause : Bool} (h : s.events.has f = true) :
    (s.settleChange cause).events.has f = true := by
  rcases State.settleChange_events (s := s) (cause := cause) with e | e <;> rw [e]
  · exact h
  · exact EventUnit.has_raise _ h

/-- Where there is room a notice is appended (R184). -/
theorem State.post_notices {k : NoticeKind} (h : s.notices.length < 32) :
    (s.post k r).notices = s.notices ++ [{ tag := r.tag, kind := k, cls := r.cls }] := by
  rcases s.post_cases k r with ⟨_, e⟩ | ⟨hfull, _⟩
  · rw [e]
  · omega

/-! ### Relink states entered (R24) -/

theorem State.tableOk.places (ok : s.tableOk) : (s.records.map (·.place)).Nodup := by
  obtain ⟨_, _, _, places, _⟩ := ok
  exact places

theorem State.findPlace_eq_some (ok : s.tableOk) (hr : r ∈ s.records) : s.findPlace r.place = some r := by
  cases e : s.findPlace r.place with
  | none => simpa using List.find?_eq_none.mp e r hr
  | some x =>
    obtain ⟨hx, hplace⟩ := State.mem_of_findPlace e
    rw [(ok.place_eq_iff hx hr).mp hplace]

theorem State.mem_mapRec (f : Circuit → Circuit) (hr : r ∈ s.records) : f r ∈ (s.mapRec r.place f).records :=
  List.mem_map.mpr ⟨r, hr, if_pos rfl⟩

/-- What clash marks tell nothing of, a relink state entered changes in its place alone. -/
theorem State.enter_map {β : Type} (g : Circuit → β) (hg : ∀ (y : Circuit) (a b : Bool),
    g { y with clashMark := a, clashPending := b } = g y) (h : Nat) (new : Relink) (due : Bool) (sends : Nat) (s : State) :
    (s.enter h new due sends).records.map g =
      s.records.map (fun y => if y.place = h then g (y.enter new due sends) else g y) := by
  have marked (u : State) : (u.markClash h).records.map g = u.records.map g := by
    unfold State.markClash
    split <;> simp only [State.closeEdit_records, State.mapRec_records, List.map_map] <;>
      refine List.map_congr_left fun y _ => ?_ <;> simp only [Function.comp] <;> split
    · exact hg y y.clashMark true
    · rfl
    · exact hg y true y.clashPending
    · rfl
  have entered : (s.mapRec h (fun y => y.enter new due sends)).records.map g =
      s.records.map (fun y => if y.place = h then g (y.enter new due sends) else g y) := by
    rw [State.mapRec_records, List.map_map]
    refine List.map_congr_left fun y _ => ?_
    simp only [Function.comp]
    split <;> rfl
  unfold State.enter
  simp only [State.judgeLamp_keeps]
  split
  · rw [marked, entered]
  · exact entered

/-- Outside CLASHED a record's entry to a relink state changes its record alone, and no table edit is made. -/
theorem State.enter_of_ne (hne : new ≠ .clashed) (h : Nat) : (s.enter h new due sends).records =
      s.records.map (fun y => if y.place = h then y.enter new due sends else y) ∧
    (s.enter h new due sends).store = s.store := by
  simp [State.enter, hne, State.mapRec]

theorem State.mem_enter (hr : r ∈ s.records) (hne : new ≠ .clashed) :
    r.enter new due sends ∈ (s.enter r.place new due sends).records := by
  rw [(State.enter_of_ne hne r.place).1]
  exact List.mem_map.mpr ⟨r, hr, if_pos rfl⟩

/-- An attempt moves CONFIRMED records alone (R91). -/
theorem State.mem_attemptTurns (places : (s.records.map (·.place)).Nodup) (hx : x ∈ s.records)
    (hst : x.state ≠ .confirmed) (n : Nat) : x ∈ (s.attemptTurns n).records := by
  induction n generalizing s with
  | zero => exact hx
  | succ n ih =>
    unfold State.attemptTurns
    split
    · rename_i r k hc _
      split
      · refine ih (State.startProbe_map (fun y => y.place) (fun _ _ => rfl) r k s ▸ places) ?_
        have hne : x.place ≠ r.place := by
          intro e
          obtain rfl := List.inj_on_of_nodup_map places hx (State.mem_of_candidate hc) e
          exact hst (State.candidate_confirmed hc)
        have started : (s.startProbe r k).records = s.records.map
            (fun y => if y.place = r.place then y.enter (.probing k) false 0 else y) :=
          (State.enter_of_ne (by simp) r.place).1
        rw [started]
        exact List.mem_map.mpr ⟨x, hx, if_neg hne⟩
      · exact hx
    · exact hx

theorem State.mem_settleChange (places : (s.records.map (·.place)).Nodup) (hx : x ∈ s.records)
    (hst : x.state ≠ .confirmed) (cause : Bool) : x ∈ (s.settleChange cause).records := by
  rcases s.settleChange_cases cause with e | e <;> rw [e, (State.judgeEnd_keeps _).1]
  · exact hx
  · exact State.mem_attemptTurns places hx hst 4

theorem State.settleChange_store (cause : Bool) (s : State) : (s.settleChange cause).store = s.store := by
  have turns (n : Nat) (u : State) : (u.attemptTurns n).store = u.store := by
    induction n generalizing u with
    | zero => rfl
    | succ n ih =>
      unfold State.attemptTurns
      split
      · split
        · rw [ih]
          exact (State.enter_of_ne (by simp) _).2
        · rfl
      · rfl
  rcases s.settleChange_cases cause with e | e <;> rw [e, (State.judgeEnd_keeps _).2.1]
  exact turns 4 s

/-! ### REARM (R46, R174) -/

/-- The clash mark of a record taken away as a table edit, with the record back on PRIMARY (R46). -/
def State.unclash (r : Circuit) (s : State) : State :=
  (s.mapRec r.place (fun x => { x with clashMark := false, clashPending := false, inUse := .primary })).closeEdit

/-- The record that a REARM leaves, before it enters its relink state. -/
def Circuit.unclashed (r : Circuit) : Circuit := { r with clashMark := false, clashPending := false, inUse := .primary }

theorem State.takeRearm_up (h : (s.peer r.farSlot).up = true) : s.takeRearm r =
    (((s.unclash r).enter r.place .parked true 0).checkSingle r.farSlot).settleChange false := by
  simp only [State.takeRearm, h, if_true]
  rfl

theorem State.takeRearm_down (h : (s.peer r.farSlot).up = false) : s.takeRearm r =
    (((s.unclash r).enter r.place .parked false 0).enter r.place .deferred false 0).settleChange true := by
  simp only [State.takeRearm, h]
  rfl

theorem State.mem_unclash (hr : r ∈ s.records) : r.unclashed ∈ (s.unclash r).records := State.mem_mapRec _ hr

theorem State.unclash_tends (r : Circuit) (s : State) : s.Tends (s.unclash r) := by
  refine (State.Tends.refl s).edited _ (fun x => by split <;> rfl) (fun x hx => ?_) (State.mapRec_records _ _ _) rfl
  split
  · exact hx.of_ident rfl hx.sendCount_le hx.sweepsSinceSend_le (fun e => by cases e)
  · exact hx

theorem State.takeRearm_sumZero (r : Circuit) (s : State) : (s.takeRearm r).sumZero = true := by
  have start := (State.Tends.refl (s.unclash r))
  cases h : (s.peer r.farSlot).up
  · rw [State.takeRearm_down h]
    exact ((start.enter (Nat.zero_le 4)).enter (Nat.zero_le 4)).settleChange.sum (State.closeEdit_sumZero _)
  · rw [State.takeRearm_up h]
    exact (start.enter (Nat.zero_le 4)).checkSingle.settleChange.sum (State.closeEdit_sumZero _)

/-- Where its peer is up the record is PARKED with its claim due (R46). -/
theorem State.mem_takeRearm_up (ok : s.tableOk) (hr : r ∈ s.records) (h : (s.peer r.farSlot).up = true) :
    r.unclashed.enter .parked true 0 ∈ (s.takeRearm r).records := by
  have parked := State.mem_enter (State.mem_unclash hr) (new := .parked) (due := true) (sends := 0) (by simp)
  rw [State.takeRearm_up h]
  refine State.mem_settleChange ?_ (by rw [(State.checkSingle_keeps _ _).1]; exact parked) (by simp [Circuit.enter]) false
  exact ((s.unclash_tends r).enter (Nat.zero_le 4)).checkSingle.tableOk ok |>.places

/-- Where it is not, the record goes on to DEFERRED at once (R46). -/
theorem State.mem_takeRearm_down (ok : s.tableOk) (hr : r ∈ s.records) (h : (s.peer r.farSlot).up = false) :
    (r.unclashed.enter .parked false 0).enter .deferred false 0 ∈ (s.takeRearm r).records := by
  have parked := State.mem_enter (State.mem_unclash hr) (new := .parked) (due := false) (sends := 0) (by simp)
  have deferred := State.mem_enter parked (new := .deferred) (due := false) (sends := 0) (by simp)
  rw [State.takeRearm_down h]
  refine State.mem_settleChange ?_ deferred (by simp [Circuit.enter]) true
  exact (((s.unclash_tends r).enter (Nat.zero_le 4)).enter (Nat.zero_le 4)).tableOk ok |>.places

theorem State.takeRearm_owes (ok : s.tableOk) (hr : r ∈ s.records) (hrun : s.running = true)
    (h : (s.peer r.farSlot).up = true) (hmark : r.rollMark = false) :
    (s.takeRearm r).owes (.singleOffer r.farSlot) := by
  have parked := State.mem_enter (State.mem_unclash hr) (new := .parked) (due := true) (sends := 0) (by simp)
  obtain ⟨_, _, _, _, _, hcls, _⟩ := ok.inRange hr
  rw [State.takeRearm_up h]
  refine State.settleChange_owes (State.checkSingle_owes ?_ ?_ (State.mem_towards parked hcls rfl) ?_)
  · simpa [State.running, State.unclash] using hrun
  · simpa [State.peer, State.unclash] using h
  · simp [Circuit.waiting, Circuit.enter, Circuit.unclashed, hmark]

end Records

/-- A REARM that is taken, with its response (R174). -/
theorem exec_rearm_taken {k : Nat} {r : Circuit} {s : State} (ready : s.portReady) (hrun : s.running = true)
    (ok : s.tableOk) (hr : r ∈ s.records) (hst : r.state = .clashed) :
    exec (.rearm k r.tag) s = .next (State.respond 0x22 .ok
      (wordBytes r.tag ++ [relinkByte (if (s.peer r.farSlot).up then .parked else .deferred)])
      ((s.endTransfer (4 + k)).takeRearm r)) := by
  refine cardRow_taken ready (.rearm r.tag) k (rearmGate_of_running hrun r.tag) ?_
  have hfind : (s.endTransfer (4 + k)).findTag r.tag = some r := State.findTag_eq_some ok hr
  show (s.endTransfer (4 + k)).doRearm r.tag = _
  simp only [State.doRearm, hfind, hst, if_true]
  rfl

/-! ### CLAIM_RESEND (R28) -/

section Resend

variable {s : State} {r : Circuit}

theorem exec_claimResend (ok : s.tableOk) (hr : r ∈ s.records) :
    exec (.claimResend r.tag) s = .next (s.takeResend r.place) := by
  show Host.Outcome.next (s.resendTag r.tag) = _
  rw [State.resendTag, State.findTag_eq_some ok hr]

/-- With a send count below 4 the claim is due again. -/
theorem State.takeResend_again (ok : s.tableOk) (hr : r ∈ s.records) (hst : r.state = .offered) (hdue : r.resendDue = true)
    (hsend : r.sendCount < 4) : s.takeResend r.place =
      (s.mapRec r.place (fun x => { x with resendDue := false, claimDue := true })).checkSingle r.farSlot := by
  simp [State.takeResend, State.findPlace_eq_some ok hr, hdue, hst, hsend]

/-- With a send count of 4 the record is deferred. -/
theorem State.takeResend_deferred (ok : s.tableOk) (hr : r ∈ s.records) (hst : r.state = .offered)
    (hdue : r.resendDue = true) (hsend : 4 ≤ r.sendCount) : s.takeResend r.place =
      (((s.raise .deferral).enter r.place .deferred false 0).post .deferred r).settleChange true := by
  simp [State.takeResend, State.findPlace_eq_some ok hr, hdue, hst, Nat.not_lt.mpr hsend, State.moveTo, State.cancelProbe]
  rfl

theorem State.mem_takeResend_deferred (ok : s.tableOk) (hr : r ∈ s.records) (hst : r.state = .offered)
    (hdue : r.resendDue = true) (hsend : 4 ≤ r.sendCount) :
    r.enter .deferred false 0 ∈ (s.takeResend r.place).records := by
  have deferred := State.mem_enter (s := s.raise .deferral) hr (new := .deferred) (due := false) (sends := 0) (by simp)
  have tends : s.Tends (((s.raise .deferral).enter r.place .deferred false 0).post .deferred r) :=
    ((State.Tends.refl s).raise.enter (Nat.zero_le 4)).post
  rw [State.takeResend_deferred ok hr hst hdue hsend]
  refine State.mem_settleChange (tends.tableOk ok).places ?_ (by simp [Circuit.enter]) true
  rw [(State.post_keeps _ _ _).1]
  exact deferred

end Resend

/-! ### Rows and the due steps before them (log 2) -/

/-- Every row that is no due step acts on the settled state alone (log 2). -/
theorem exec_settles {c : Instr} (h : c.isDueStep = false) : ∃ act : State → State, ∀ s, exec c s = .next (act s.settle) := by
  cases c
  case nop | status | configure | go | provision | drop | rearm | query | readEntry | readPeer | readNotices |
      readEvents | setEnables | setPace | stepPace | purge | unmute =>
    exact ⟨State.transfer _ _, fun _ => rfl⟩
  case warmStart | coldStart | peerSilent | beaconDue | claimResend | rollAbandon | listenIntervalEnd | probeCompletion |
      echoFault => cases h
  case rejectedRecord bytes => exact ⟨State.rejectTransfer bytes, fun _ => rfl⟩
  case start cause cut => exact ⟨State.enterStarting cut, fun _ => rfl⟩
  case strapRead slotPins sizePins => exact ⟨State.readStraps slotPins sizePins, fun _ => rfl⟩
  case keepAliveClear => exact ⟨State.clearKeepAlive, fun _ => rfl⟩
  case conversionResult millivolts => exact ⟨State.convert millivolts, fun _ => rfl⟩
  case sweep => exact ⟨State.takeSweep, fun _ => rfl⟩
  case paceExpiry => exact ⟨State.expirePace, fun _ => rfl⟩
  case linePosition pos => exact ⟨State.takePosition pos, fun _ => rfl⟩
  case frameSentWhole => exact ⟨State.takeSentWhole, fun _ => rfl⟩
  case collision => exact ⟨State.takeCollision, fun _ => rfl⟩
  case beaconReceived f | rollReceived f | offerReceived f | answerReceived f | releaseReceived f | otherFrameReceived _ f =>
    exact ⟨State.receive _ f, fun _ => rfl⟩
  case badFrameReceived raw cutOff => exact ⟨State.receiveBad raw cutOff, fun _ => rfl⟩
  case jamReceived => exact ⟨id, fun _ => rfl⟩
  case lampPeriod => exact ⟨State.newLampPeriod, fun _ => rfl⟩
  case highwayFrame x => exact ⟨State.highwayFrame x, fun _ => rfl⟩
  case chipSelectAsserted => exact ⟨State.assertSelect, fun _ => rfl⟩

end Sys2Proof.Machine

open Sys2Proof Sys2Proof.Machine

/-- Settles O13: the mark cleared as an edit, then PARKED, or DEFERRED with the attempt of R94. -/
theorem rearmTaken : Obligations.RearmTaken := by
  intro k tag r s ok ready hrun hr htag hst up
  subst htag
  rw [exec_rearm_taken ready hrun ok hr hst]
  have hsum := (s.endTransfer (4 + k)).takeRearm_sumZero r
  have hup := State.mem_takeRearm_up (s := s.endTransfer (4 + k)) ok hr
  have hdown := State.mem_takeRearm_down (s := s.endTransfer (4 + k)) ok hr
  have howes := State.takeRearm_owes (s := s.endTransfer (4 + k)) ok hr hrun
  obtain ⟨_, hcard, hnotices, _⟩ := (s.endTransfer (4 + k)).takeRearm_keeps r
  generalize (s.endTransfer (4 + k)).takeRearm r = t at *
  refine ⟨_, rfl, hsum, hnotices, ?_, howes, (State.respond_card hcard).trans ?_⟩
  · by_cases h : (s.peer r.farSlot).up = true
    · exact ⟨_, hup h, by simp [up, h, Circuit.retained, Circuit.enter, Circuit.unclashed]⟩
    · exact ⟨_, hdown (Bool.eq_false_iff.mpr h), by simp [up, h, Circuit.retained, Circuit.enter, Circuit.unclashed]⟩
  · by_cases h : (s.peer r.farSlot).up = true <;> simp [up, h, relinkByte]

/-- Settles O32: the claim is due again, or the record is deferred. -/
theorem claimResent : Obligations.ClaimResent := by
  intro r s ok hr hst hdue
  obtain ⟨_, _, _, _, _, hcls, _⟩ := ok.inRange hr
  rw [exec_claimResend ok hr]
  refine ⟨fun hsend => ⟨_, rfl, ?_⟩, fun hsend => ⟨_, rfl, ?_⟩⟩
  · rw [State.takeResend_again ok hr hst hdue hsend]
    refine ⟨?_, fun hrun hup hmark => ?_, by simp [State.mapRec]⟩
    · rw [(State.checkSingle_keeps _ _).1, State.mapRec_records]
      refine List.map_congr_left fun x hx => ?_
      split
      · rw [(ok.place_eq_iff hx hr).mp ‹_›]
      · rfl
    · have again := State.mem_mapRec (fun x => { x with resendDue := false, claimDue := true }) hr
      exact State.checkSingle_owes hrun hup (State.mem_towards again hcls rfl) (by simp [Circuit.waiting, hmark])
  · have hx := State.mem_takeResend_deferred ok hr hst hdue hsend
    refine ⟨⟨_, hx, rfl, rfl, rfl, rfl, rfl⟩, ?_⟩
    rw [State.takeResend_deferred ok hr hst hdue hsend]
    refine ⟨State.has_settleChange (State.has_post (by simp [State.raise])), fun hroom => ?_, ?_, ?_⟩
    · simp [State.post_notices, hroom]
    · rw [State.settleChange_map Circuit.retained fun _ _ => rfl, (State.post_keeps _ _ _).1,
        (State.enter_of_ne (by simp) _).1, List.map_map]
      refine List.map_congr_left fun x _ => ?_
      simp only [Function.comp]
      split <;> rfl
    · rw [State.settleChange_store, (State.post_keeps _ _ _).2.1, (State.enter_of_ne (by simp) _).2]
      rfl

/-- Settles O4: such a row acts on the settled state, and a state whose due steps have been taken is settled. -/
theorem dueStepsComeFirst : Obligations.DueStepsComeFirst := by
  intro c s hrow hdue calm
  obtain ⟨act, hact⟩ := exec_settles hrow
  rw [hact, hact, State.settle_of_due hdue, State.settle_of_calm calm]

end

section
/-! Lane faults: what a standby move and a local clash leave, and the echo fault (O38). -/

namespace Sys2Proof.Machine

section Faults

variable {s t u : State} {r : Circuit}

/-! ### A record goes to CLASHED (R24, R15) -/

/-- The record that an entry to CLASHED leaves: its mark written, or held pending in QUIESCE. -/
def Circuit.clashed (quiesce : Bool) (r : Circuit) : Circuit :=
  { r.enter .clashed false 0 with
    clashMark := if quiesce then r.clashMark else true
    clashPending := if quiesce then true else r.clashPending }

/-- Outside QUIESCE an entry to CLASHED is a table edit. -/
theorem State.enter_clashed_edit (hst : s.ctl.st ≠ .quiesce) (g : Nat) : s.enter g .clashed false 0 =
    (((s.mapRec g (fun x => x.enter .clashed false 0)).mapRec g (fun x => { x with clashMark := true })).closeEdit).judgeLamp := by
  have : (s.mapRec g (fun x => x.enter .clashed false 0)).ctl.st ≠ .quiesce := hst
  simp only [State.enter, State.markClash, if_true, if_neg this]

/-- In QUIESCE the mark is held pending. -/
theorem State.enter_clashed_pending (hst : s.ctl.st = .quiesce) (g : Nat) : s.enter g .clashed false 0 =
    ((s.mapRec g (fun x => x.enter .clashed false 0)).mapRec g (fun x => { x with clashPending := true })).judgeLamp := by
  have : (s.mapRec g (fun x => x.enter .clashed false 0)).ctl.st = .quiesce := hst
  simp only [State.enter, State.markClash, if_true, if_pos this]

theorem State.mem_enter_clashed (hr : r ∈ s.records) :
    r.clashed (s.ctl.st == .quiesce) ∈ (s.enter r.place .clashed false 0).records := by
  have entered := State.mem_mapRec (fun x => x.enter .clashed false 0) hr
  by_cases hst : s.ctl.st = .quiesce
  · have marked := State.mem_mapRec (fun x => { x with clashPending := true }) entered
    have left : r.clashed (s.ctl.st == .quiesce) = { r.enter .clashed false 0 with clashPending := true } := by
      simp [Circuit.clashed, Circuit.enter, hst]
    rw [State.enter_clashed_pending hst, (State.judgeLamp_keeps _).1, left]
    exact marked
  · have marked := State.mem_mapRec (fun x => { x with clashMark := true }) entered
    have left : r.clashed (s.ctl.st == .quiesce) = { r.enter .clashed false 0 with clashMark := true } := by
      simp [Circuit.clashed, Circuit.enter, hst]
    rw [State.enter_clashed_edit hst, (State.judgeLamp_keeps _).1, left]
    exact marked

theorem State.enter_clashed_sumZero (hst : s.ctl.st ≠ .quiesce) (g : Nat) :
    (s.enter g .clashed false 0).sumZero = true := by
  rw [State.enter_clashed_edit hst]
  exact ((State.Tends.refl _).judgeLamp).sum (State.closeEdit_sumZero _)

theorem State.enter_clashed_store (hst : s.ctl.st = .quiesce) (g : Nat) :
    (s.enter g .clashed false 0).store = s.store := by
  rw [State.enter_clashed_pending hst, (State.judgeLamp_keeps _).2.1]
  rfl

/-! ### What the peer is told (R37, R65) -/

/-- What a peer is told of a clash, when the state after it is reached by steps that touch no pending list. -/
theorem State.TellsClash.congr (h : u.TellsClash r t) (hp : u.peers = s.peers) : s.TellsClash r t := by
  have : u.peer r.farSlot = s.peer r.farSlot := by simp only [State.peer, hp]
  simpa only [State.TellsClash, this] using h

theorem State.TellsClash.settleChange (h : s.TellsClash r t) (cause : Bool) : s.TellsClash r (t.settleChange cause) := by
  obtain ⟨verdicts, owes, overrun⟩ := h
  obtain ⟨w, hw⟩ := State.settleChange_peer (s := t) (cause := cause) r.farSlot
  exact ⟨by rw [hw]; exact verdicts, fun room => State.settleChange_owes (owes room), by rw [hw]; exact overrun⟩

theorem State.unsolicitedClash_tells (r : Circuit) (s : State) : s.TellsClash r (s.unsolicitedClash r) := by
  by_cases hpres : (s.peer r.farSlot).presence = .present
  · have hlt : r.farSlot < s.peers.length := by
      by_contra hp
      rw [State.peer_of_length_le (Nat.not_lt.mp hp)] at hpres
      cases hpres
    by_cases hroom : (s.peer r.farSlot).verdicts.length < 16
    · have told : s.unsolicitedClash r = s.appendVerdict r.farSlot { tag := r.tag, kind := .clash } := by
        simp [State.unsolicitedClash, hpres, listCapacity, hroom]
      obtain ⟨w, hw⟩ := State.peer_request (.answer r.farSlot) r.farSlot
        (s.updPeer r.farSlot (fun x => { x with verdicts := x.verdicts ++ [{ tag := r.tag, kind := .clash }] }))
      rw [State.peer_updPeer, if_pos ⟨rfl, hlt⟩] at hw
      rw [told]
      refine ⟨?_, fun _ => State.owes_request_self fun _ e => ?_, ?_⟩
      · rw [State.appendVerdict, hw]
        exact (if_pos ⟨hpres, hroom⟩).symm
      · cases e
        simpa [State.updPeer, State.setPeer] using hlt
      · rw [State.appendVerdict, hw]
        exact (if_neg fun h => h.2 hroom).symm
    · have told : s.unsolicitedClash r = s.overrun r.farSlot := by
        simp [State.unsolicitedClash, hpres, listCapacity, hroom]
      have hpeer : (s.overrun r.farSlot).peer r.farSlot =
          { s.peer r.farSlot with overrun := satSucc 255 (s.peer r.farSlot).overrun } := by
        rw [State.overrun, State.peer_updPeer, if_pos ⟨rfl, hlt⟩]
      rw [told]
      refine ⟨?_, fun room => absurd room.2 hroom, ?_⟩
      · rw [hpeer]
        exact (if_neg fun h => hroom h.2).symm
      · rw [hpeer, if_pos ⟨hpres, hroom⟩]
        simp only [satSucc]
        split <;> omega
  · have told : s.unsolicitedClash r = s := by simp [State.unsolicitedClash, hpres]
    rw [told]
    exact ⟨(if_neg fun h => hpres h.1).symm, fun room => absurd room.1 hpres, (if_neg fun h => hpres h.1).symm⟩

/-! ### The standby move (R37) -/

/-- The relink state that a standby move leads to, by whether the peer is up. -/
def standbyState (up : Bool) : Relink := if up then .offered else .deferred

theorem standbyState_ne (up : Bool) : standbyState up ≠ .clashed ∧ standbyState up ≠ .confirmed ∧
    (standbyState up).isProbing = false := by
  cases up <;> simp [standbyState, Relink.isProbing, relinkByte]

theorem isProbing_standbyState (up : Bool) : (standbyState up).isProbing = false := by
  obtain ⟨_, _, h⟩ := standbyState_ne up
  exact h

/-- The record on its standby lane, and the notice of it. -/
def State.moveLane (r : Circuit) (s : State) : State :=
  (s.mapRec r.place (fun x => { x with inUse := .standby })).post .laneMoved r

theorem State.mem_moveLane (hr : r ∈ s.records) : { r with inUse := .standby } ∈ (s.moveLane r).records := by
  rw [State.moveLane, (State.post_keeps _ _ _).1]
  exact State.mem_mapRec _ hr

/-- The record that a standby move leaves. -/
def Circuit.movedLane (up : Bool) (r : Circuit) : Circuit :=
  Circuit.enter (standbyState up) up 0 { r with inUse := .standby }

theorem State.laneFault_move (hs : r.standby.isSome = true) (hp : r.inUse = .primary) : s.laneFault r =
    let up := (s.peer r.farSlot).up
    let v := (s.moveLane r).enter r.place (standbyState up) up 0
    if up then v.checkSingle r.farSlot else v.raise .deferral := by
  unfold State.laneFault
  rw [if_pos ⟨hs, hp⟩]
  dsimp only
  cases (s.peer r.farSlot).up <;> rfl

/-- The blocks that a standby move leaves, beside the records: no table edit is made, and one notice is posted. -/
theorem State.laneFault_move_keeps (hs : r.standby.isSome = true) (hp : r.inUse = .primary) :
    (s.laneFault r).store = s.store ∧ (s.laneFault r).notices = (s.post .laneMoved r).notices := by
  have hpost : (s.moveLane r).notices = (s.post .laneMoved r).notices := by
    simp only [State.moveLane, State.post, State.mapRec]
    split <;> rfl
  have hstore : (s.moveLane r).store = s.store := (State.post_keeps _ _ _).2.1
  rw [State.laneFault_move hs hp]
  have hne := (standbyState_ne (s.peer r.farSlot).up).1
  dsimp only
  split <;> simp [(State.enter_of_ne hne _).2, hpost, hstore]

theorem State.mem_laneFault_move (hr : r ∈ s.records) (hs : r.standby.isSome = true) (hp : r.inUse = .primary) :
    r.movedLane (s.peer r.farSlot).up ∈ (s.laneFault r).records := by
  have entered := State.mem_enter (State.mem_moveLane hr) (standbyState_ne (s.peer r.farSlot).up).1
    (due := (s.peer r.farSlot).up) (sends := 0)
  rw [State.laneFault_move hs hp]
  dsimp only
  split
  · rw [(State.checkSingle_keeps _ _).1]
    exact entered
  · exact entered

theorem State.laneFault_move_owes (hr : r ∈ s.records) (hcls : r.cls ≤ 3) (hs : r.standby.isSome = true)
    (hp : r.inUse = .primary) (hrun : s.running = true) (hup : (s.peer r.farSlot).up = true) (hmark : r.rollMark = false) :
    (s.laneFault r).owes (.singleOffer r.farSlot) := by
  have entered := State.mem_enter (State.mem_moveLane hr) (standbyState_ne true).1 (due := true) (sends := 0)
  rw [State.laneFault_move hs hp, hup]
  refine State.checkSingle_owes ?_ ?_ (State.mem_towards entered hcls rfl) ?_
  · simpa [State.running, State.moveLane] using hrun
  · simpa [State.peer, State.moveLane] using hup
  · simp [Circuit.waiting, Circuit.enter, standbyState, hmark]

theorem State.laneFault_move_deferral (hs : r.standby.isSome = true) (hp : r.inUse = .primary)
    (hup : (s.peer r.farSlot).up = false) : (s.laneFault r).events.has .deferral = true := by
  rw [State.laneFault_move hs hp, hup]
  exact EventUnit.has_raise_self _ _

/-- In QUIESCE no request is posted (R73). -/
theorem State.laneFault_move_line (hs : r.standby.isSome = true) (hp : r.inUse = .primary) (hrun : s.running = false) :
    (s.laneFault r).line = s.line := by
  rw [State.laneFault_move hs hp]
  dsimp only
  generalize hv : (s.moveLane r).enter r.place (standbyState (s.peer r.farSlot).up) (s.peer r.farSlot).up 0 = v
  have hline : v.line = s.line := by rw [← hv]; simp [State.moveLane]
  have hstill : v.running = false := by
    rw [← hrun, ← hv]
    simp [State.running, State.moveLane]
  split
  · simpa [State.checkSingle, hstill] using hline
  · exact hline

/-! ### The local clash (R37) -/

theorem State.laneFault_clash (hs : r.standby = none ∨ r.inUse = .standby) : s.laneFault r =
    State.unsolicitedClash r (((s.enter r.place .clashed false 0).raise .clash).post .clashed r) := by
  unfold State.laneFault
  rw [if_neg]
  rintro ⟨hsome, hprim⟩
  rcases hs with e | e
  · simp [e] at hsome
  · simp [e] at hprim

theorem State.mem_laneFault_clash (hr : r ∈ s.records) (hs : r.standby = none ∨ r.inUse = .standby) :
    r.clashed (s.ctl.st == .quiesce) ∈ (s.laneFault r).records := by
  rw [State.laneFault_clash hs, (State.unsolicitedClash_keeps _ _).1, (State.post_keeps _ _ _).1]
  exact State.mem_enter_clashed hr

theorem State.laneFault_clash_store (hs : r.standby = none ∨ r.inUse = .standby) :
    (s.ctl.st ≠ .quiesce → (s.laneFault r).sumZero = true) ∧ (s.ctl.st = .quiesce → (s.laneFault r).store = s.store) := by
  rw [State.laneFault_clash hs]
  refine ⟨fun hst => ?_, fun hst => ?_⟩
  · exact ((State.Tends.refl _).raise.post.unsolicitedClash).sum (State.enter_clashed_sumZero hst r.place)
  · rw [(State.unsolicitedClash_keeps _ _).2.1, (State.post_keeps _ _ _).2.1]
    exact State.enter_clashed_store hst r.place

theorem State.laneFault_clash_notices (hs : r.standby = none ∨ r.inUse = .standby) :
    (s.laneFault r).events.has .clash = true ∧ (s.laneFault r).notices = (s.post .clashed r).notices := by
  rw [State.laneFault_clash hs]
  constructor
  · simp only [State.unsolicitedClash_keeps]
    exact State.has_post (s := State.raise .clash _) (EventUnit.has_raise_self _ _)
  · simp only [State.unsolicitedClash_keeps]
    have same : ((s.enter r.place .clashed false 0).raise .clash).notices = s.notices := by simp
    simp only [State.post, same]
    split <;> simp

theorem State.laneFault_clash_tells (hs : r.standby = none ∨ r.inUse = .standby) : s.TellsClash r (s.laneFault r) := by
  rw [State.laneFault_clash hs]
  exact (State.unsolicitedClash_tells r _).congr (by simp)

/-! ### The echo fault (R39, R122) -/

/-- The gate whose run reached 3, where no other has, is the one that faults. -/
theorem State.takeEcho_eq (ok : s.tableOk) (hold : s.holding = true) (hr : r ∈ s.records) {n : Nat}
    (hst : r.state = .opened n) (hn : 3 ≤ n) (only : ∀ x ∈ s.records, ∀ m, x.state = .opened m → 3 ≤ m → x = r) :
    s.takeEcho = (s.laneFault r).judgeEnd := by
  have hdue : r.echoDue = true := by simp [Circuit.echoDue, hst, hn]
  have hfind : s.classOrder.find? Circuit.echoDue = some r := by
    cases e : s.classOrder.find? Circuit.echoDue with
    | none => exact absurd hdue (List.find?_eq_none.mp e r (ok.mem_classOrder hr))
    | some x =>
      have hx := State.mem_of_mem_classOrder (List.mem_of_find?_eq_some e)
      have hxdue := List.find?_some e
      unfold Circuit.echoDue at hxdue
      split at hxdue
      · rename_i m hm
        rw [only x hx m hm (by simpa using hxdue)]
      all_goals cases hxdue
  simp only [State.takeEcho, hold, if_true, hfind]
  rfl

theorem State.mem_judgeEnd {x : Circuit} (h : x ∈ s.records) : x ∈ s.judgeEnd.records := by
  rw [(State.judgeEnd_keeps s).1]
  exact h

/-- Outside RELINK nothing ends (R156). -/
theorem State.judgeEnd_of_ne (h : s.ctl.st ≠ .relink) : s.judgeEnd = s := by
  simp [State.judgeEnd, State.relinkDone, h]

end Faults

end Sys2Proof.Machine

open Sys2Proof Sys2Proof.Machine

/-- Settles O38: the gate that faults, and then the lane fault by whether a standby lane is free. -/
theorem echoFaultMoves : Obligations.EchoFaultMoves := by
  intro r n s safe hst hr hopen hn only note
  have ok := safe.table
  obtain ⟨_, _, _, _, _, hcls, _⟩ := ok.inRange hr
  have hold : s.holding = true := by
    rcases hst with h | h
    · simp [State.holding, h]
    · simp [State.holding, h]
  have hexec : exec .echoFault s = .next (s.laneFault r).judgeEnd :=
    congrArg Host.Outcome.next (State.takeEcho_eq ok hold hr hopen hn only)
  have quiet (h : s.running = true) : s.ctl.st ≠ .quiesce := by
    rcases s.running_iff.mp h with e | e <;> simp [e]
  have has {f : EventFlag} (h : (s.laneFault r).events.has f = true) : (s.laneFault r).judgeEnd.events.has f = true :=
    State.has_settleChange (cause := false) h
  refine ⟨_, hexec, by simp, by simp, fun hs hp => ?_, fun hs => ?_⟩
  · obtain ⟨hstore, hnotices⟩ := State.laneFault_move_keeps (s := s) hs hp
    refine ⟨⟨_, State.mem_judgeEnd (State.mem_laneFault_move hr hs hp), rfl, rfl, ?_⟩,
      fun hrun hup hmark => State.owes_judgeEnd (State.laneFault_move_owes hr hcls hs hp hrun hup hmark), fun hq => ?_,
      fun hup => has (State.laneFault_move_deferral hs hp hup), by simpa using hstore, fun hroom => ?_⟩
    · cases (s.peer r.farSlot).up <;> simp [Circuit.movedLane, standbyState, Circuit.enter]
    · have still : s.running = false := by simp [State.running, hq]
      rw [State.judgeEnd_of_ne (by simp [hq]), State.laneFault_move_line hs hp still]
    · simp [hnotices, State.post_notices hroom, note]
  · obtain ⟨hsum, hstore⟩ := State.laneFault_clash_store (s := s) hs
    obtain ⟨hclash, hnotices⟩ := State.laneFault_clash_notices (s := s) hs
    refine ⟨⟨_, State.mem_judgeEnd (State.mem_laneFault_clash hr hs), rfl, ?_, ?_, rfl, rfl, rfl⟩,
      fun hrun => ((State.Tends.refl _).judgeEnd).sum (hsum (quiet hrun)), fun hq => by simpa using hstore hq, has hclash,
      fun hroom => ?_, (State.laneFault_clash_tells hs).settleChange false⟩
    · simp [Circuit.clashed]
    · simp [Circuit.clashed]
    · simp [hnotices, State.post_notices hroom, note]

end

section
/-! What an attempt opens and what it spends, and the completion of a probe (O37). -/

namespace Sys2Proof.Machine

/-! ### The weight that is spent (R98) -/

/-- The weight that a record holds spent on its probe. -/
def Circuit.spent (r : Circuit) : Nat := if r.state.isProbing then r.weight else 0

theorem State.probingWeight_eq (s : State) : s.probingWeight = (s.records.map Circuit.spent).sum := by
  unfold State.probingWeight
  induction s.records with
  | nil => rfl
  | cons r rs ih =>
    by_cases h : r.state.isProbing = true <;> simp [Circuit.spent, h, ih]

/-- A sum over the table in which the term of one place changes. -/
theorem sum_map_place {rs : List Circuit} (places : (rs.map (·.place)).Nodup) {r : Circuit} (hr : r ∈ rs)
    (f g : Circuit → Nat) :
    (rs.map (fun x => if x.place = r.place then f x else g x)).sum + g r = (rs.map g).sum + f r := by
  induction rs with
  | nil => cases hr
  | cons x rs ih =>
    rw [List.map_cons, List.nodup_cons] at places
    obtain ⟨hx, places⟩ := places
    rcases List.mem_cons.mp hr with rfl | hr
    · have rest : rs.map (fun x => if x.place = r.place then f x else g x) = rs.map g := by
        refine List.map_congr_left fun y hy => if_neg fun e => hx ?_
        exact List.mem_map.mpr ⟨y, hy, e⟩
      simp only [List.map_cons, List.sum_cons, if_pos, rest]
      omega
    · have hne : x.place ≠ r.place := fun e => hx (List.mem_map.mpr ⟨r, hr, e.symm⟩)
      have := ih places hr
      simp only [List.map_cons, List.sum_cons, if_neg hne]
      omega

section Weights

variable {s t : State} {r : Circuit}

/-- A relink state entered changes the weight that is spent by that of its record (R98, R99). -/
theorem State.probingWeight_enter (places : (s.records.map (·.place)).Nodup) (hr : r ∈ s.records) (new : Relink)
    (due : Bool) (sends : Nat) : (s.enter r.place new due sends).probingWeight + r.spent =
      s.probingWeight + if new.isProbing then r.weight else 0 := by
  rw [State.probingWeight_eq, State.probingWeight_eq, State.enter_map Circuit.spent fun _ _ _ => rfl]
  exact sum_map_place places hr (fun x => (x.enter new due sends).spent) Circuit.spent

theorem State.probingWeight_congr (h : t.records = s.records) : t.probingWeight = s.probingWeight := by
  rw [State.probingWeight, h, State.probingWeight]

/-! ### Attempts (R92, R98) -/

/-- A probe that starts moves its weight from the allowance to what is spent (R98). -/
theorem State.startProbe_conserves (places : (s.records.map (·.place)).Nodup) {k : Nat} (hc : s.candidate = some r)
    (hw : r.weight ≤ s.seq.allowance) : (s.startProbe r k).seq.allowance + (s.startProbe r k).probingWeight =
      s.seq.allowance + s.probingWeight := by
  have hspent : r.spent = 0 := by simp [Circuit.spent, State.candidate_confirmed hc, Relink.isProbing, relinkByte]
  have hallow : (s.startProbe r k).seq.allowance = s.seq.allowance - r.weight :=
    congrArg Posture.allowance (s.posture_startProbe r k)
  have entered (u : State) (hu : u.records = s.records) :
      (u.enter r.place (.probing k) false 0).probingWeight + r.spent = s.probingWeight + r.weight := by
    rw [State.probingWeight_enter (hu ▸ places) (hu ▸ State.mem_of_candidate hc), State.probingWeight_congr hu]
    rfl
  have hweight : (s.startProbe r k).probingWeight + r.spent = s.probingWeight + r.weight := entered _ rfl
  omega

theorem State.attemptTurns_conserves (places : (s.records.map (·.place)).Nodup) (n : Nat) :
    (s.attemptTurns n).seq.allowance + (s.attemptTurns n).probingWeight = s.seq.allowance + s.probingWeight := by
  induction n generalizing s with
  | zero => rfl
  | succ n ih =>
    unfold State.attemptTurns
    split
    · rename_i r k hc _
      split
      · rename_i hw
        rw [ih (State.startProbe_map (fun x => x.place) (fun _ _ => rfl) r k s ▸ places),
          State.startProbe_conserves places hc hw]
      · rfl
    · rfl

theorem State.candidate_congr (h : t.records = s.records) : t.candidate = s.candidate := by
  simp only [State.candidate, State.barrier, State.classList, h]

/-- With four slots held there is no other (R114). -/
theorem State.Agrees.length_le {P : Prop} {φ : Phase} (h : s.Agrees P φ none) : s.hw.probes.length ≤ 4 := by
  have := length_le_of_nodup_lt h.slots (n := 4) (by simpa using fun k g hx => h.four (g, k) hx)
  simpa [State.held] using this

/-- Where no slot is free, all four are held (R115). -/
theorem State.le_length_of_freeSlot (h : s.freeSlot = none) : 4 ≤ s.hw.probes.length := by
  have hsub : [0, 1, 2, 3] ⊆ s.hw.probes.map (·.slot) := by
    intro k hk
    simpa using List.find?_eq_none.mp h k hk
  have := (List.subperm_of_subset (by decide) hsub).length_le
  simpa using this

/-- As many turns as there are free slots open all that fits (R92). -/
theorem State.Agrees.attemptTurns_exhausted {P : Prop} {φ : Phase} (h : s.Agrees P φ none) (hrun : φ.Running) (n : Nat)
    (hn : 4 ≤ n + s.hw.probes.length) : (s.attemptTurns n).Exhausted := by
  induction n generalizing s with
  | zero =>
    intro r _
    have := h.length_le
    exact .inr (show s.hw.probes.length = 4 by omega)
  | succ n ih =>
    unfold State.attemptTurns
    split
    · rename_i r k hc hk
      split
      · refine ih (h.startProbe hrun hc hk) ?_
        have := congrArg (fun x => x.held.length) (s.posture_startProbe r k)
        simp only [State.posture, State.held, List.length_map, List.length_append, List.length_singleton] at this
        omega
      · rename_i hw
        intro x hx
        rw [hc] at hx
        obtain rfl := Option.some.inj hx
        exact .inl (Nat.not_le.mp hw)
    · rename_i hno
      intro r hc
      have hfull : s.freeSlot = none := Option.eq_none_iff_forall_ne_some.mpr fun k hk => hno r k hc hk
      have := h.length_le
      have := State.le_length_of_freeSlot hfull
      exact .inr (by omega)

/-- In RELINK and SERVICE the attempt that follows a change opens all that fits, and conserves the allowance with what is
spent (R92, R94, R98). -/
theorem State.Agrees.settleChange_attempt {P : Prop} {φ : Phase} (h : s.Agrees P φ none) (hphase : s.phase = φ)
    (places : (s.records.map (·.place)).Nodup) (hrun : s.running = true) : (s.settleChange true).Exhausted ∧
      (s.settleChange true).seq.allowance + (s.settleChange true).probingWeight =
        s.seq.allowance + s.probingWeight := by
  have same : s.settleChange true = (s.attemptTurns 4).judgeEnd := by simp [State.settleChange, State.attempt, hrun]
  have hrecords := (State.judgeEnd_keeps (s.attemptTurns 4)).1
  rw [same]
  refine ⟨fun r hr => ?_, ?_⟩
  · rw [State.candidate_congr hrecords] at hr
    have := h.attemptTurns_exhausted (hphase ▸ s.phase_running_iff.mpr hrun) 4 (by omega) r hr
    simpa using this
  · rw [State.probingWeight_congr hrecords]
    simpa using State.attemptTurns_conserves places 4

/-! ### A probe completes (R36, R38, R116) -/

/-- A lane fault ends what its record spent (R38). -/
theorem State.probingWeight_laneFault (places : (s.records.map (·.place)).Nodup) (hr : r ∈ s.records) :
    (s.laneFault r).probingWeight + r.spent = s.probingWeight := by
  unfold State.laneFault
  split
  · have hx : { r with inUse := .standby } ∈ (s.moveLane r).records := State.mem_moveLane hr
    have places' : ((s.moveLane r).records.map (·.place)).Nodup := by
      have : (s.moveLane r).records.map (·.place) = s.records.map (·.place) := by
        rw [State.moveLane, (State.post_keeps _ _ _).1, State.mapRec_records, List.map_map]
        exact List.map_congr_left fun y _ => by simp only [Function.comp]; split <;> rfl
      exact this ▸ places
    have same : (s.moveLane r).probingWeight = s.probingWeight := by
      rw [State.probingWeight_eq, State.probingWeight_eq, State.moveLane, (State.post_keeps _ _ _).1, State.mapRec_records,
        List.map_map]
      exact congrArg _ (List.map_congr_left fun y _ => by simp only [Function.comp]; split <;> rfl)
    have entered (new : Relink) (due : Bool) (hn : new.isProbing = false) :
        ((s.moveLane r).enter r.place new due 0).probingWeight + r.spent = s.probingWeight := by
      have := State.probingWeight_enter places' hx new due 0
      rwa [hn, same] at this
    dsimp only
    split
    · rw [State.probingWeight_congr (State.checkSingle_keeps _ _).1]
      exact entered .offered true rfl
    · exact entered .deferred false rfl
  · rw [State.probingWeight_congr (State.unsolicitedClash_keeps _ _).1,
      State.probingWeight_congr (State.post_keeps _ _ _).1]
    exact State.probingWeight_enter places hr .clashed false 0

/-- The slot of a foul probe freed, and its weight refunded (R38, R117). -/
def State.refund (r : Circuit) (s : State) : State := (s.freeProbe r.place).credit r.weight

@[simp] theorem State.refund_records (r : Circuit) (s : State) : (s.refund r).records = s.records := rfl
@[simp] theorem State.refund_ctl (r : Circuit) (s : State) : (s.refund r).ctl = s.ctl := rfl
@[simp] theorem State.refund_peers (r : Circuit) (s : State) : (s.refund r).peers = s.peers := rfl
@[simp] theorem State.refund_notices (r : Circuit) (s : State) : (s.refund r).notices = s.notices := rfl
@[simp] theorem State.refund_peer (r : Circuit) (p : Nat) (s : State) : (s.refund r).peer p = s.peer p := rfl
@[simp] theorem State.refund_running (r : Circuit) (s : State) : (s.refund r).running = s.running := rfl

theorem State.refund_tends (r : Circuit) (s : State) : s.Tends (s.refund r) := (State.Tends.refl s).frame rfl rfl

/-- The record of a clear probe opened, with its notice (R36). -/
def State.openGate (r : Circuit) (s : State) : State :=
  ((s.freeProbe r.place).enter r.place (.opened 0) false 0).post .opened r

theorem State.openGate_tends (r : Circuit) (s : State) : s.Tends (s.openGate r) := by
  have freed : s.Tends (s.freeProbe r.place) := (State.Tends.refl s).frame rfl rfl
  exact (freed.enter (Nat.zero_le 4)).post

theorem State.mem_openGate (hr : r ∈ s.records) : r.enter (.opened 0) false 0 ∈ (s.openGate r).records := by
  rw [State.openGate, (State.post_keeps _ _ _).1]
  exact State.mem_enter (s := s.freeProbe r.place) hr (by simp)

theorem State.openGate_notices (hroom : s.notices.length < 32) : (s.openGate r).notices =
    s.notices ++ [{ tag := r.tag, kind := .opened, cls := r.cls }] := by
  have same : ((s.freeProbe r.place).enter r.place (.opened 0) false 0).notices = s.notices := by
    simp [State.freeProbe]
  rw [State.openGate, State.post_notices (same ▸ hroom), same]

theorem State.openGate_spent (places : (s.records.map (·.place)).Nodup) (hr : r ∈ s.records) :
    (s.openGate r).seq = s.seq ∧ (s.openGate r).probingWeight + r.spent = s.probingWeight := by
  refine ⟨by simp [State.openGate, State.freeProbe], ?_⟩
  rw [State.openGate, State.probingWeight_congr (State.post_keeps _ _ _).1]
  exact State.probingWeight_enter (s := s.freeProbe r.place) places hr (.opened 0) false 0

/-- A clear probe opens its record (R36). -/
theorem State.completeProbe_clear (ok : s.tableOk) (hr : r ∈ s.records) {pr : Probe} (hp : r.place = pr.place)
    (hseen : pr.seen = false) : s.completeProbe pr = (s.openGate r).settleChange true := by
  simp [State.completeProbe, ← hp, State.findPlace_eq_some ok hr, hseen, State.openGate]

/-- A foul probe is refunded, and its record has a lane fault (R38). -/
theorem State.completeProbe_foul (ok : s.tableOk) (hr : r ∈ s.records) {pr : Probe} (hp : r.place = pr.place)
    (hseen : pr.seen = true) : s.completeProbe pr = ((s.refund r).laneFault r).settleChange true := by
  simp [State.completeProbe, ← hp, State.findPlace_eq_some ok hr, hseen, State.refund]

theorem State.mem_completeProbe_clear (ok : s.tableOk) (hr : r ∈ s.records) {pr : Probe} (hp : r.place = pr.place)
    (hseen : pr.seen = false) : r.enter (.opened 0) false 0 ∈ (s.completeProbe pr).records := by
  rw [State.completeProbe_clear ok hr hp hseen]
  exact State.mem_settleChange ((s.openGate_tends r).tableOk ok).places (State.mem_openGate hr) (by simp [Circuit.enter]) true

/-- What a lane fault leaves of its record, the attempt leaves. -/
theorem State.mem_completeProbe_foul (ok : s.tableOk) (hr : r ∈ s.records) {pr : Probe} (hp : r.place = pr.place)
    (hseen : pr.seen = true) {x : Circuit} (hx : x ∈ ((s.refund r).laneFault r).records) (hst : x.state ≠ .confirmed) :
    x ∈ (s.completeProbe pr).records := by
  rw [State.completeProbe_foul ok hr hp hseen]
  exact State.mem_settleChange (((s.refund_tends r).laneFault hr).tableOk ok).places hx hst true

theorem State.mem_completeProbe_move (ok : s.tableOk) (hr : r ∈ s.records) {pr : Probe} (hp : r.place = pr.place)
    (hseen : pr.seen = true) (hs : r.standby.isSome = true) (hi : r.inUse = .primary) :
    r.movedLane (s.peer r.farSlot).up ∈ (s.completeProbe pr).records :=
  State.mem_completeProbe_foul ok hr hp hseen (State.mem_laneFault_move (s := s.refund r) hr hs hi) (standbyState_ne _).2.1

theorem State.mem_completeProbe_clash (ok : s.tableOk) (hr : r ∈ s.records) {pr : Probe} (hp : r.place = pr.place)
    (hseen : pr.seen = true) (hs : r.standby = none ∨ r.inUse = .standby) :
    r.clashed (s.ctl.st == .quiesce) ∈ (s.completeProbe pr).records :=
  State.mem_completeProbe_foul ok hr hp hseen (State.mem_laneFault_clash (s := s.refund r) hr hs)
    (by simp [Circuit.clashed, Circuit.enter])

/-- What a completion leaves of the allowance, and the attempt after it (R38, R94, R99). -/
theorem State.completeProbe_attempts (safe : s.Safe) (hrun : s.running = true) (hr : r ∈ s.records) {pr : Probe}
    (hp : r.place = pr.place) (hst : r.state.isProbing = true) : (s.completeProbe pr).Exhausted ∧
      (s.completeProbe pr).seq.allowance + (s.completeProbe pr).probingWeight + r.weight = s.probingWeight +
        (if pr.seen = true then min (2 * s.store.settings.burst) (s.seq.allowance + r.weight) else s.seq.allowance) := by
  have ok := safe.table
  have agrees : s.Agrees False s.phase none := (State.agrees_iff ok.places).mpr ⟨safe.pace, safe.probes, False.elim⟩
  have running := s.phase_running_iff.mpr hrun
  have hspent : r.spent = r.weight := if_pos hst
  by_cases hseen : pr.seen = true
  · have faulted : ((s.refund r).laneFault r).Agrees False s.phase none :=
      ((agrees.freeProbe r.place).credit running.not_fresh r.weight).laneFault fun _ => running.not_resting
    obtain ⟨exhausted, conserved⟩ := faulted.settleChange_attempt (State.phase_congr (by simp))
      (((s.refund_tends r).laneFault hr).tableOk ok).places (by simpa [State.running] using hrun)
    rw [State.completeProbe_foul ok hr hp hseen, if_pos hseen]
    have weight : ((s.refund r).laneFault r).probingWeight + r.spent = s.probingWeight :=
      State.probingWeight_laneFault (s := s.refund r) ok.places hr
    have hallow : ((s.refund r).laneFault r).seq.allowance =
        min (2 * s.store.settings.burst) (s.seq.allowance + r.weight) := by
      rw [(State.laneFault_keeps _ _).2.1]
      rfl
    exact ⟨exhausted, by omega⟩
  · have opened : (s.openGate r).Agrees False s.phase none :=
      ((agrees.freeProbe r.place).enter (.opened 0) rfl (fun h => h.elim) false 0).frame (State.posture_post _ .opened r)
    obtain ⟨exhausted, conserved⟩ := opened.settleChange_attempt (State.phase_congr (by simp [State.openGate, State.freeProbe]))
      ((s.openGate_tends r).tableOk ok).places (by simpa [State.running, State.openGate, State.freeProbe] using hrun)
    obtain ⟨hseq, weight⟩ := State.openGate_spent ok.places hr
    rw [State.completeProbe_clear ok hr hp (Bool.eq_false_iff.mpr hseen), if_neg hseen]
    rw [hseq] at conserved
    exact ⟨exhausted, by omega⟩

/-- The completed probe leaves a record that is not PROBING (R36, R37). -/
theorem State.exists_completeProbe (ok : s.tableOk) (hr : r ∈ s.records) {pr : Probe} (hp : r.place = pr.place) :
    ∃ x ∈ (s.completeProbe pr).records, x.place = r.place ∧ x.state.isProbing = false := by
  by_cases hseen : pr.seen = true
  · by_cases hs : r.standby.isSome = true ∧ r.inUse = .primary
    · exact ⟨_, State.mem_completeProbe_move ok hr hp hseen hs.1 hs.2, rfl, isProbing_standbyState _⟩
    · have hs : r.standby = none ∨ r.inUse = .standby := by
        cases e : r.standby <;> cases e' : r.inUse <;> simp_all
      exact ⟨_, State.mem_completeProbe_clash ok hr hp hseen hs, rfl, rfl⟩
  · exact ⟨_, State.mem_completeProbe_clear ok hr hp (Bool.eq_false_iff.mpr hseen), rfl, rfl⟩

/-- A completion leaves no slot to its record (R117). -/
theorem State.completeProbe_frees (safe : s.Safe) (hrun : s.running = true) (hr : r ∈ s.records) {pr : Probe}
    (hp : r.place = pr.place) : ∀ q ∈ (s.completeProbe pr).hw.probes, q.place ≠ r.place := by
  obtain ⟨x, hx, hplace, hst⟩ := State.exists_completeProbe safe.table hr hp
  have agrees : s.Agrees False s.phase none :=
    (State.agrees_iff safe.table.places).mpr ⟨safe.pace, safe.probes, False.elim⟩
  have paced : (s.completeProbe pr).Paced False s.phase :=
    State.Paced.completeProbe ⟨rfl, agrees⟩ (s.phase_running_iff.mpr hrun)
  exact fun q hq => hplace ▸ paced.agrees.not_held (State.stand_mem hx) hst (q.place, q.slot) (List.mem_map_of_mem hq)

/-- The oldest window that has ended is reported (R116). -/
theorem exec_probeCompletion (hrun : s.running = true) {p : Probe} {rest : List Probe} (hprobes : s.hw.probes = p :: rest)
    (hended : p.remaining = 0) : exec .probeCompletion s = .next (s.completeProbe p) := by
  show Host.Outcome.next s.takeCompletion = _
  simp [State.takeCompletion, hrun, hprobes, Probe.ended, hended]

end Weights

end Sys2Proof.Machine

open Sys2Proof Sys2Proof.Machine

/-- Settles O37: the record of the probe by what its window saw, then the attempt. -/
theorem probeCompletes : Obligations.ProbeCompletes := by
  intro p rest r s safe hrun hprobes hended hr hp note
  have ok := safe.table
  obtain ⟨_, _, _, _, _, hcls, _⟩ := ok.inRange hr
  have hprobing : r.state.isProbing = true := by
    obtain ⟨_, _, _, holder, _⟩ := safe.probes
    obtain ⟨x, hx, hplace, hst⟩ := holder p (by simp [hprobes])
    obtain rfl := (ok.place_eq_iff hx hr).mp (hplace.trans hp.symm)
    rw [hst]
    rfl
  obtain ⟨exhausted, conserved⟩ := State.completeProbe_attempts safe hrun hr hp hprobing
  rw [exec_probeCompletion hrun hprobes hended]
  refine ⟨_, rfl, State.completeProbe_frees safe hrun hr hp, exhausted, conserved, fun hseen => ?_, fun hseen hs hi => ?_,
    fun hseen hs => ?_⟩
  · refine ⟨⟨_, State.mem_completeProbe_clear ok hr hp hseen, rfl, rfl, rfl⟩, fun hroom => ?_⟩
    rw [State.completeProbe_clear ok hr hp hseen]
    simp [State.openGate_notices hroom, note]
  · refine ⟨⟨_, State.mem_completeProbe_move ok hr hp hseen hs hi, rfl, rfl, ?_⟩, ?_⟩
    · cases (s.peer r.farSlot).up <;> simp [Circuit.movedLane, standbyState, Circuit.enter]
    obtain ⟨_, hnotices⟩ := State.laneFault_move_keeps (s := s.refund r) hs hi
    rw [State.completeProbe_foul ok hr hp hseen]
    refine ⟨fun hup hmark => ?_, fun hup => ?_, fun hroom => ?_⟩
    · exact State.settleChange_owes (State.laneFault_move_owes (s := s.refund r) hr hcls hs hi hrun hup hmark)
    · exact State.has_settleChange (State.laneFault_move_deferral (s := s.refund r) hs hi hup)
    · simp [hnotices, State.post_notices (s := s.refund r) hroom, note]
  · have quiet : s.ctl.st ≠ .quiesce := by rcases s.running_iff.mp hrun with e | e <;> simp [e]
    refine ⟨⟨_, State.mem_completeProbe_clash ok hr hp hseen hs, ?_, rfl, rfl⟩, ?_⟩
    · simp [Circuit.retained, Circuit.clashed, Circuit.enter, quiet]
    obtain ⟨hclash, hnotices⟩ := State.laneFault_clash_notices (s := s.refund r) hs
    obtain ⟨hsum, _⟩ := State.laneFault_clash_store (s := s.refund r) hs
    have tells : s.TellsClash r ((s.refund r).laneFault r) :=
      (State.laneFault_clash_tells (s := s.refund r) hs).congr (s.refund_peers r)
    rw [State.completeProbe_foul ok hr hp hseen]
    refine ⟨((State.Tends.refl _).settleChange).sum (hsum quiet), State.has_settleChange hclash, fun hroom => ?_,
      tells.settleChange true⟩
    simp [hnotices, State.post_notices (s := s.refund r) hroom, note]

end

section
/-! A frame whose header says nothing new, and a RELEASE acted on (O49). -/

namespace Sys2Proof.Machine

/-! ### The payload of a RELEASE (R189) -/

theorem wordOf_wordBytes {n : Nat} (h : n < 65536) : wordOf (byteOf (n / 256)) (byteOf n) = n := by
  simp only [wordOf, byteOf, BitVec.toNat_ofNat]
  omega

theorem readTags_releasePayload {tags : List Nat} (h : ∀ g ∈ tags, g < 65536) :
    readTags (releasePayload tags) = some tags := by
  induction tags with
  | nil => rfl
  | cons g gs ih =>
    obtain ⟨hg, hgs⟩ := List.forall_mem_cons.mp h
    have : releasePayload (g :: gs) = byteOf (g / 256) :: byteOf g :: releasePayload gs := rfl
    rw [this, readTags, ih hgs, wordOf_wordBytes hg]
    rfl

/-- A RELEASE of 1 to 8 tags is read as it was written. -/
theorem readRelease_releasePayload {tags : List Nat} (h : ∀ g ∈ tags, g < 65536) (hlo : 1 ≤ tags.length)
    (hhi : tags.length ≤ 8) : readRelease (releasePayload tags) = some tags := by
  simp [readRelease, readTags_releasePayload h, hlo, hhi]

/-! ### A header that says nothing new (R53, R56) -/

section Header

variable {s : State} {f : LineFrame}

theorem State.classify_of_expects (h : s.Expects f) : classify (s.peer f.src) f.epoch f.st = .nothing := by
  obtain ⟨_, presence, epoch, st⟩ := h
  cases hst : f.st <;> simp [classify, presence, epoch, st, hst]

/-- A function of peer records that the sweeps since heard are no part of. -/
theorem State.map_refreshed {β : Type} (g : Peer → β) (hg : ∀ x : Peer, g { x with sinceHeard := 0 } = g x) (f : LineFrame)
    (s : State) : (s.refreshed f).peers.map g = s.peers.map g := by
  rw [State.refreshed, List.map_set, hg]
  by_cases h : f.src < s.peers.length
  · have : g (s.peer f.src) = (s.peers.map g)[f.src]'(by simpa using h) := by
      simp [State.peer, List.getD_eq_getElem?_getD, h]
    rw [this, List.set_getElem_self]
  · exact List.set_eq_of_length_le (by simpa using h)

theorem State.relinkDone_refreshed (f : LineFrame) (s : State) : (s.refreshed f).relinkDone = s.relinkDone := by
  have all (u : State) : u.peers.all (fun x => !(x.up && x.rollOut != .none)) =
      (u.peers.map (fun x => !(x.up && x.rollOut != .none))).all id := by simp [List.all_map]
  have peers := State.map_refreshed (fun x => !(x.up && x.rollOut != .none)) (fun _ => rfl) f s
  unfold State.relinkDone
  rw [all, peers, ← all]
  rfl

/-- Hearing such a frame refreshes its source alone (R53). -/
theorem State.heard_of_expects (h : s.Expects f) (hdone : s.relinkDone = false) :
    State.heard f.src f.epoch f.st { s with line := { s.line with lastSender := f.src } } = s.refreshed f := by
  have hclass : classify (State.peer f.src { s with line := { s.line with lastSender := f.src } }) f.epoch f.st = .nothing :=
    State.classify_of_expects h
  obtain ⟨haddr, presence, epoch, st⟩ := h
  have haddr' : State.addressable f.src { s with line := { s.line with lastSender := f.src } } = true := haddr
  have recognised : State.recognise f.src f.epoch f.st { s with line := { s.line with lastSender := f.src } } =
      { s with line := { s.line with lastSender := f.src } } := by rw [State.recognise, hclass]
  have updated : State.updPeer f.src
      (fun x => { x with presence := .present, sinceHeard := 0, epoch := some f.epoch, st := some f.st })
      { s with line := { s.line with lastSender := f.src } } = s.refreshed f := by
    have : ({ s.peer f.src with presence := .present, sinceHeard := 0, epoch := some f.epoch, st := some f.st } : Peer) =
        { s.peer f.src with sinceHeard := 0 } := by rw [← presence, ← epoch, ← st]
    exact congrArg (fun x => { s with peers := s.peers.set f.src x, line := { s.line with lastSender := f.src } }) this
  unfold State.heard
  rw [if_pos haddr', recognised, hclass]
  simp only [ite_self, updated, ne_eq, not_true_eq_false, and_false, if_false]
  simp [State.judgeEnd, State.relinkDone_refreshed, hdone]

/-- Such a frame is handed on in the state that its hearing leaves (R142, R143). -/
theorem State.receive_of_hears (h : s.hears f) (kind : Byte) : s.settle.receive kind f = (s.refreshed f).handOn kind f := by
  obtain ⟨calm, hreset, hdone, hexp⟩ := h
  rw [State.settle_of_calm calm, State.receive, hreset]
  simp only [Bool.false_eq_true, if_false]
  rw [State.heard_of_expects hexp hdone]

/-- A RELEASE for the own slot is acted on, tag by tag (R80, R89). -/
theorem exec_releaseReceived {tags : List Nat} (h : s.hears f) (hrun : s.running = true) (hdst : f.dst = s.ctl.slot)
    (hne : f.dst ≠ 31) (hread : readRelease f.payload = some tags) :
    exec (.releaseReceived f) s = .next ((s.refreshed f).each tags (State.takeRelease f.src)) := by
  show Host.Outcome.next (s.settle.receive kindRelease f) = _
  have haddr : (s.refreshed f).addressable f.src = true := by
    obtain ⟨_, _, _, haddr, _⟩ := h
    exact haddr
  have hrun' : (s.refreshed f).running = true := hrun
  have hdst' : f.dst = (s.refreshed f).ctl.slot := hdst
  have hne' : (s.refreshed f).ctl.slot ≠ 31 := hdst' ▸ hne
  rw [State.receive_of_hears h, State.handOn]
  simp [hdst', hne', kindRelease, kindBeacon, kindRoll, kindOffer, kindAnswer, hrun', State.actOn, hread, haddr]

end Header

/-! ### The records that a list of tags names -/

/-- The record has the tag and faces the slot (R4). -/
def Fixed.named (p g : Nat) (x : Fixed) : Bool := x.tag == g && x.farSlot == p

/-- What the tags name of a table, each tag once, in the order of the tags. -/
def namedBy (p : Nat) (tags : List Nat) (table : List Fixed) : List Fixed :=
  tags.eraseDups.filterMap (fun g => table.find? (Fixed.named p g))

theorem eraseDups_filter_ne (g : Nat) (gs : List Nat) :
    (gs.filter (fun x => !x == g)).eraseDups = gs.eraseDups.filter (fun x => !x == g) := by
  induction hn : gs.length using Nat.strong_induction_on generalizing gs with
  | _ n ih =>
    cases gs with
    | nil => rfl
    | cons h t =>
      subst hn
      have rest := ih (t.filter (fun x => !x == h)).length
        (Nat.lt_succ_of_le (List.length_filter_le _ _)) (t.filter (fun x => !x == h)) rfl
      rw [List.eraseDups_cons]
      by_cases e : h = g
      · subst e
        simp only [List.filter_cons, beq_self_eq_true, Bool.not_true, Bool.false_eq_true, if_false]
        rw [← rest, List.filter_filter]
        simp
      · have hne : (!h == g) = true := by simpa using e
        simp only [List.filter_cons, hne, if_true, List.eraseDups_cons]
        rw [← rest, List.filter_filter, List.filter_filter]
        simp only [Bool.and_comm]

/-- What the first tag names leaves the table before the others are looked up. -/
theorem namedBy_cons (p g : Nat) (gs : List Nat) (table : List Fixed) : namedBy p (g :: gs) table =
    (table.find? (Fixed.named p g)).toList ++ namedBy p gs (table.filter (fun x => !x.named p g)) := by
  have later (h : Nat) : (table.filter (fun x => !x.named p g)).find? (Fixed.named p h) =
      if h = g then none else table.find? (Fixed.named p h) := by
    rw [List.find?_filter]
    split
    · subst h
      simp
    · rename_i hne
      refine congrArg (fun q => table.find? q) (funext fun x => ?_)
      rw [Bool.eq_iff_iff]
      simp only [Fixed.named, Bool.and_eq_true, Bool.not_eq_true', Bool.and_eq_false_iff, beq_iff_eq, beq_eq_false_iff_ne,
        decide_eq_true_eq]
      constructor
      · exact fun h => h.2
      · rintro ⟨rfl, e⟩
        exact ⟨.inl hne, rfl, e⟩
  have rest : (gs.filter (fun x => !x == g)).eraseDups.filterMap (fun h => table.find? (Fixed.named p h)) =
      namedBy p gs (table.filter (fun x => !x.named p g)) := by
    rw [eraseDups_filter_ne, namedBy, List.filterMap_filter]
    refine List.filterMap_congr fun h _ => ?_
    rw [later]
    by_cases e : h = g <;> simp [e]
  rw [namedBy, List.eraseDups_cons, List.filterMap_cons, rest]
  cases table.find? (Fixed.named p g) <;> rfl

end Sys2Proof.Machine
end

section
/-! What the removals of a RELEASE leave (O49). -/

namespace Sys2Proof.Machine

section Releases

variable {s t u : State} {r x : Circuit} {p g : Nat}

/-! ### One removal (R44, R71) -/

/-- A tag that names no record towards its source changes nothing. -/
theorem State.takeRelease_none (h : s.findTowards g p = none) : s.takeRelease p g = s := by
  simp only [State.takeRelease, h]

/-- The record removed, with its notice (R9, R44). -/
def State.removing (r : Circuit) (s : State) : State := (s.removeRecord r).post .removed r

theorem State.takeRelease_some (h : s.findTowards g p = some r) :
    s.takeRelease p g = ((s.removing r).restartRoll p).settleChange (removalCause r.state) := by
  simp only [State.takeRelease, h, State.removing]

/-- What a RELEASE finds, in the words of the statement. -/
theorem State.findTowards_eq (ok : s.tableOk) (g p : Nat) :
    s.findTowards g p = s.records.find? (fun r => r.toFixed.named p g) := by
  cases h : s.records.find? (fun r => r.toFixed.named p g) with
  | none =>
    cases e : s.findTag g with
    | none => simp only [State.findTowards, e]
    | some x =>
      obtain ⟨hx, htag⟩ := State.mem_of_findTag e
      have := List.find?_eq_none.mp h x hx
      simp only [Fixed.named, htag, beq_self_eq_true, Bool.true_and, beq_iff_eq] at this
      simp only [State.findTowards, e, if_neg this]
  | some x =>
    have hx := List.mem_of_find?_eq_some h
    have hnamed := List.find?_some h
    simp only [Fixed.named, Bool.and_eq_true, beq_iff_eq] at hnamed
    obtain ⟨htag, hfar⟩ := hnamed
    have found := State.findTag_eq_some ok hx
    rw [htag] at found
    simp only [State.findTowards, found, if_pos hfar]

theorem State.removing_records (r : Circuit) (s : State) :
    (s.removing r).records = s.records.filter (fun x => x.place != r.place) := by
  rw [State.removing, (State.post_keeps _ _ _).1, State.removeRecord_records]

theorem State.removing_peer (r : Circuit) (q : Nat) (s : State) : (s.removing r).peer q = s.peer q := by
  simp [State.removing, State.peer]

theorem State.removing_running (r : Circuit) (s : State) : (s.removing r).running = s.running := by
  simp [State.removing, State.running]

/-- What neither roll marks nor a change to PROBING tell of stays as the removal leaves it. -/
theorem State.takeRelease_map {β : Type} (k : Circuit → β) (hmark : ∀ x : Circuit, k { x with rollMark := false } = k x)
    (henter : ∀ n x, k (x.enter (.probing n) false 0) = k x) (h : s.findTowards g p = some r) :
    (s.takeRelease p g).records.map k = (s.records.filter (fun x => x.place != r.place)).map k := by
  rw [State.takeRelease_some h, State.settleChange_map k henter, State.restartRoll_records, State.removing_records,
    List.map_map]
  refine List.map_congr_left fun x _ => ?_
  simp only [Function.comp]
  split <;> [exact hmark x; rfl]

/-- A removal leaves the records that its tag does not name, with their retained fields (R44). -/
theorem State.takeRelease_retained (ok : s.tableOk) (p g : Nat) : (s.takeRelease p g).records.map Circuit.retained =
    (s.records.filter (fun x => !x.toFixed.named p g)).map Circuit.retained := by
  have hfind := State.findTowards_eq ok g p
  cases h : s.findTowards g p with
  | none =>
    rw [State.takeRelease_none h]
    rw [h] at hfind
    rw [List.filter_eq_self.mpr]
    simpa using List.find?_eq_none.mp hfind.symm
  | some r =>
    rw [State.takeRelease_map Circuit.retained (fun _ => rfl) (fun _ _ => rfl) h]
    rw [h] at hfind
    have hr := List.mem_of_find?_eq_some hfind.symm
    have hnamed := List.find?_some hfind.symm
    refine congrArg _ (List.filter_congr fun x hx => ?_)
    simp only [Fixed.named, Bool.and_eq_true, beq_iff_eq] at hnamed
    obtain ⟨htag, hfar⟩ := hnamed
    have same : x.place = r.place ↔ x.toFixed.named p g = true := by
      rw [ok.place_eq_iff hx hr, ← ok.tag_eq_iff hx hr]
      simp only [Fixed.named, Bool.and_eq_true, beq_iff_eq, htag]
      refine ⟨fun e => ⟨e, ?_⟩, fun h => h.1⟩
      rw [(ok.tag_eq_iff hx hr).mp (e.trans htag.symm)]
      exact hfar
    rw [Bool.eq_iff_iff]
    simp [same]

/-- Only a claim that was due is due after an attempt (R24). -/
theorem State.mem_of_settleChange_claimDue {cause : Bool} (hx : x ∈ (s.settleChange cause).records)
    (hdue : x.claimDue = true) : x ∈ s.records := by
  have turns (n : Nat) (v : State) (hx : x ∈ (v.attemptTurns n).records) : x ∈ v.records := by
    induction n generalizing v with
    | zero => exact hx
    | succ n ih =>
      unfold State.attemptTurns at hx
      split at hx
      · split at hx
        · have started := ih _ hx
          rw [show (State.startProbe _ _ v).records = _ from (State.enter_of_ne (by simp) _).1] at started
          obtain ⟨y, hy, rfl⟩ := List.mem_map.mp started
          split at hdue
          · cases hdue
          · rename_i hne
            rw [if_neg hne]
            exact hy
        · exact hx
      · exact hx
  rcases s.settleChange_cases cause with e | e <;> rw [e, (State.judgeEnd_keeps _).1] at hx
  · exact hx
  · exact turns 4 s hx

/-- A restart posts the single OFFER for the claims that its marks held back (R71, R73). -/
theorem State.restartRoll_owes_single (hsend : (s.peer p).rollOut = .sending) (hup : (s.peer p).up = true)
    (hrun : s.running = true) (hr : r ∈ s.records) (hcls : r.cls ≤ 3) (hp : r.farSlot = p) (hdue : r.claimDue = true) :
    (s.restartRoll p).owes (.singleOffer p) := by
  have hrecords : (((s.clearRollMarks p).setRollOut p .owed).pass p).records =
      s.records.map (fun r => if r.farSlot = p then { r with rollMark := false } else r) :=
    (State.pass_keeps _ _).1
  have hmem : { r with rollMark := false } ∈ (((s.clearRollMarks p).setRollOut p .owed).pass p).records := by
    rw [hrecords]
    exact List.mem_map.mpr ⟨r, hr, if_pos hp⟩
  obtain ⟨w, hw⟩ := State.peer_pass p p ((s.clearRollMarks p).setRollOut p .owed)
  rw [State.restartRoll, if_pos hsend]
  refine State.checkSingle_owes ?_ ?_ (State.mem_towards hmem hcls hp) ?_
  · simpa [State.running, State.setRollOut, State.updPeer, State.setPeer, State.clearRollMarks, State.mapTowards] using hrun
  · rw [hw, State.peer_setRollOut]
    exact hup
  · simp [Circuit.waiting, hdue]

/-! ### What one removal leaves, and what every further one leaves of that -/

/-- No record towards a slot carries a roll mark. -/
def State.Unmarked (p : Nat) (s : State) : Prop := ∀ r ∈ s.records, r.farSlot = p → r.rollMark = false

/-- Some record towards a slot has its claim due. -/
def State.Claims (p : Nat) (s : State) : Prop := ∃ r ∈ s.records, r.farSlot = p ∧ r.claimDue = true

/-- What a removal keeps: the other lists of the peer, roll marks cleared, what is owed; and no claim comes due. -/
structure State.Spares (p : Nat) (s t : State) : Prop where
  releases : (t.peer p).releases = (s.peer p).releases
  verdicts : (t.peer p).verdicts = (s.peer p).verdicts
  unmarked : s.Unmarked p → t.Unmarked p
  owes : ∀ req, s.owes req → t.owes req
  claims : t.Claims p → s.Claims p

theorem State.Spares.refl (p : Nat) (s : State) : s.Spares p s := ⟨rfl, rfl, id, fun _ => id, id⟩

theorem State.Spares.trans (h : s.Spares p u) (k : u.Spares p t) : s.Spares p t :=
  ⟨k.releases.trans h.releases, k.verdicts.trans h.verdicts, k.unmarked ∘ h.unmarked, fun req => k.owes req ∘ h.owes req,
    h.claims ∘ k.claims⟩

theorem State.owes_removing {req : Request} (h : s.owes req) : (s.removing r).owes req := by
  have hline : (s.removing r).line.queue = s.line.queue ∧ (s.removing r).line.beaconWant = s.line.beaconWant := by
    simp only [State.removing, State.removeRecord, State.post_keeps, State.judgeLamp_keeps, State.closeEdit_line,
      State.mapFlying]
    split <;> simp
  refine h.imp (fun h => hline.1 ▸ h) (State.wanted_mono (fun h => hline.2 ▸ h) fun q => ?_)
  rw [State.removing_peer]
  exact .refl _

/-- The far slots and roll marks after a restart and the attempt (R71). -/
theorem State.mem_takeRelease_mark (h : s.findTowards g p = some r) (hx : x ∈ (s.takeRelease p g).records)
    (hp : x.farSlot = p) :
    ∃ y ∈ s.records, y.farSlot = p ∧ x.rollMark = if (s.peer p).rollOut = .sending then false else y.rollMark := by
  have hmem : (x.farSlot, x.rollMark) ∈ (s.takeRelease p g).records.map (fun x => (x.farSlot, x.rollMark)) :=
    List.mem_map_of_mem hx
  rw [State.takeRelease_some h, State.settleChange_map _ (fun _ _ => rfl), State.restartRoll_records,
    State.removing_records, State.removing_peer, List.map_map] at hmem
  obtain ⟨y, hy, e⟩ := List.mem_map.mp hmem
  obtain ⟨hslot, hmark⟩ := Prod.mk.inj e
  have hfar : y.farSlot = p := by
    rw [← hp, ← hslot]
    dsimp only
    split <;> rfl
  refine ⟨y, List.mem_of_mem_filter hy, hfar, ?_⟩
  rw [← hmark]
  by_cases hsend : (s.peer p).rollOut = .sending <;> simp [hsend, hfar]

theorem State.claims_of_takeRelease (h : s.findTowards g p = some r) (hc : (s.takeRelease p g).Claims p) :
    (s.removing r).Claims p := by
  obtain ⟨x, hx, hp, hdue⟩ := hc
  rw [State.takeRelease_some h] at hx
  have hx := State.mem_of_settleChange_claimDue hx hdue
  rw [State.restartRoll_records] at hx
  obtain ⟨y, hy, rfl⟩ := List.mem_map.mp hx
  refine ⟨y, hy, ?_, ?_⟩
  · split at hp <;> exact hp
  · split at hdue <;> exact hdue

theorem State.takeRelease_peer (h : s.findTowards g p = some r) : ∃ w, (s.takeRelease p g).peer p =
    { s.peer p with
        wants := w
        rollOut := if (s.peer p).rollOut = .sending then .owed else (s.peer p).rollOut } := by
  obtain ⟨w, hsettle⟩ := State.settleChange_peer (s := (s.removing r).restartRoll p) (cause := removalCause r.state) p
  obtain ⟨_, hrestart⟩ := (s.removing r).restartRoll_peer p p
  refine ⟨w, ?_⟩
  rw [State.takeRelease_some h, hsettle, hrestart, State.removing_peer]
  simp only [true_and]

theorem State.takeRelease_spares (p g : Nat) (s : State) : s.Spares p (s.takeRelease p g) := by
  cases h : s.findTowards g p with
  | none =>
    rw [State.takeRelease_none h]
    exact .refl p s
  | some r =>
    obtain ⟨_, hpeer⟩ := State.takeRelease_peer h
    refine ⟨by rw [hpeer], by rw [hpeer], fun clear x hx hp => ?_, fun req ho => ?_, fun hc => ?_⟩
    · obtain ⟨y, hy, hfar, e⟩ := State.mem_takeRelease_mark h hx hp
      rw [e, clear y hy hfar, ite_self]
    · rw [State.takeRelease_some h]
      exact State.settleChange_owes (State.owes_restartRoll (State.owes_removing ho))
    · obtain ⟨y, hy, hfar, hdue⟩ := State.claims_of_takeRelease h hc
      rw [State.removing_records] at hy
      exact ⟨y, List.mem_of_mem_filter hy, hfar, hdue⟩

/-- What the removal of a record restarts, where the roll to its source is SENDING (R71). -/
structure State.Restarts (p : Nat) (s t : State) : Prop where
  unmarked : t.Unmarked p
  owesRoll : (s.peer p).up = true → s.ctl.st = .service ∨ s.ctl.listenOver = true → t.owes (.roll p)
  owesSingle : (s.peer p).up = true → t.Claims p → t.owes (.singleOffer p)

theorem State.Restarts.spared (h : s.Restarts p u) (k : u.Spares p t) : s.Restarts p t :=
  ⟨k.unmarked h.unmarked, fun hup hst => k.owes _ (h.owesRoll hup hst), fun hup hc => k.owes _ (h.owesSingle hup (k.claims hc))⟩

theorem State.takeRelease_restarts (ok : s.tableOk) (hrun : s.running = true) (h : s.findTowards g p = some r)
    (hsend : (s.peer p).rollOut = .sending) : s.Restarts p (s.takeRelease p g) := by
  have hsend' : ((s.removing r).peer p).rollOut = .sending := by rw [State.removing_peer]; exact hsend
  have hctl : (s.removing r).ctl = s.ctl := by simp [State.removing]
  refine ⟨fun x hx hp => ?_, fun hup hst => ?_, fun hup hc => ?_⟩
  · obtain ⟨y, _, _, e⟩ := State.mem_takeRelease_mark h hx hp
    rw [e, if_pos hsend]
  · rw [State.takeRelease_some h]
    refine State.settleChange_owes (State.restartRoll_owes hsend' (by rw [State.removing_peer]; exact hup) ?_)
    rw [hctl]
    rcases s.running_iff.mp hrun with e | e
    · exact hst.imp id fun ho => ⟨e, ho⟩
    · exact .inl e
  · obtain ⟨y, hy, hfar, hdue⟩ := State.claims_of_takeRelease h hc
    have hy' := hy
    rw [State.removing_records] at hy'
    obtain ⟨_, _, _, _, _, hcls, _⟩ := ok.inRange (List.mem_of_mem_filter hy')
    rw [State.takeRelease_some h]
    exact State.settleChange_owes (State.restartRoll_owes_single hsend' (by rw [State.removing_peer]; exact hup)
      (by rw [State.removing_running]; exact hrun) hy hcls hfar hdue)

/-! ### A walk over the tags (R89) -/

/-- The notice of a removal (R44). -/
def Fixed.removedNotice (x : Fixed) : Notice := { tag := x.tag, kind := .removed, cls := x.cls }

/-- What a RELEASE leaves when it removes the records of `gone` (R44, R71, R89). -/
structure State.Released (p : Nat) (gone : List Fixed) (s t : State) : Prop where
  spares : s.Spares p t
  notices : s.notices.length + gone.length ≤ 32 → t.notices = s.notices ++ gone.map Fixed.removedNotice ∧
    (t.events = s.events ∨ t.events = s.events.raise .relinkDone)
  rollOut : (t.peer p).rollOut = if gone ≠ [] ∧ (s.peer p).rollOut = .sending then .owed else (s.peer p).rollOut
  restarts : gone ≠ [] → (s.peer p).rollOut = .sending → s.Restarts p t

theorem State.Released.refl (p : Nat) (s : State) : s.Released p [] s :=
  ⟨.refl p s, fun _ => ⟨by simp, .inl rfl⟩, by simp, fun h => absurd rfl h⟩

/-- After a first removal a roll is not SENDING any more. -/
theorem State.Released.cons {x : Fixed} {gone : List Fixed} (h : s.Released p [x] u) (k : u.Released p gone t) :
    s.Released p (x :: gone) t := by
  refine ⟨h.spares.trans k.spares, fun hroom => ?_, ?_, fun _ hsend => (h.restarts (by simp) hsend).spared k.spares⟩
  · obtain ⟨hnotices, hevents⟩ := h.notices (by simp at hroom ⊢; omega)
    obtain ⟨knotices, kevents⟩ := k.notices (by rw [hnotices]; simp at hroom ⊢; omega)
    refine ⟨by rw [knotices, hnotices]; simp, ?_⟩
    rcases hevents with e | e <;> rcases kevents with e' | e' <;> rw [e', e]
    · exact .inl rfl
    · exact .inr rfl
    · exact .inr rfl
    · exact .inr (EventUnit.raise_raise _ _)
  · have hu := h.rollOut
    rw [k.rollOut, hu]
    by_cases hsend : (s.peer p).rollOut = .sending <;> simp [hsend]

/-- One removal. -/
theorem State.takeRelease_released (ok : s.tableOk) (hrun : s.running = true) (h : s.findTowards g p = some r) :
    s.Released p [r.toFixed] (s.takeRelease p g) := by
  refine ⟨s.takeRelease_spares p g, fun hroom => ?_, ?_, fun _ hsend => State.takeRelease_restarts ok hrun h hsend⟩
  · have hlt : (s.removeRecord r).notices.length < 32 := by simpa using hroom
    have removed : (s.removing r).notices = s.notices ++ [r.toFixed.removedNotice] ∧ (s.removing r).events = s.events := by
      rcases (s.removeRecord r).post_cases .removed r with ⟨_, e⟩ | ⟨hfull, _⟩
      · rw [State.removing, e]
        exact ⟨by simp [Fixed.removedNotice], by simp⟩
      · omega
    have events := State.settleChange_events (s := (s.removing r).restartRoll p) (cause := removalCause r.state)
    rw [State.takeRelease_some h]
    simp only [State.restartRoll_keeps, removed.2] at events
    exact ⟨by simp [removed.1], events⟩
  · obtain ⟨_, hpeer⟩ := State.takeRelease_peer h
    rw [hpeer]
    simp

/-- Which records a RELEASE leaves is told by their retained fields. -/
theorem map_filter_retained (p : Nat) (gs : List Nat) (rs : List Circuit) :
    (rs.filter (fun r => !(gs.contains r.tag && r.farSlot == p))).map Circuit.retained =
      (rs.map Circuit.retained).filter (fun k => !(gs.contains k.2.1.tag && k.2.1.farSlot == p)) := by
  rw [List.filter_map]
  rfl

/-- What is left after a first tag and then the others is what is left after all of them. -/
theorem left_cons (p g : Nat) (gs : List Nat) (rs : List Circuit) :
    (rs.filter (fun r => !r.toFixed.named p g)).filter (fun r => !(gs.contains r.tag && r.farSlot == p)) =
      rs.filter (fun r => !((g :: gs).contains r.tag && r.farSlot == p)) := by
  rw [List.filter_filter]
  refine List.filter_congr fun r _ => ?_
  by_cases hfar : r.farSlot = p
  · by_cases htag : r.tag = g <;> simp [Fixed.named, hfar, htag]
  · simp [Fixed.named, beq_eq_false_iff_ne.mpr hfar]

/-- What a tag names of a table, in what a lookup of it finds. -/
theorem State.find_named (ok : s.tableOk) (p g : Nat) :
    (s.records.map (·.toFixed)).find? (Fixed.named p g) = (s.findTowards g p).map (·.toFixed) := by
  rw [State.findTowards_eq ok, List.find?_map]
  rfl

/-- The tags of a RELEASE, one after another (R89). -/
theorem State.takeReleases (ok : s.tableOk) {P : Prop} {φ : Phase} (paced : s.Paced P φ) (hrun : φ.Running)
    (tags : List Nat) :
    s.Released p (namedBy p tags (s.records.map (·.toFixed))) (s.each tags (State.takeRelease p)) ∧
      (s.each tags (State.takeRelease p)).records.map Circuit.retained =
        (s.records.filter (fun r => !(tags.contains r.tag && r.farSlot == p))).map Circuit.retained := by
  induction tags generalizing s with
  | nil => exact ⟨.refl p s, by simp [State.each]⟩
  | cons g gs ih =>
    have retained := State.takeRelease_retained ok p g
    obtain ⟨rest, left⟩ := ih (((State.Tends.refl s).takeRelease (p := p) (tag := g)).tableOk ok) paced.takeRelease
    have fixed : (s.takeRelease p g).records.map (·.toFixed) =
        (s.records.map (·.toFixed)).filter (fun x => !x.named p g) := by
      have := congrArg (List.map (fun k => k.2.1)) retained
      simp only [List.map_map] at this
      rw [List.filter_map]
      exact this
    refine ⟨?_, ?_⟩
    · rw [namedBy_cons, ← fixed, State.find_named ok]
      cases h : s.findTowards g p with
      | none =>
        have same := State.takeRelease_none h
        rw [same] at rest
        simpa [State.each, same] using rest
      | some r =>
        have running : s.running = true := by
          rw [← State.phase_running_iff, paced.phase]
          exact hrun
        exact (State.takeRelease_released ok running h).cons rest
    · show (State.each gs (State.takeRelease p) (s.takeRelease p g)).records.map Circuit.retained = _
      rw [left, map_filter_retained, retained, ← map_filter_retained, left_cons]

/-- The records that the tags name, in the words of the statement. -/
theorem namedBy_records (p : Nat) (tags : List Nat) (rs : List Circuit) : namedBy p tags (rs.map (·.toFixed)) =
    (tags.eraseDups.filterMap (fun g => rs.find? (fun r => r.tag == g && r.farSlot == p))).map (·.toFixed) := by
  rw [namedBy, List.map_filterMap]
  refine List.filterMap_congr fun g _ => ?_
  rw [List.find?_map]
  rfl

theorem mem_of_mem_named {tags : List Nat} {rs : List Circuit}
    (h : r ∈ tags.eraseDups.filterMap (fun g => rs.find? (fun r => r.tag == g && r.farSlot == p))) :
    r ∈ rs ∧ r.tag ∈ tags ∧ r.farSlot = p := by
  obtain ⟨g, hg, hfind⟩ := List.mem_filterMap.mp h
  have hnamed := List.find?_some hfind
  simp only [Bool.and_eq_true, beq_iff_eq] at hnamed
  obtain ⟨rfl, hfar⟩ := hnamed
  exact ⟨List.mem_of_find?_eq_some hfind, List.mem_eraseDups.mp hg, hfar⟩

/-- Hearing a frame that says nothing new changes no more of a peer record than its sweeps since heard. -/
theorem State.peer_refreshed (f : LineFrame) (q : Nat) (s : State) :
    ∃ n, (s.refreshed f).peer q = { s.peer q with sinceHeard := n } := by
  have : (s.refreshed f).peer q = (s.setPeer f.src { s.peer f.src with sinceHeard := 0 }).peer q := rfl
  rw [this, State.peer_setPeer]
  split
  · obtain ⟨rfl, _⟩ := ‹_ ∧ _›
    exact ⟨_, rfl⟩
  · exact ⟨_, rfl⟩

/-- No probe slot is held by the place that a removed record left (R9, R117). -/
theorem State.not_held_of_removed {P : Prop} {φ : Phase} {tags : List Nat} (ok : s.tableOk) (agrees : t.Agrees P φ none)
    (retained : t.records.map Circuit.retained =
      (s.records.filter (fun r => !(tags.contains r.tag && r.farSlot == p))).map Circuit.retained)
    (hr : r ∈ s.records) (htag : r.tag ∈ tags) (hfar : r.farSlot = p) : ∀ q ∈ t.hw.probes, q.place ≠ r.place := by
  intro q hq e
  have hstand := (agrees.probing q.place q.slot (by simp)).mpr (List.mem_map_of_mem hq)
  obtain ⟨y, hy, hyq⟩ := List.mem_map.mp hstand
  have hplace : y.place = r.place := (congrArg Prod.fst hyq).trans e
  have hmem : y.retained ∈ t.records.map Circuit.retained := List.mem_map_of_mem hy
  rw [retained] at hmem
  obtain ⟨z, hz, hzy⟩ := List.mem_map.mp hmem
  obtain ⟨hz, hnot⟩ := List.mem_filter.mp hz
  have hzr : z.place = r.place := (congrArg Prod.fst hzy).trans hplace
  obtain rfl := (ok.place_eq_iff hz hr).mp hzr
  simp [htag, hfar] at hnot

end Releases

end Sys2Proof.Machine

open Sys2Proof Sys2Proof.Machine

/-- Settles O49: hearing the frame refreshes its source alone, and each tag then removes what it names. -/
theorem releaseRemoves : Obligations.ReleaseRemoves := by
  intro f tags s safe hears hrun hdst hne hlo hhi htags hpayload p gone restarts
  have hread : readRelease f.payload = some tags := hpayload ▸ readRelease_releasePayload htags hlo hhi
  have ok : (s.refreshed f).tableOk := safe.table
  have agrees : (s.refreshed f).Agrees False s.phase none :=
    State.Agrees.frame (s := s) ((State.agrees_iff safe.table.places).mpr ⟨safe.pace, safe.probes, False.elim⟩) rfl
  have paced : (s.refreshed f).Paced False s.phase := ⟨rfl, agrees⟩
  have paced' : (State.each tags (State.takeRelease p) (s.refreshed f)).Paced False s.phase :=
    paced.each fun g _ hu => hu.takeRelease (tag := g)
  have tends : (s.refreshed f).Tends (State.each tags (State.takeRelease p) (s.refreshed f)) :=
    (State.Tends.refl _).each fun g u => (State.Tends.refl u).takeRelease (tag := g)
  obtain ⟨released, retained⟩ := State.takeReleases (p := p) ok paced (s.phase_running_iff.mpr hrun) tags
  rw [exec_releaseReceived hears hrun hdst hne hread]
  generalize State.each tags (State.takeRelease p) (s.refreshed f) = t at *
  obtain ⟨n, hpeer⟩ := s.peer_refreshed f p
  have hgone : namedBy p tags ((s.refreshed f).records.map (·.toFixed)) = gone.map (·.toFixed) :=
    namedBy_records p tags s.records
  have hnone : gone.map (·.toFixed) ≠ [] ↔ gone ≠ [] := by simp
  rw [hgone] at released
  obtain ⟨spares, notices, rollOut, restarted⟩ := released
  simp only [hnone, hpeer] at rollOut restarted
  refine ⟨t, rfl, retained, fun r hr => ?_, tends.sum, fun hroom => ?_, ?_, ?_, rollOut, fun hrestart => ?_⟩
  · obtain ⟨hr, htag, hfar⟩ := mem_of_mem_named hr
    exact State.not_held_of_removed (s := s.refreshed f) ok paced'.agrees retained hr htag hfar
  · obtain ⟨hnotices, hevents⟩ := notices (by rw [List.length_map]; exact hroom)
    exact ⟨by rw [hnotices, List.map_map]; rfl, hevents⟩
  · rw [spares.releases, hpeer]
  · rw [spares.verdicts, hpeer]
  · obtain ⟨unmarked, owesRoll, owesSingle⟩ := restarted hrestart.1 hrestart.2
    rw [hpeer] at owesRoll owesSingle
    exact ⟨unmarked, owesRoll, owesSingle⟩

end

section
/-! The Peer Table: which slots hold a peer record, the agreement of O55, and the rules by which operations keep it. -/

namespace Sys2Proof.Machine

/-! ### What the agreement reads -/

/-- The own slot, the shelf size, and whether the reset cause persists. -/
structure Seat where
  slot : Nat
  size : Nat
  held : Bool

def State.seat (s : State) : Seat := ⟨s.ctl.slot, s.ctl.size, s.ctl.resetHeld⟩

/-- The slot can hold a peer record: the straps are read and it is addressable (R51, R52). -/
def Seat.Holds (σ : Seat) (p : Nat) : Prop := σ.held = false ∧ p < σ.size ∧ p ≠ σ.slot

/-- The station state fits the seat: the reset cause persists in STARTING alone, and a slot outside the shelf is STRAP FAULT
(R149, R150). -/
def Seat.Fits (σ : Seat) (x : StationState) : Prop :=
  (σ.held = true → x = .starting) ∧ (σ.held = false → x ≠ .strapFault → σ.slot < σ.size)

/-- A station that has left STARTING and is not in STRAP FAULT may go to any station state. -/
theorem Seat.Fits.move {σ : Seat} {x : StationState} (h : σ.Fits x) (hheld : σ.held = true → x ≠ .starting)
    (hx : x ≠ .strapFault) (y : StationState) : σ.Fits y := by
  obtain ⟨starting, within⟩ := h
  exact ⟨fun e => absurd (starting e) (hheld e), fun e _ => within e hx⟩

theorem State.holds_iff (p : Nat) (s : State) :
    s.seat.Holds p ↔ ¬ (s.ctl.resetHeld = true ∨ s.addressable p = false) := by
  simp [Seat.Holds, State.seat, State.addressable]

theorem State.seat_congr {s t : State} (h : t.ctl = s.ctl) : t.seat = s.seat := by rw [State.seat, h, State.seat]

theorem State.peer_congr {s t : State} (h : t.peers = s.peers) (q : Nat) : t.peer q = s.peer q := by
  rw [State.peer, h, State.peer]

/-- What a scope mark is read by: the far slot of its record. -/
def Circuit.scoped (r : Circuit) : Nat × Bool := (r.farSlot, r.scopeMark)

/-- Some record towards the slot carries a scope mark (R75). -/
def State.Scoped (p : Nat) (s : State) : Prop := (p, true) ∈ s.records.map Circuit.scoped

theorem State.scoped_iff (p : Nat) (s : State) : s.Scoped p ↔ ∃ r ∈ s.records, r.farSlot = p ∧ r.scopeMark = true := by
  simp [State.Scoped, Circuit.scoped]

/-- The Peer Table is in range where every slot reads a record in range: one that is not in the table reads as its start
values. -/
theorem State.peersOk_iff (s : State) : s.peersOk ↔ s.peers.length = 24 ∧ ∀ q, (s.peer q).inRange := by
  refine and_congr_right fun _ => ⟨fun h q => ?_, fun h x hx => ?_⟩
  · by_cases hq : q < s.peers.length
    · have : s.peer q = s.peers[q] := by simp [State.peer, List.getD_eq_getElem?_getD, hq]
      rw [this]
      exact h _ (List.getElem_mem hq)
    · rw [State.peer_of_length_le (Nat.not_lt.mp hq)]
      decide
  · obtain ⟨q, hq, rfl⟩ := List.mem_iff_getElem.mp hx
    simpa [State.peer, List.getD_eq_getElem?_getD, hq] using h q

/-! ### The agreement -/

/-- The agreement of O55 for a station on the seat `σ`, the parts of it that `A`, `T` and `S` say: the peer records in range,
those that are absent at their start values, scope marks towards open channels only, and a station state that fits. Of the
slot `hole`, if there is one, whose channel has just become IDLE, the scope marks are still to go. -/
structure State.Seated (A T S : Prop) (σ : Seat) (hole : Option Nat) (s : State) : Prop where
  seat : s.seat = σ
  fits : S → σ.Fits s.ctl.st
  count : s.peers.length = 24
  range : ∀ q, (s.peer q).inRange
  absent : A → ∀ q, ¬ σ.Holds q → s.peer q = Peer.start
  size : T → σ.size ≤ 24
  scope : T → ∀ q, s.Scoped q → some q ≠ hole → (s.peer q).channel ≠ .idle

/-- The agreement, from the words of the statement. -/
theorem State.seated {s : State} (peers : s.peersOk) :
    s.Seated s.absentOk (s.tableOk ∧ s.scopeOk) s.slotOk s.seat none := by
  obtain ⟨count, range⟩ := s.peersOk_iff.mp peers
  refine ⟨rfl, id, count, range, fun h q hq => h q ?_, fun ⟨_, size, _⟩ => size, fun ⟨_, _, closed⟩ q hq _ => ?_⟩
  · rwa [State.holds_iff, not_not] at hq
  · obtain ⟨r, hr, rfl, hmark⟩ := (s.scoped_iff q).mp hq
    exact closed r hr hmark

/-- The agreement, in the words of the statement. -/
theorem State.Seated.parts {A T S : Prop} {σ : Seat} {s : State} (h : s.Seated A T S σ none) :
    s.peersOk ∧ (A → s.absentOk) ∧ (T → s.scopeOk) ∧ (S → s.slotOk) := by
  obtain ⟨rfl, fits, count, range, absent, size, scope⟩ := h
  refine ⟨s.peersOk_iff.mpr ⟨count, range⟩, fun hA p hp => absent hA p ?_, fun hT => ⟨size hT, fun r hr hmark => ?_⟩, fits⟩
  · rwa [State.holds_iff, not_not]
  · exact scope hT r.farSlot ((s.scoped_iff _).mpr ⟨r, hr, rfl, hmark⟩) (by simp)

section Rules

variable {A T S : Prop} {σ : Seat} {hole : Option Nat} {s t : State} {r : Circuit} {p : Nat}

/-- An operation that touches no peer record and adds no scope mark. -/
theorem State.Seated.change (h : s.Seated A T S σ hole) (hseat : t.seat = s.seat) (hfits : S → σ.Fits t.ctl.st)
    (hp : t.peers = s.peers) (hm : ∀ q, t.Scoped q → s.Scoped q) : t.Seated A T S σ hole := by
  obtain ⟨seat, _, count, range, absent, size, scope⟩ := h
  have peer := State.peer_congr hp
  refine ⟨hseat.trans seat, hfits, hp ▸ count, fun q => peer q ▸ range q, fun hA q hq => (peer q).trans (absent hA q hq),
    size, fun hT q hq hne => ?_⟩
  rw [peer]
  exact scope hT q (hm q hq) hne

theorem State.Seated.frame (h : s.Seated A T S σ hole) (hp : t.peers = s.peers) (hc : t.ctl = s.ctl)
    (hm : ∀ q, t.Scoped q → s.Scoped q) : t.Seated A T S σ hole :=
  h.change (State.seat_congr hc) (hc ▸ h.fits) hp hm

/-- An operation that touches neither records, peer records nor the station. -/
theorem State.Seated.same (h : s.Seated A T S σ hole) (hr : t.records = s.records) (hp : t.peers = s.peers)
    (hc : t.ctl = s.ctl) : t.Seated A T S σ hole :=
  h.frame hp hc fun q hq => by rwa [State.Scoped, hr] at hq

/-- An operation that changes records, and sets no scope mark. -/
theorem State.Seated.map (h : s.Seated A T S σ hole) (f : Circuit → Circuit)
    (hf : ∀ x, (f x).farSlot = x.farSlot ∧ ((f x).scopeMark = true → x.scopeMark = true))
    (hr : t.records = s.records.map f) (hp : t.peers = s.peers) (hc : t.ctl = s.ctl) : t.Seated A T S σ hole := by
  refine h.frame hp hc fun q hq => ?_
  rw [State.scoped_iff] at hq ⊢
  rw [hr] at hq
  obtain ⟨_, hmem, rfl, hmark⟩ := hq
  obtain ⟨x, hx, rfl⟩ := List.mem_map.mp hmem
  obtain ⟨hfar, hkept⟩ := hf x
  exact ⟨x, hx, hfar.symm, hkept hmark⟩

theorem State.Seated.ite {c : Prop} [Decidable c] (hs : c → s.Seated A T S σ hole) (ht : ¬ c → t.Seated A T S σ hole) :
    (if c then s else t).Seated A T S σ hole := by
  split
  · exact hs ‹_›
  · exact ht ‹_›

theorem State.Seated.each {α : Type} (h : s.Seated A T S σ hole) {xs : List α} {f : α → State → State}
    (hf : ∀ x (u : State), u.Seated A T S σ hole → (f x u).Seated A T S σ hole) : (s.each xs f).Seated A T S σ hole := by
  induction xs generalizing s with
  | nil => exact h
  | cons x xs ih => exact ih (hf x s h)

/-- The scope marks towards a slot may be looked after later. -/
theorem State.Seated.opens (h : s.Seated A T S σ none) (p : Nat) : s.Seated A T S σ (some p) :=
  { h with scope := fun hT q hq _ => h.scope hT q hq (by simp) }

/-- Where no record towards the slot carries a scope mark, or its channel is open, nothing is left to look after. -/
theorem State.Seated.closes (h : s.Seated A T S σ (some p)) (hp : T → s.Scoped p → (s.peer p).channel ≠ .idle) :
    s.Seated A T S σ none := by
  refine { h with scope := fun hT q hq _ => ?_ }
  by_cases e : q = p
  · subst e
    exact hp hT hq
  · exact h.scope hT q hq (by simpa using e)

/-- A slot whose record is not at its start values can hold one. -/
theorem State.Seated.holds (h : s.Seated A T S σ hole) (hne : s.peer p ≠ Peer.start) (hA : A) : σ.Holds p := by
  by_contra hp
  exact hne (h.absent hA p hp)

theorem State.Seated.holds_of_up (h : s.Seated A T S σ hole) (hup : (s.peer p).up = true) (hA : A) : σ.Holds p :=
  h.holds (fun e => by rw [e] at hup; cases hup) hA

theorem State.Seated.holds_of_rollOut (h : s.Seated A T S σ hole) (hroll : (s.peer p).rollOut ≠ .none) (hA : A) :
    σ.Holds p :=
  h.holds (fun e => hroll (by rw [e]; rfl)) hA

theorem State.Seated.holds_of_presence (h : s.Seated A T S σ hole) (hpres : (s.peer p).presence ≠ .unheard) (hA : A) :
    σ.Holds p :=
  h.holds (fun e => hpres (by rw [e]; rfl)) hA

/-- One peer record changes: that of a slot that can hold one, or in nothing. -/
theorem State.Seated.update (h : s.Seated A T S σ hole) {f : Peer → Peer}
    (hA : A → σ.Holds p ∨ f (s.peer p) = s.peer p) (hf : (s.peer p).inRange → (f (s.peer p)).inRange)
    (hc : some p ≠ hole → (f (s.peer p)).channel = .idle → (s.peer p).channel = .idle) :
    (s.updPeer p f).Seated A T S σ hole := by
  refine ⟨h.seat, h.fits, ?_, fun q => ?_, fun a q hq => ?_, h.size, fun hT q hq hne => ?_⟩
  · simpa [State.updPeer, State.setPeer] using h.count
  · rw [State.peer_updPeer]
    split
    · exact hf (h.range p)
    · exact h.range q
  · rw [State.peer_updPeer]
    split
    · obtain ⟨rfl, _⟩ := ‹_ ∧ _›
      exact ((hA a).resolve_left hq).trans (h.absent a q hq)
    · exact h.absent a q hq
  · have open_ := h.scope hT q hq hne
    rw [State.peer_updPeer]
    split
    · obtain ⟨rfl, _⟩ := ‹_ ∧ _›
      exact fun e => open_ (hc hne e)
    · exact open_

theorem State.Seated.updPeer (h : s.Seated A T S σ hole) {f : Peer → Peer} (hA : A → σ.Holds p)
    (hf : (s.peer p).inRange → (f (s.peer p)).inRange)
    (hc : some p ≠ hole → (f (s.peer p)).channel = .idle → (s.peer p).channel = .idle) :
    (s.updPeer p f).Seated A T S σ hole := h.update (fun a => .inl (hA a)) hf hc

/-- A change of the peer record in other fields than those with a range and the channel. -/
theorem State.Seated.remark (h : s.Seated A T S σ hole) {f : Peer → Peer} (hA : A → σ.Holds p)
    (hf : ∀ x : Peer, (f x).inRange ↔ x.inRange) (hc : ∀ x, (f x).channel = x.channel) :
    (s.updPeer p f).Seated A T S σ hole :=
  h.updPeer hA (hf _).mpr fun _ e => (hc _).symm.trans e

/-! ### Blocks beside the records and the peers -/

theorem State.Seated.raise (h : s.Seated A T S σ hole) {f : EventFlag} : (s.raise f).Seated A T S σ hole :=
  h.same rfl rfl rfl
theorem State.Seated.raiseIf (h : s.Seated A T S σ hole) {c : Bool} {f : EventFlag} :
    (s.raiseIf c f).Seated A T S σ hole := h.same (by simp) (by simp) (by simp)
theorem State.Seated.post (h : s.Seated A T S σ hole) {k : NoticeKind} : (s.post k r).Seated A T S σ hole :=
  h.same (by simp) (by simp) (by simp)
theorem State.Seated.postIf (h : s.Seated A T S σ hole) {c : Bool} {k : NoticeKind} :
    (s.postIf c k r).Seated A T S σ hole := h.same (by simp) (by simp) (by simp)
theorem State.Seated.credit (h : s.Seated A T S σ hole) {n : Nat} : (s.credit n).Seated A T S σ hole :=
  h.same rfl rfl rfl
theorem State.Seated.freeProbe (h : s.Seated A T S σ hole) {g : Nat} : (s.freeProbe g).Seated A T S σ hole :=
  h.same rfl rfl rfl
theorem State.Seated.startCount (h : s.Seated A T S σ hole) : s.startCount.Seated A T S σ hole := h.same rfl rfl rfl
theorem State.Seated.stopTimer (h : s.Seated A T S σ hole) : s.stopTimer.Seated A T S σ hole := h.same rfl rfl rfl
theorem State.Seated.setQueue (h : s.Seated A T S σ hole) {q : List Request} : (s.setQueue q).Seated A T S σ hole :=
  h.same rfl rfl rfl
theorem State.Seated.judgeLamp (h : s.Seated A T S σ hole) : s.judgeLamp.Seated A T S σ hole :=
  h.same (by simp) (by simp) (by simp)
theorem State.Seated.cancelProbe (h : s.Seated A T S σ hole) : (s.cancelProbe r).Seated A T S σ hole :=
  h.same (by simp) (by simp) (by simp)
theorem State.Seated.dropRequests (h : s.Seated A T S σ hole) : (s.dropRequests p).Seated A T S σ hole :=
  h.same (by simp) (by simp) (by simp)
theorem State.Seated.lineError (h : s.Seated A T S σ hole) : s.lineError.Seated A T S σ hole := h.same rfl rfl rfl
theorem State.Seated.closeEdit (h : s.Seated A T S σ hole) : s.closeEdit.Seated A T S σ hole := h.same rfl rfl rfl

/-! ### Requests and rolls (R66 to R73, R128 to R131) -/

theorem State.Seated.setRollOut (h : s.Seated A T S σ hole) (hA : A → σ.Holds p) {x : RollOut} :
    (s.setRollOut p x).Seated A T S σ hole := h.remark hA (fun _ => .rfl) fun _ => rfl

theorem State.Seated.overrun (h : s.Seated A T S σ hole) (hA : A → σ.Holds p) : (s.overrun p).Seated A T S σ hole := by
  refine h.updPeer hA (fun hr => ?_) fun _ e => e
  obtain ⟨since, verdicts, releases, overrun, channel⟩ := hr
  refine ⟨since, verdicts, releases, ?_, channel⟩
  simp only [satSucc]
  split <;> omega

/-- A want mark is set or cleared in the record of a slot that can hold one. -/
theorem State.Seated.setWant (h : s.Seated A T S σ hole) {req : Request} {b : Bool}
    (hA : ∀ p, req.peer = some p → A → σ.Holds p) : (s.setWant req b).Seated A T S σ hole := by
  cases req with
  | beacon => exact h.same rfl rfl rfl
  | roll p | rollOffer p | singleOffer p | answer p | release p =>
    simp only [State.setWant]
    exact h.remark (hA p rfl) (fun _ => Iff.rfl) fun _ => rfl

theorem State.Seated.request (h : s.Seated A T S σ hole) {req : Request} (hA : ∀ p, req.peer = some p → A → σ.Holds p) :
    (s.request req).Seated A T S σ hole := by
  rcases s.request_cases req with ⟨_, e⟩ | ⟨_, _, e⟩ | ⟨_, _, e⟩ <;> rw [e]
  · exact h
  · exact h.setQueue
  · exact h.setWant hA

theorem State.Seated.requestFor (h : s.Seated A T S σ hole) {req : Request} (hreq : req.peer = some p)
    (hA : A → σ.Holds p) : (s.request req).Seated A T S σ hole :=
  h.request fun q e => by
    rw [hreq] at e
    cases e
    exact hA

theorem State.Seated.announce (h : s.Seated A T S σ hole) : s.announce.Seated A T S σ hole := by
  have reset : State.Seated A T S σ hole { s with sweep := { s.sweep with beaconCount := 0 } } := h.same rfl rfl rfl
  exact reset.request (by rintro _ ⟨⟩)

theorem State.Seated.pass (h : s.Seated A T S σ hole) : (s.pass p).Seated A T S σ hole := by
  refine .ite (fun hrel => h.requestFor rfl (h.holds_of_rollOut ?_)) fun _ => h
  simp only [State.releasable, Bool.and_eq_true, beq_iff_eq] at hrel
  obtain ⟨⟨owed, _⟩, _⟩ := hrel
  simp [owed]

theorem State.Seated.passAll (h : s.Seated A T S σ hole) : s.passAll.Seated A T S σ hole := h.each fun _ _ hu => hu.pass

theorem State.Seated.checkSingle (h : s.Seated A T S σ hole) : (s.checkSingle p).Seated A T S σ hole := by
  refine .ite (fun hpost => h.requestFor rfl (h.holds_of_up ?_)) fun _ => h
  simp only [Bool.and_eq_true] at hpost
  obtain ⟨⟨_, up⟩, _⟩ := hpost
  exact up

theorem State.Seated.mapTowards (h : s.Seated A T S σ hole) {f : Circuit → Circuit}
    (hf : ∀ x, (f x).farSlot = x.farSlot ∧ ((f x).scopeMark = true → x.scopeMark = true)) :
    (s.mapTowards p f).Seated A T S σ hole :=
  h.map (fun x => if x.farSlot = p then f x else x) (fun x => by split <;> [exact hf x; exact ⟨rfl, id⟩]) rfl rfl rfl

theorem State.Seated.clearRollMarks (h : s.Seated A T S σ hole) : (s.clearRollMarks p).Seated A T S σ hole :=
  h.mapTowards fun _ => ⟨rfl, id⟩

theorem State.not_scoped_clearScopeMarks (p : Nat) (s : State) : ¬ (s.clearScopeMarks p).Scoped p := by
  rw [State.scoped_iff]
  rintro ⟨_, hx, hp, hmark⟩
  obtain ⟨x, _, rfl⟩ := List.mem_map.mp hx
  split at hmark
  · cases hmark
  · rename_i hne
    rw [if_neg hne] at hp
    exact hne hp

/-- The scope marks towards an IDLE channel go (R79). -/
theorem State.Seated.clearScopeMarks (h : s.Seated A T S σ (some p)) : (s.clearScopeMarks p).Seated A T S σ none := by
  have cleared : (s.clearScopeMarks p).Seated A T S σ (some p) := h.mapTowards fun _ => ⟨rfl, by rintro ⟨⟩⟩
  exact cleared.closes fun _ e => absurd e (s.not_scoped_clearScopeMarks p)

theorem State.Seated.oweRoll (h : s.Seated A T S σ hole) (hA : A → σ.Holds p) : (s.oweRoll p).Seated A T S σ hole :=
  State.Seated.setRollOut (.ite (fun _ => h.clearRollMarks) fun _ => h) hA

theorem State.Seated.restartRoll (h : s.Seated A T S σ hole) : (s.restartRoll p).Seated A T S σ hole :=
  .ite (fun hsend => (h.clearRollMarks.setRollOut (h.holds_of_rollOut (by simp [hsend]))).pass.checkSingle) fun _ => h

theorem State.Seated.emptyLists (h : s.Seated A T S σ hole) (hA : A → σ.Holds p) :
    (s.emptyLists p).Seated A T S σ hole := by
  have emptied : (s.updPeer p (fun x => { x with verdicts := [], releases := [] })).Seated A T S σ hole := by
    refine h.updPeer hA (fun hr => ?_) fun _ e => e
    obtain ⟨since, _, _, overrun, channel⟩ := hr
    exact ⟨since, Nat.zero_le _, Nat.zero_le _, overrun, channel⟩
  exact emptied.same (by simp) (by simp [State.emptyLists]) (by simp)

/-- A list that has room takes one more (R65). -/
theorem State.Seated.appendVerdict (h : s.Seated A T S σ hole) (hA : A → σ.Holds p)
    (hroom : (s.peer p).verdicts.length < 16) {v : Verdict} : (s.appendVerdict p v).Seated A T S σ hole := by
  refine State.Seated.requestFor (h.updPeer hA (fun hr => ?_) fun _ e => e) rfl hA
  obtain ⟨since, _, releases, overrun, channel⟩ := hr
  refine ⟨since, ?_, releases, overrun, channel⟩
  simpa using hroom

theorem State.Seated.appendRelease (h : s.Seated A T S σ hole) (hA : A → σ.Holds p)
    (hroom : (s.peer p).releases.length < 16) {tag : Nat} : (s.appendRelease p tag).Seated A T S σ hole := by
  refine State.Seated.requestFor (h.updPeer hA (fun hr => ?_) fun _ e => e) rfl hA
  obtain ⟨since, verdicts, _, overrun, channel⟩ := hr
  refine ⟨since, verdicts, ?_, overrun, channel⟩
  simpa using hroom

theorem State.Seated.unsolicitedClash (h : s.Seated A T S σ hole) : (s.unsolicitedClash r).Seated A T S σ hole := by
  refine .ite (fun hpres => ?_) fun _ => h
  have holds := h.holds_of_presence (p := r.farSlot) (by simp [hpres])
  exact .ite (fun hroom => h.appendVerdict holds hroom) fun _ => h.overrun holds

/-! ### Relink states (2.2) and the end of RELINK (R156) -/

theorem State.Seated.mapRec (h : s.Seated A T S σ hole) {g : Nat} {f : Circuit → Circuit}
    (hf : ∀ x, (f x).farSlot = x.farSlot ∧ ((f x).scopeMark = true → x.scopeMark = true)) :
    (s.mapRec g f).Seated A T S σ hole :=
  h.map (fun x => if x.place = g then f x else x) (fun x => by split <;> [exact hf x; exact ⟨rfl, id⟩]) rfl rfl rfl

theorem State.Seated.enter (h : s.Seated A T S σ hole) {g : Nat} {new : Relink} {due : Bool} {sends : Nat} :
    (s.enter g new due sends).Seated A T S σ hole := by
  refine h.frame (by simp) (by simp) fun q hq => ?_
  rw [State.Scoped, State.enter_map Circuit.scoped fun _ _ _ => rfl] at hq
  obtain ⟨x, hx, e⟩ := List.mem_map.mp hq
  refine (s.scoped_iff q).mpr ⟨x, hx, ?_⟩
  split at e
  · obtain ⟨hslot, hmark⟩ := Prod.mk.inj e
    refine ⟨hslot, ?_⟩
    simp only [Circuit.enter] at hmark
    split at hmark
    · cases hmark
    · exact hmark
  · exact Prod.mk.inj e

theorem State.Seated.moveTo (h : s.Seated A T S σ hole) {new : Relink} {due : Bool} {sends : Nat} :
    (s.moveTo r new due sends).Seated A T S σ hole := h.cancelProbe.enter

theorem State.Seated.attemptTurns (h : s.Seated A T S σ hole) (n : Nat) : (s.attemptTurns n).Seated A T S σ hole :=
  h.frame (by simp) (by simp) fun q hq => by
    rwa [State.Scoped, State.attemptTurns_map Circuit.scoped fun _ _ => rfl] at hq

theorem State.Seated.attempt (h : s.Seated A T S σ hole) : s.attempt.Seated A T S σ hole :=
  .ite (fun _ => h.attemptTurns 4) fun _ => h

/-- The station goes to a station state that fits. -/
theorem State.Seated.setStation (h : s.Seated A T S σ hole) {x : StationState} (hx : S → σ.Fits x) :
    (s.setStation x).Seated A T S σ hole := by
  refine h.change ?_ (fun hS => ?_) (by simp) fun q hq => ?_
  · simp [State.seat, State.setStation]
  · simpa [State.setStation] using hx hS
  · rwa [State.Scoped, (State.setStation_keeps x s).1] at hq

theorem State.relinkDone_relink (h : s.relinkDone = true) : s.ctl.st = .relink := by
  simp only [State.relinkDone, Bool.and_eq_true, beq_iff_eq] at h
  obtain ⟨⟨⟨hst, _⟩, _⟩, _⟩ := h
  exact hst

theorem State.Seated.judgeEnd (h : s.Seated A T S σ hole) : s.judgeEnd.Seated A T S σ hole := by
  refine .ite (fun hdone => ?_) fun _ => h
  have hst := State.relinkDone_relink hdone
  exact (h.setStation fun hS => (h.fits hS).move (by simp [hst]) (by simp [hst]) _).raise.announce

theorem State.Seated.settleChange (h : s.Seated A T S σ hole) {cause : Bool} :
    (s.settleChange cause).Seated A T S σ hole := by
  rcases s.settleChange_cases cause with e | e <;> rw [e]
  · exact h.judgeEnd
  · exact (h.attemptTurns 4).judgeEnd

/-- A record leaves the table (R9). -/
theorem State.Seated.removeRecord (h : s.Seated A T S σ hole) : (s.removeRecord r).Seated A T S σ hole := by
  refine h.frame (by simp) (by simp) fun q hq => ?_
  rw [State.scoped_iff, State.removeRecord_records] at hq
  obtain ⟨x, hx, hmark⟩ := hq
  exact (s.scoped_iff q).mpr ⟨x, List.mem_of_mem_filter hx, hmark⟩

end Rules

end Sys2Proof.Machine
end

section
/-! The operations of chapters 2 to 7 keep the agreement of O55: one rule per operation. -/

namespace Sys2Proof.Machine

section Rules

variable {A T S : Prop} {σ : Seat} {hole : Option Nat} {s t : State} {r : Circuit} {p : Nat}

/-! ### Causes that act on one record (chapters 2 and 4) -/

theorem State.Seated.deferPlace (h : s.Seated A T S σ hole) {cond : Relink → Bool} :
    (s.deferPlace cond p).Seated A T S σ hole := by
  unfold State.deferPlace
  split
  · exact h
  · exact .ite (fun _ => h.moveTo.post.settleChange) fun _ => h

theorem State.Seated.deferMany (h : s.Seated A T S σ hole) {cond : Relink → Bool} {rs : List Circuit} :
    (s.deferMany cond rs).Seated A T S σ hole := h.raiseIf.each fun _ _ hu => hu.deferPlace

theorem State.Seated.claimSent (h : s.Seated A T S σ hole) {roll : Bool} : (s.claimSent roll p).Seated A T S σ hole := by
  unfold State.claimSent
  split
  · exact h
  · have marked : (s.mapRec p (fun x => { x with claimDue := false, rollMark := if roll then false else x.rollMark })).Seated
        A T S σ hole := h.mapRec fun _ => ⟨rfl, id⟩
    dsimp only
    split
    case h_1 | h_2 | h_3 => exact marked.enter.settleChange
    case h_4 => exact marked.mapRec fun _ => ⟨rfl, id⟩
    case h_5 | h_6 | h_7 | h_8 => exact marked

theorem State.Seated.agree (h : s.Seated A T S σ hole) {lane : InUse} : (s.agree lane r).Seated A T S σ hole := by
  have moved : (s.mapRec r.place (fun x => { x with inUse := lane })).Seated A T S σ hole := h.mapRec fun _ => ⟨rfl, id⟩
  exact State.Seated.postIf (.ite (fun _ => moved) fun _ => moved.moveTo)

theorem State.Seated.refuse (h : s.Seated A T S σ hole) {c : Cause} : (s.refuse c r).Seated A T S σ hole :=
  h.raise.moveTo.post

theorem State.Seated.clash (h : s.Seated A T S σ hole) : (s.clash r).Seated A T S σ hole := h.raise.moveTo.post

theorem State.Seated.laneFault (h : s.Seated A T S σ hole) : (s.laneFault r).Seated A T S σ hole := by
  have moved : (s.mapRec r.place (fun x => { x with inUse := .standby })).Seated A T S σ hole :=
    h.mapRec fun _ => ⟨rfl, id⟩
  refine .ite (fun _ => ?_) fun _ => h.enter.raise.post.unsolicitedClash
  exact .ite (fun _ => moved.post.enter.checkSingle) fun _ => moved.post.enter.raise

theorem State.Seated.completeProbe (h : s.Seated A T S σ hole) {pr : Probe} :
    (s.completeProbe pr).Seated A T S σ hole := by
  unfold State.completeProbe
  dsimp only
  split
  · exact h.freeProbe
  · exact .ite (fun _ => h.freeProbe.credit.laneFault.settleChange) fun _ => h.freeProbe.enter.post.settleChange

/-! ### The orphan sweep (R40, R78) -/

theorem State.Seated.orphanPlace (h : s.Seated A T S σ hole) : (s.orphanPlace p).Seated A T S σ hole := by
  unfold State.orphanPlace
  split
  · exact h
  · have cleared : (s.mapRec p (fun x => { x with scopeMark := false })).Seated A T S σ hole :=
      h.mapRec fun _ => ⟨rfl, by rintro ⟨⟩⟩
    exact .ite (fun _ => .ite (fun _ => cleared.moveTo.post.settleChange) fun _ => cleared) fun _ => h

/-- What neither clash marks nor the entry to the relink state tell of stays. -/
theorem State.moveTo_map {β : Type} (g : Circuit → β) (hg : ∀ (y : Circuit) (a b : Bool),
    g { y with clashMark := a, clashPending := b } = g y) {new : Relink} {due : Bool} {sends : Nat}
    (henter : ∀ y, g (y.enter new due sends) = g y) (r : Circuit) (s : State) :
    (s.moveTo r new due sends).records.map g = s.records.map g := by
  simp only [State.moveTo, State.enter_map g hg, henter, ite_self, State.cancelProbe_keeps]

/-- A record that carries a scope mark, as a sweep over places sees it. -/
def Circuit.tracked (r : Circuit) : Nat × Nat × Bool := (r.place, r.farSlot, r.scopeMark)

/-- One turn of an orphan sweep takes the scope mark in its place, and sets none. -/
theorem State.tracked_orphanPlace (ok : s.tableOk) {g i q : Nat}
    (hx : (i, q, true) ∈ (s.orphanPlace g).records.map Circuit.tracked) :
    i ≠ g ∧ (i, q, true) ∈ s.records.map Circuit.tracked := by
  unfold State.orphanPlace at hx
  split at hx
  · rename_i hnone
    refine ⟨?_, hx⟩
    rintro rfl
    obtain ⟨x, hx, e⟩ := List.mem_map.mp hx
    simpa [(Prod.mk.inj e).1] using List.find?_eq_none.mp hnone x hx
  · rename_i r hfind
    obtain ⟨hr, rfl⟩ := State.mem_of_findPlace hfind
    split at hx
    · have hx : (i, q, true) ∈ (s.mapRec r.place (fun x => { x with scopeMark := false })).records.map Circuit.tracked := by
        dsimp only at hx
        split at hx
        · rwa [State.settleChange_map _ fun _ _ => rfl, (State.post_keeps _ _ _).1,
            State.moveTo_map _ (fun _ _ _ => rfl) fun _ => rfl] at hx
        · exact hx
      rw [State.mapRec_records, List.map_map] at hx
      obtain ⟨x, hx, e⟩ := List.mem_map.mp hx
      dsimp only [Function.comp] at e
      split at e
      · cases e
      · rename_i hne
        exact ⟨fun hi => hne ((congrArg Prod.fst e).trans hi), List.mem_map.mpr ⟨x, hx, e⟩⟩
    · rename_i hclear
      refine ⟨?_, hx⟩
      rintro rfl
      obtain ⟨x, hx, e⟩ := List.mem_map.mp hx
      obtain ⟨hplace, htrack⟩ := Prod.mk.inj e
      obtain rfl := (ok.place_eq_iff hx hr).mp hplace
      exact hclear (Prod.mk.inj htrack).2

/-- An orphan sweep leaves no scope mark in the places it walks over. -/
theorem State.tracked_orphans (ok : s.tableOk) (gs : List Nat) {i q : Nat}
    (hx : (i, q, true) ∈ (s.each gs State.orphanPlace).records.map Circuit.tracked) :
    i ∉ gs ∧ (i, q, true) ∈ s.records.map Circuit.tracked := by
  induction gs generalizing s with
  | nil => exact ⟨by simp, hx⟩
  | cons g gs ih =>
    obtain ⟨hnot, hx⟩ := ih (((State.Tends.refl s).orphanPlace (p := g)).tableOk ok) hx
    obtain ⟨hne, hx⟩ := State.tracked_orphanPlace ok hx
    exact ⟨by simp [hne, hnot], hx⟩

/-- The sweep of a completed roll reaches every record towards its peer (R78). -/
theorem State.not_scoped_completeRoll (ok : s.tableOk) (p : Nat) : ¬ (s.completeRoll p).Scoped p := by
  intro hp
  obtain ⟨x, hx, hfar, hmark⟩ := (State.scoped_iff p _).mp hp
  have swept : (x.place, p, true) ∈ (s.completeRoll p).records.map Circuit.tracked :=
    List.mem_map.mpr ⟨x, hx, by rw [Circuit.tracked, hfar, hmark]⟩
  obtain ⟨hnot, hmem⟩ := State.tracked_orphans (by rwa [State.tableOk, (State.raiseIf_keeps _ _ _).1]) _ swept
  rw [(State.raiseIf_keeps _ _ _).1] at hmem
  obtain ⟨y, hy, e⟩ := List.mem_map.mp hmem
  obtain ⟨hplace, htrack⟩ := Prod.mk.inj e
  obtain ⟨_, _, _, _, _, hcls, _⟩ := ok.inRange hy
  exact hnot (List.mem_map.mpr ⟨y, State.mem_towards hy hcls (Prod.mk.inj htrack).1, hplace⟩)

/-- A roll completes: its channel is IDLE, and no scope mark towards its peer is left. -/
theorem State.Seated.completeRoll (h : s.Seated A T S σ (some p)) (hA : A → σ.Holds p) (ok : T → s.tableOk) :
    (s.completeRoll p).Seated A T S σ none := by
  have idle : (s.updPeer p (fun x => { x with channel := .idle })).Seated A T S σ (some p) :=
    h.updPeer hA (fun ⟨since, verdicts, releases, overrun, _⟩ => ⟨since, verdicts, releases, overrun, rfl⟩)
      fun hne => absurd rfl hne
  have swept : (s.completeRoll p).Seated A T S σ (some p) := idle.raiseIf.each fun _ _ hu => hu.orphanPlace
  exact swept.closes fun hT e => absurd e (State.not_scoped_completeRoll (ok hT) p)

/-- What the channel was before makes no difference to a roll that completes. -/
theorem State.completeRoll_updChannel (c : Channel) (p : Nat) (s : State) :
    (s.updPeer p (fun x => { x with channel := c })).completeRoll p = s.completeRoll p := by
  have same : (s.updPeer p (fun x => { x with channel := c })).updPeer p (fun x => { x with channel := .idle }) =
      s.updPeer p (fun x => { x with channel := .idle }) := by
    unfold State.updPeer
    rw [State.peer_setPeer]
    split <;> simp [State.setPeer]
  unfold State.completeRoll
  rw [same]
  rfl

/-! ### Claims and rolls received -/

theorem State.announce_peers (s : State) : s.announce.peers = s.peers := by
  unfold State.announce
  rcases State.request_cases .beacon { s with sweep := { s.sweep with beaconCount := 0 } } with
    ⟨_, e⟩ | ⟨_, _, e⟩ | ⟨_, _, e⟩ <;> rw [e] <;> rfl

@[simp] theorem State.judgeEnd_peers (s : State) : s.judgeEnd.peers = s.peers := by
  unfold State.judgeEnd
  split
  · rw [State.announce_peers]
    simp
  · rfl

@[simp] theorem State.settleChange_peers (cause : Bool) (s : State) : (s.settleChange cause).peers = s.peers := by
  rcases s.settleChange_cases cause with e | e <;> rw [e] <;> simp

/-- How many verdicts wait for a peer (R65). -/
def State.backlog (p : Nat) (s : State) : Nat := (s.peer p).verdicts.length

theorem State.backlog_congr (h : t.peers = s.peers) : t.backlog p = s.backlog p := by
  rw [State.backlog, State.peer_congr h, State.backlog]

theorem State.backlog_appendVerdict (p : Nat) (v : Verdict) (s : State) :
    (s.appendVerdict p v).backlog p ≤ s.backlog p + 1 := by
  obtain ⟨w, hw⟩ := State.peer_request (.answer p) p (s.updPeer p (fun x => { x with verdicts := x.verdicts ++ [v] }))
  rw [State.backlog, State.appendVerdict, hw, State.peer_updPeer]
  split <;> simp [State.backlog]

theorem State.backlog_completeRoll (p : Nat) (s : State) : (s.completeRoll p).backlog p = s.backlog p := by
  have swept (g : Nat) (u : State) : (u.orphanPlace g).peers = u.peers := by
    unfold State.orphanPlace
    split
    · rfl
    · dsimp only
      split
      · split <;> simp
      · rfl
  unfold State.completeRoll
  dsimp only
  rw [State.backlog, State.peer_congr (State.each_keeps (·.peers) _ _ swept _), State.peer_congr (State.raiseIf_keeps _ _ _).2.2.1,
    State.peer_updPeer]
  split <;> rfl

theorem State.backlog_countClaim (p : Nat) (s : State) : (s.countClaim p).backlog p = s.backlog p := by
  unfold State.countClaim
  split
  · rfl
  · dsimp only
    split
    · rw [State.completeRoll_updChannel, State.backlog_completeRoll]
    · rw [State.backlog, State.peer_updPeer]
      split <;> rfl

theorem State.backlog_answerClaim (p : Nat) (c : Claim) (s : State) :
    (s.answerClaim p c).backlog p ≤ s.backlog p + 1 := by
  have answered {u : State} (v : Verdict) (hu : u.peers = s.peers) : (u.appendVerdict p v).backlog p ≤ s.backlog p + 1 := by
    rw [← State.backlog_congr hu]
    exact u.backlog_appendVerdict p v
  have settled {u : State} (v : Verdict) (cause : Bool) (hu : u.peers = s.peers) :
      ((u.appendVerdict p v).settleChange cause).backlog p ≤ s.backlog p + 1 := by
    rw [State.backlog_congr (State.settleChange_peers _ _)]
    exact answered v hu
  unfold State.answerClaim
  split
  · exact answered _ rfl
  · dsimp only
    split
    · exact answered _ rfl
    · split
      · unfold State.claimMismatched
        split
        · exact settled _ _ (by simp)
        · exact answered _ rfl
      · unfold State.claimMatched
        split
        · exact answered _ rfl
        · exact settled _ _ (by simp)

theorem State.backlog_takeClaim (p : Nat) (roll : Bool) (c : Claim) (s : State) :
    (s.takeClaim p roll c).backlog p ≤ s.backlog p + 1 := by
  unfold State.takeClaim
  split
  · exact s.backlog_appendVerdict p _
  · split
    · rw [State.backlog_countClaim]
      exact s.backlog_answerClaim p c
    · exact s.backlog_answerClaim p c

theorem State.Seated.answerClaim (h : s.Seated A T S σ hole) (hA : A → σ.Holds p)
    (hroom : s.backlog p < 16) {c : Claim} : (s.answerClaim p c).Seated A T S σ hole := by
  have answered {u : State} {v : Verdict} (hu : u.Seated A T S σ hole) (he : u.peers = s.peers) :
      (u.appendVerdict p v).Seated A T S σ hole :=
    hu.appendVerdict hA ((State.backlog_congr he).trans_lt hroom)
  unfold State.answerClaim
  split
  · exact answered h rfl
  · rename_i r _
    have cleared : (s.mapRec r.place (fun x => { x with scopeMark := false })).Seated A T S σ hole :=
      h.mapRec fun _ => ⟨rfl, by rintro ⟨⟩⟩
    refine .ite (fun _ => answered h rfl) fun _ => .ite (fun _ => ?_) fun _ => ?_
    · exact .ite (fun _ => (answered cleared.refuse (by simp)).settleChange) fun _ => answered cleared rfl
    · exact .ite (fun _ => answered cleared rfl) fun _ => (answered cleared.agree (by simp)).settleChange

theorem State.Seated.countClaim (h : s.Seated A T S σ none) (hA : A → σ.Holds p) (ok : T → s.tableOk) :
    (s.countClaim p).Seated A T S σ none := by
  unfold State.countClaim
  split
  · exact h
  · rename_i d n g hc
    have hrange := h.range p
    obtain ⟨_, _, _, _, channel⟩ := hrange
    refine .ite (fun _ => ?_) fun hne => h.updPeer hA (fun ⟨since, verdicts, releases, overrun, _⟩ =>
      ⟨since, verdicts, releases, overrun, ?_⟩) (by rintro _ ⟨⟩)
    · rw [State.completeRoll_updChannel]
      exact (h.opens p).completeRoll hA ok
    · simp only [hc, Channel.inRange, Bool.and_eq_true, decide_eq_true_eq] at channel ⊢
      omega

theorem State.Seated.takeClaim (h : s.Seated A T S σ none) (hA : A → σ.Holds p) (ok : T → s.tableOk)
    (hroom : s.backlog p < 16) {roll : Bool} {c : Claim} : (s.takeClaim p roll c).Seated A T S σ none := by
  have answered := h.answerClaim hA hroom (c := c)
  exact .ite (fun _ => h.appendVerdict hA hroom) fun _ => .ite
    (fun _ => answered.countClaim hA fun hT => ((State.Tends.refl s).answerClaim).tableOk (ok hT)) fun _ => answered

theorem State.Seated.takeClaims (h : s.Seated A T S σ none) (hA : A → σ.Holds p) (ok : T → s.tableOk) {roll : Bool}
    (cs : List Claim) (hroom : s.backlog p + cs.length ≤ 16) :
    (s.each cs (State.takeClaim p roll)).Seated A T S σ none := by
  induction cs generalizing s with
  | nil => exact h
  | cons c cs ih =>
    rw [List.length_cons] at hroom
    have hgrow := s.backlog_takeClaim p roll c
    exact ih (s := s.takeClaim p roll c) (h.takeClaim hA ok (by omega)) (fun hT => ((State.Tends.refl s).takeClaim).tableOk (ok hT)) (by omega)

theorem State.Seated.takeOffer (h : s.Seated A T S σ none) (hA : A → σ.Holds p) (ok : T → s.tableOk) {roll : Bool}
    {cs : List Claim} : (s.takeOffer p roll cs).Seated A T S σ none :=
  .ite (fun hroom => h.takeClaims hA ok cs hroom) fun _ => h.overrun hA

/-- Scope marks are set towards one slot (R76). -/
theorem State.Seated.setScopeMarks (h : s.Seated A T S σ (some p)) {f : Circuit → Circuit}
    (hf : ∀ x, (f x).farSlot = x.farSlot) : (s.mapTowards p f).Seated A T S σ (some p) := by
  refine { h with scope := fun hT q hq hne => h.scope hT q ?_ hne }
  rw [State.scoped_iff] at hq ⊢
  obtain ⟨_, hmem, rfl, hmark⟩ := hq
  obtain ⟨x, hx, rfl⟩ := List.mem_map.mp hmem
  split at hmark
  · rename_i hp
    exact absurd (by rw [if_pos hp, hf, hp]) hne
  · rename_i hp
    exact ⟨x, hx, by rw [if_neg hp], hmark⟩

/-- A roll opens its channel, or, being empty, completes at once (R76). -/
theorem State.Seated.takeRoll (h : s.Seated A T S σ none) (hp : σ.Holds p) (ok : T → s.tableOk) {n : Nat} (hn : n ≤ 64) :
    (s.takeRoll p n).Seated A T S σ none := by
  have marked : (s.mapTowards p (fun r => { r with scopeMark := r.state != .clashed })).Seated A T S σ (some p) :=
    (h.opens p).setScopeMarks fun _ => rfl
  have table : T → (s.mapTowards p (fun r => { r with scopeMark := r.state != .clashed })).tableOk := fun hT =>
    ((State.Tends.refl s).mapTowards (p := p) (f := fun r => { r with scopeMark := r.state != .clashed })
      (fun _ => rfl) fun _ hr => hr).tableOk (ok hT)
  have commute : s.takeRoll p n = if n = 0
      then ((s.mapTowards p (fun r => { r with scopeMark := r.state != .clashed })).updPeer p
        (fun x => { x with channel := .receiving n 0 0 })).completeRoll p
      else (s.mapTowards p (fun r => { r with scopeMark := r.state != .clashed })).updPeer p
        (fun x => { x with channel := .receiving n 0 0 }) := rfl
  rw [commute]
  refine .ite (fun _ => ?_) fun hpos => ?_
  · rw [State.completeRoll_updChannel]
    exact marked.completeRoll (fun _ => hp) table
  · refine State.Seated.closes (marked.updPeer (fun _ => hp) (fun ⟨since, verdicts, releases, overrun, _⟩ =>
      ⟨since, verdicts, releases, overrun, ?_⟩) fun hne => absurd rfl hne) fun hT _ => ?_
    · simp only [Channel.inRange, Bool.and_eq_true, decide_eq_true_eq]
      omega
    · have hlt : p < s.peers.length := by
        obtain ⟨_, hin, _⟩ := hp
        have hsize := h.size hT
        have hcount := h.count
        omega
      rw [State.peer_updPeer, if_pos ⟨rfl, hlt⟩]
      simp

/-! ### Verdicts and releases received -/

theorem State.Seated.verdictRefuse (h : s.Seated A T S σ hole) {c : Cause} : (s.verdictRefuse c r).Seated A T S σ hole :=
  .ite (fun _ => h.refuse.settleChange) fun _ => h

theorem State.Seated.takeVerdict (h : s.Seated A T S σ hole) {v : Verdict} : (s.takeVerdict p v).Seated A T S σ hole := by
  unfold State.takeVerdict
  split
  · exact h.same rfl rfl rfl
  · split
    · unfold State.verdictAccept
      split
      · exact h.verdictRefuse
      · exact .ite (fun _ => h) fun _ => h.agree.settleChange
    · exact h.verdictRefuse
    · exact h.verdictRefuse
    · exact .ite (fun _ => h.raise.moveTo.post.settleChange) fun _ => h
    · exact .ite (fun _ => h) fun _ => h.clash.settleChange

theorem State.Seated.takeRelease (h : s.Seated A T S σ hole) {tag : Nat} : (s.takeRelease p tag).Seated A T S σ hole := by
  unfold State.takeRelease
  split
  · exact h
  · exact h.removeRecord.post.restartRoll.settleChange

/-! ### Peers heard and peers silent (chapter 3) -/

theorem State.Seated.coldRestart (h : s.Seated A T S σ none) (hA : A → σ.Holds p) :
    (s.coldRestart p).Seated A T S σ none := by
  have unmarked : (if (s.peer p).rollOut = .sending then s.clearRollMarks p else s).Seated A T S σ none :=
    .ite (fun _ => h.clearRollMarks) fun _ => h
  have idle := State.Seated.updPeer (f := fun x => { x with rollOut := .none, channel := .idle, wants := .clear })
    (unmarked.opens p) hA (fun ⟨since, verdicts, releases, overrun, _⟩ => ⟨since, verdicts, releases, overrun, rfl⟩)
    fun hne => absurd rfl hne
  have cleared := (idle.emptyLists hA).clearScopeMarks.raise (f := .peerRestart)
  exact .ite (fun _ => cleared.deferMany) fun _ => cleared

/-- A channel is closed, and with it go the scope marks (R58, R79). -/
theorem State.Seated.close (h : s.Seated A T S σ none) (hA : A → σ.Holds p) :
    ((s.updPeer p (fun x => { x with channel := .idle })).clearScopeMarks p).Seated A T S σ none :=
  State.Seated.clearScopeMarks ((h.opens p).updPeer hA
    (fun ⟨since, verdicts, releases, overrun, _⟩ => ⟨since, verdicts, releases, overrun, rfl⟩) fun hne => absurd rfl hne)

theorem State.Seated.warmRestart (h : s.Seated A T S σ none) (hA : A → σ.Holds p) {st : Announced} :
    (s.warmRestart p st).Seated A T S σ none := by
  have owed : (if st = .setup then s else s.oweRoll p).Seated A T S σ none := .ite (fun _ => h) fun _ => h.oweRoll hA
  unfold State.warmRestart State.cutChannel
  split
  · exact owed.raise
  · exact (owed.close hA).raise

theorem State.Seated.recognise (h : s.Seated A T S σ none) (hA : A → σ.Holds p) {epoch : Byte} {st : Announced} :
    (s.recognise p epoch st).Seated A T S σ none := by
  unfold State.recognise
  split
  · exact h
  · exact h.warmRestart hA
  · exact h.warmRestart hA
  · exact h.coldRestart hA
  · exact h.setRollOut hA

/-- A slot that is addressable, once the straps are read, can hold a peer record. -/
theorem State.Seated.holds_of_addressable (h : s.Seated A T S σ hole) (hheld : σ.held = false)
    (haddr : s.addressable p = true) : σ.Holds p := by
  obtain rfl := h.seat
  have : s.ctl.resetHeld = false := hheld
  rw [State.holds_iff]
  simp [this, haddr]

theorem State.Seated.heard (h : s.Seated A T S σ none) (hheld : σ.held = false) {epoch : Byte} {st : Announced} :
    (s.heard p epoch st).Seated A T S σ none := by
  refine .ite (fun haddr => State.Seated.judgeEnd ?_) fun _ => h
  have hA : A → σ.Holds p := fun _ => h.holds_of_addressable hheld haddr
  have recognised : (if s.awake then s.recognise p epoch st else s).Seated A T S σ none :=
    .ite (fun _ => h.recognise hA) fun _ => h
  have met := State.Seated.updPeer
    (f := fun x => { x with presence := .present, sinceHeard := 0, epoch := some epoch, st := some st }) recognised hA
    (fun ⟨_, verdicts, releases, overrun, channel⟩ => ⟨Nat.zero_le _, verdicts, releases, overrun, channel⟩) fun _ e => e
  exact .ite (fun _ => met.pass.checkSingle) fun _ => met

theorem State.Seated.goSilent (h : s.Seated A T S σ none) (hA : A → σ.Holds p) : (s.goSilent p).Seated A T S σ none := by
  have owed : (if (s.peer p).rollOut = .sending then s.oweRoll p else s).Seated A T S σ none :=
    .ite (fun _ => h.oweRoll hA) fun _ => h
  have idle := State.Seated.updPeer (f := fun x => { x with presence := .silent, channel := .idle, wants := .clear })
    (owed.opens p) hA (fun ⟨since, verdicts, releases, overrun, _⟩ => ⟨since, verdicts, releases, overrun, rfl⟩)
    fun hne => absurd rfl hne
  have cleared := (idle.emptyLists hA).dropRequests (p := p) |>.clearScopeMarks
  exact State.Seated.judgeEnd (.ite (fun _ => cleared.deferMany) fun _ => cleared)

end Rules

end Sys2Proof.Machine
end

section
/-! The sweep, the due steps, the shelf line and the rows keep the agreement of O55. -/

namespace Sys2Proof.Machine

section Rules

variable {A T S : Prop} {σ : Seat} {hole : Option Nat} {s t : State} {r : Circuit} {p : Nat}

/-! ### The sweep, the highway frame and the due steps (chapters 3 and 6) -/

/-- A sweep ages every peer record; what a slot beyond the table reads as does not age. -/
theorem State.peer_sweepEvent (q : Nat) (s : State) : s.sweepEvent.peer q = (s.peer q).age s.holding :=
  List.getD_map (f := Peer.age s.holding) (l := s.peers) (d := Peer.start) (n := q)

theorem Peer.age_inRange (holding : Bool) {x : Peer} (h : x.inRange) : (x.age holding).inRange := by
  obtain ⟨since, verdicts, releases, overrun, channel⟩ := h
  refine ⟨?_, verdicts, releases, overrun, ?_⟩
  · simp only [Peer.age, satSucc]
    repeat' split
    all_goals omega
  · cases hc : x.channel with
    | idle => simp [Peer.age, hc, Channel.inRange]
    | receiving d n g =>
      have aged : (x.age holding).channel = .receiving d n (if holding then satSucc 3 g else g) := by simp [Peer.age, hc]
      simp only [hc, aged, Channel.inRange, Bool.and_eq_true, decide_eq_true_eq, satSucc] at channel ⊢
      repeat' split
      all_goals omega

/-- A sweep opens and closes no channel. -/
theorem Peer.age_channel (holding : Bool) (x : Peer) : (x.age holding).channel = .idle ↔ x.channel = .idle := by
  unfold Peer.age
  cases x.channel <;> simp

theorem State.Seated.sweepEvent (h : s.Seated A T S σ hole) : s.sweepEvent.Seated A T S σ hole := by
  have marks : s.sweepEvent.records.map Circuit.scoped = s.records.map Circuit.scoped := by
    unfold State.sweepEvent
    dsimp only
    split
    · rw [List.map_map]
      refine List.map_congr_left fun r _ => ?_
      simp only [Function.comp, Circuit.age]
      split <;> rfl
    · rfl
  refine ⟨h.seat, h.fits, ?_, fun q => ?_, fun hA q hq => ?_, h.size, fun hT q hq hne => ?_⟩
  · simpa [State.sweepEvent] using h.count
  · rw [State.peer_sweepEvent]
    exact Peer.age_inRange _ (h.range q)
  · rw [State.peer_sweepEvent, h.absent hA q hq]
    rfl
  · rw [State.peer_sweepEvent, ne_eq, Peer.age_channel]
    exact h.scope hT q (by rwa [State.Scoped, marks] at hq) hne

theorem State.Seated.takeSweep (h : s.Seated A T S σ hole) : s.takeSweep.Seated A T S σ hole :=
  .ite (fun _ => h.sweepEvent) fun _ => h

theorem State.Seated.highwayFrame (h : s.Seated A T S σ hole) {x : HighwayInput} :
    (s.highwayFrame x).Seated A T S σ hole := by
  refine h.map (Circuit.watch s.ctl.slot x) (fun r => ?_) rfl rfl rfl
  unfold Circuit.watch
  split <;> exact ⟨rfl, id⟩

theorem State.Seated.takeResend (h : s.Seated A T S σ hole) : (s.takeResend p).Seated A T S σ hole := by
  unfold State.takeResend
  split
  · exact h
  · have due : (s.mapRec p (fun x => { x with resendDue := false, claimDue := true })).Seated A T S σ hole :=
      h.mapRec fun _ => ⟨rfl, id⟩
    exact .ite (fun _ => .ite (fun _ => due.checkSingle) fun _ => h.raise.moveTo.post.settleChange) fun _ => h

theorem State.Seated.takeSilence (h : s.Seated A T S σ none) : (s.takeSilence p).Seated A T S σ none := by
  refine .ite (fun hdue => h.goSilent (h.holds_of_presence ?_)) fun _ => h
  simp only [Peer.silenceDue, Bool.and_eq_true, beq_iff_eq] at hdue
  simp [hdue.1]

theorem State.Seated.takeBeacon (h : s.Seated A T S σ hole) : s.takeBeacon.Seated A T S σ hole :=
  .ite (fun _ => h.announce) fun _ => h

theorem State.Seated.takeAbandon (h : s.Seated A T S σ none) : (s.takeAbandon p).Seated A T S σ none := by
  refine .ite (fun hdue => (h.close (h.holds fun e => ?_)).raise) fun _ => h
  rw [e] at hdue
  cases hdue

theorem State.Seated.takeListenEnd (h : s.Seated A T S σ hole) : s.takeListenEnd.Seated A T S σ hole := by
  have ended : State.Seated A T S σ hole { s with ctl := { s.ctl with listenOver := true } } :=
    h.change rfl h.fits rfl fun _ => id
  exact .ite (fun _ => ended.passAll.deferMany.judgeEnd) fun _ => h

theorem State.Seated.takeCompletion (h : s.Seated A T S σ hole) : s.takeCompletion.Seated A T S σ hole := by
  refine .ite (fun _ => ?_) fun _ => h
  split
  · exact h
  · exact h.completeProbe

theorem State.Seated.takeEcho (h : s.Seated A T S σ hole) : s.takeEcho.Seated A T S σ hole := by
  refine .ite (fun _ => ?_) fun _ => h
  split
  · exact h
  · exact h.laneFault.settleChange

theorem State.Seated.settleDue (h : s.Seated A T S σ none) : s.settleDue.Seated A T S σ none := by
  have silent := (h.each (xs := List.range 24) fun p _ hu => hu.takeSilence (p := p)).takeBeacon
  have resent {ps : List Nat} := silent.each (xs := ps) fun p _ hu => hu.takeResend (p := p)
  have abandoned {ps : List Nat} := (resent (ps := ps)).each (xs := List.range 24) fun p _ hu => hu.takeAbandon (p := p)
  exact (abandoned.takeListenEnd.each fun _ _ hu => hu.takeCompletion).each fun _ _ hu => hu.takeEcho

theorem State.Seated.resendTag (h : s.Seated A T S σ hole) {tag : Nat} : (s.resendTag tag).Seated A T S σ hole := by
  unfold State.resendTag
  split
  · exact h
  · exact h.takeResend

theorem State.Seated.expirePace (h : s.Seated A T S σ hole) : s.expirePace.Seated A T S σ hole := by
  unfold State.expirePace
  dsimp only
  refine .ite (fun _ => State.Seated.settleChange ?_) fun _ => h
  split
  · exact h.credit.startCount
  · exact h.credit.stopTimer

/-! ### The shelf line (chapter 7) -/

/-- A ROLL that is built is releasable, so its roll is owed to a peer that stands in the table (R66, R68). -/
theorem State.Seated.build (h : s.Seated A T S σ hole) {req : Request} (hcarry : s.nothingToCarry req = false) :
    (s.build req).Seated A T S σ hole := by
  cases req with
  | roll p =>
    have owed : (s.peer p).rollOut ≠ .none := by
      simp only [State.nothingToCarry, State.releasable, Bool.not_eq_false', Bool.and_eq_true, beq_iff_eq] at hcarry
      obtain ⟨⟨owed, _⟩, _⟩ := hcarry
      simp [owed]
    have marked : (s.mapTowards p (fun r => if r.state = .clashed then r else { r with rollMark := true })).Seated A T S σ
        hole := h.mapTowards fun r => by split <;> exact ⟨rfl, id⟩
    exact (marked.setRollOut (x := .sending) (h.holds_of_rollOut owed)).same rfl rfl rfl
  | beacon | rollOffer | singleOffer | answer | release => exact h.same rfl rfl rfl

theorem State.Seated.passedOver (h : s.Seated A T S σ hole) {req : Request} : (s.passedOver req).Seated A T S σ hole := by
  cases req with
  | rollOffer p =>
    exact .ite (fun hsend => (h.setRollOut (h.holds_of_rollOut (by simp [hsend]))).judgeEnd) fun _ => h
  | beacon | roll | singleOffer | answer | release => exact h

/-- A want mark stands in the record of a slot that can hold one. -/
theorem State.Seated.holds_of_wanted (h : s.Seated A T S σ hole) {req : Request} (hw : s.wanted req = true)
    (p : Nat) (hp : req.peer = some p) (hA : A) : σ.Holds p := by
  refine h.holds (fun e => ?_) hA
  cases req <;> cases hp <;> simp only [State.wanted, e] at hw <;> cases hw

theorem State.Seated.convertWant (h : s.Seated A T S σ hole) {req : Request} : (s.convertWant req).Seated A T S σ hole := by
  refine .ite (fun hw => ?_) fun _ => h
  rw [Bool.and_eq_true] at hw
  have holds := h.holds_of_wanted hw.2
  exact (h.setWant holds).request holds

theorem State.Seated.convertWants (h : s.Seated A T S σ hole) : s.convertWants.Seated A T S σ hole :=
  h.each fun _ _ hu => hu.convertWant

theorem State.Seated.takeTurns (h : s.Seated A T S σ hole) (n : Nat) : (s.takeTurns n).Seated A T S σ hole := by
  induction n generalizing s with
  | zero => exact h
  | succ n ih =>
    have free : State.Seated A T S σ hole { s with line := { s.line with out := .released } } := h.same rfl rfl rfl
    unfold State.takeTurns
    split
    · exact free.convertWants
    · exact .ite (fun _ => ih h.setQueue.passedOver) fun hcarry => h.build (Bool.eq_false_iff.mpr hcarry)

theorem State.Seated.takePosition (h : s.Seated A T S σ hole) {pos : Nat} : (s.takePosition pos).Seated A T S σ hole :=
  .ite (fun _ => h.takeTurns _) fun _ => h

theorem State.Seated.claimsSent (h : s.Seated A T S σ hole) {roll : Bool} {places : List Nat} :
    (s.claimsSent roll places).Seated A T S σ hole := .ite (fun _ => h.each fun _ _ hu => hu.claimSent) fun _ => h

/-- A list gets shorter; an empty one stays as it is (R84, R88). -/
theorem State.Seated.trim (h : s.Seated A T S σ hole) {f : Peer → Peer} (hstart : f Peer.start = Peer.start)
    (hf : (s.peer p).inRange → (f (s.peer p)).inRange) (hc : (f (s.peer p)).channel = (s.peer p).channel) :
    (s.updPeer p f).Seated A T S σ hole := by
  refine h.update (fun hA => ?_) hf fun _ e => hc ▸ e
  by_cases e : s.peer p = Peer.start
  · exact .inr (e ▸ hstart)
  · exact .inl (h.holds e hA)

theorem State.Seated.sentEffects (h : s.Seated A T S σ hole) {f : InFlight} : (s.sentEffects f).Seated A T S σ hole := by
  unfold State.sentEffects
  split
  · exact h
  · split
    · rename_i p _ _ hsend
      have holds := h.holds_of_rollOut (p := p) (by simp [hsend])
      exact .ite (fun _ => h.requestFor rfl holds) fun _ => (h.setRollOut holds).judgeEnd
    · exact h.pass
    · exact h
  · rename_i p _
    have sent : (s.claimsSent true f.carried).Seated A T S σ hole := h.claimsSent
    refine .ite (fun hsend => ?_) fun _ => sent
    have holds := sent.holds_of_rollOut (p := p) (by simp [hsend])
    exact .ite (fun _ => sent.requestFor rfl holds) fun _ => (sent.setRollOut holds).judgeEnd
  · exact h.claimsSent.checkSingle
  · rename_i p _
    have trimmed := State.Seated.trim (p := p) (f := fun x => { x with verdicts := x.verdicts.drop f.items }) h
      (by simp [Peer.start]) (fun ⟨since, verdicts, releases, overrun, channel⟩ =>
        ⟨since, (List.drop_sublist _ _).length_le.trans verdicts, releases, overrun, channel⟩) rfl
    refine .ite (fun _ => trimmed) fun hne => trimmed.requestFor rfl (trimmed.holds fun e => hne ?_)
    rw [e]
    rfl
  · rename_i p _
    have trimmed := State.Seated.trim (p := p) (f := fun x => { x with releases := x.releases.drop f.items }) h
      (by simp [Peer.start]) (fun ⟨since, verdicts, releases, overrun, channel⟩ =>
        ⟨since, verdicts, (List.drop_sublist _ _).length_le.trans releases, overrun, channel⟩) rfl
    refine .ite (fun _ => trimmed) fun hne => trimmed.requestFor rfl (trimmed.holds fun e => hne ?_)
    rw [e]
    rfl

theorem State.Seated.takeSentWhole (h : s.Seated A T S σ hole) : s.takeSentWhole.Seated A T S σ hole := by
  unfold State.takeSentWhole
  split
  · exact h
  · rename_i f _
    have free : State.Seated A T S σ hole { s with line := { s.line with out := .released } } := h.same rfl rfl rfl
    unfold State.sentWhole
    dsimp only
    refine State.Seated.passAll (State.Seated.convertWants (State.Seated.same
      (s := State.sentEffects f (if f.queued = true then _ else _)) (State.Seated.sentEffects ?_) rfl rfl rfl))
    exact .ite (fun _ => free.setQueue) fun _ => free

theorem State.Seated.jamFrame (h : s.Seated A T S σ hole) : s.jamFrame.Seated A T S σ hole := by
  unfold State.jamFrame
  split
  · exact h
  · rename_i f _
    have jammed : State.Seated A T S σ hole { s with line := { s.line with out := .jam } } := h.same rfl rfl rfl
    cases hreq : f.req with
    | roll p =>
      have owed : (if (State.peer p { s with line := { s.line with out := .jam } }).rollOut = .sending
          then State.oweRoll p { s with line := { s.line with out := .jam } }
          else { s with line := { s.line with out := .jam } }).Seated A T S σ hole :=
        .ite (fun hsend => jammed.oweRoll (jammed.holds_of_rollOut (by simp [hsend]))) fun _ => jammed
      exact .ite (fun _ => owed.pass) fun _ => owed
    | beacon | rollOffer | singleOffer | answer | release => exact jammed

theorem State.Seated.takeCollision (h : s.Seated A T S σ hole) : s.takeCollision.Seated A T S σ hole := by
  have collided : State.Seated A T S σ hole { s with line := s.line.collide } := h.same rfl rfl rfl
  exact .ite (fun _ => collided.jamFrame.raiseIf.judgeLamp) fun _ => h

/-- What is acted on comes from a slot that can hold a peer record (R80). -/
theorem State.Seated.actOn {α : Type} (h : s.Seated A T S σ hole) (hheld : σ.held = false) {src : Nat} {read : Option α}
    {act : α → State → State} (ha : ∀ x, read = some x → σ.Holds src → (act x s).Seated A T S σ hole) :
    (s.actOn src read act).Seated A T S σ hole := by
  unfold State.actOn
  split
  · exact h.lineError
  · exact .ite (fun haddr => ha _ rfl (h.holds_of_addressable hheld haddr)) fun _ => h

/-- A ROLL declares at most 64 claims (R82). -/
theorem readRoll_le {payload : List Byte} {n : Nat} (h : readRoll payload = some n) : n ≤ 64 := by
  unfold readRoll at h
  split at h
  · split at h
    · cases h
      assumption
    · cases h
  · cases h

theorem State.Seated.handOn (h : s.Seated A T S σ none) (hheld : σ.held = false) (ok : T → s.tableOk) {kind : Byte}
    {f : LineFrame} : (s.handOn kind f).Seated A T S σ none := by
  -- the branches in the order of R143: misaddressed, BEACON, unknown kind, broadcast, OFFER, the rest
  refine .ite (fun _ => h) fun _ => .ite (fun _ => .ite (fun _ => h) fun _ => h.lineError) fun _ =>
    .ite (fun _ => h.lineError) fun _ => .ite (fun _ => h.lineError) fun _ => .ite (fun _ => .ite (fun _ => ?_) fun _ => h)
    fun _ => .ite (fun _ => ?_) fun _ => h
  · exact h.actOn hheld fun _ _ hp => h.takeOffer (fun _ => hp) ok
  · exact .ite (fun _ => h.actOn hheld fun _ hread hp => h.takeRoll hp ok (readRoll_le hread)) fun _ =>
      .ite (fun _ => h.actOn hheld fun _ _ _ => h.each fun _ _ hu => hu.takeVerdict) fun _ =>
        h.actOn hheld fun _ _ _ => h.each fun _ _ hu => hu.takeRelease

theorem State.Seated.receive (h : s.Seated A T S σ none) (ok : T → s.tableOk) {kind : Byte} {f : LineFrame} :
    (s.receive kind f).Seated A T S σ none := by
  refine .ite (fun _ => h) fun hheld => ?_
  have hheld : σ.held = false := by
    obtain rfl := h.seat
    exact Bool.eq_false_iff.mpr hheld
  have named : State.Seated A T S σ none { s with line := { s.line with lastSender := f.src } } := h.same rfl rfl rfl
  refine (named.heard hheld).handOn hheld fun hT => State.Tends.tableOk (s := s) (State.Tends.heard ?_) (ok hT)
  exact (State.Tends.refl s).frame rfl rfl

theorem State.Seated.tick (h : s.Seated A T S σ none) : s.tickLamp.tickPace.tickSweep.Seated A T S σ none := by
  have lamp : s.tickLamp.Seated A T S σ none := h.same (by simp) (by simp) (by simp)
  have pace : s.tickLamp.tickPace.Seated A T S σ none := by
    unfold State.tickPace
    split
    · exact lamp
    · exact .ite (fun _ => lamp.expirePace) fun _ => lamp.same rfl rfl rfl
  unfold State.tickSweep
  split
  · exact pace
  · exact .ite (fun _ => pace.takeSweep) fun _ => pace.same rfl rfl rfl

end Rules

end Sys2Proof.Machine
end

section
/-! Changes of the station state, the commands and the rows keep the agreement of O55. -/

namespace Sys2Proof.Machine

section Stations

variable {A T S : Prop} {σ : Seat} {s t : State}

/-! ### QUIESCE and recovery (R158, R160) -/

theorem State.Seated.unprobe (h : s.Seated A T S σ none) {g : Nat} : (s.unprobe g).Seated A T S σ none := by
  unfold State.unprobe
  split
  · exact h
  · exact .ite (fun _ => h.moveTo.settleChange) fun _ => h

theorem State.Seated.enterQuiesce (h : s.Seated A T S σ none) (hfits : S → σ.Fits .quiesce) {a : Announced} :
    (s.enterQuiesce a).Seated A T S σ none := by
  have left : State.Seated A T S σ none { s with ctl := { s.ctl with ret := some a } } :=
    h.change rfl h.fits rfl fun _ => id
  exact State.Seated.same ((left.setStation hfits).jamFrame.each fun _ _ hu => hu.unprobe) rfl rfl rfl

theorem State.Seated.writePending (h : s.Seated A T S σ none) : s.writePending.Seated A T S σ none :=
  .ite (fun _ => h.map (fun r => if r.clashPending then { r with clashMark := true, clashPending := false } else r)
    (fun r => by split <;> exact ⟨rfl, id⟩) rfl rfl rfl) fun _ => h

theorem State.Seated.letGo (h : s.Seated A T S σ none) : s.letGo.Seated A T S σ none :=
  .ite (fun _ => (h.passAll.each fun _ _ hu => hu.checkSingle).attempt) fun _ => h

theorem State.Seated.recover (h : s.Seated A T S σ none) {a : Announced} (hfits : S → σ.Fits (stationOf a)) :
    (s.recover a).Seated A T S σ none := by
  have left : State.Seated A T S σ none { s with ctl := { s.ctl with ret := none } } :=
    h.change rfl h.fits rfl fun _ => id
  have written := (left.setStation hfits).raise (f := .recover) |>.writePending
  have resumed : (State.resumeTimer _).Seated A T S σ none :=
    written.same (State.resumeTimer_keeps _).1 (by simp) (by simp)
  exact resumed.announce.letGo.judgeEnd

/-- A station that takes conversions leaves its station state for QUIESCE, or QUIESCE for its return state, only once the
straps are read and outside STRAP FAULT (R158, R160). -/
theorem State.Seated.convert (h : s.Seated A T S σ none) (millivolts : Nat) :
    (s.convert millivolts).Seated A T S σ none := by
  refine .ite (fun _ => h) fun hheld => ?_
  have counted : State.Seated A T S σ none { s with supply := s.supply.take s.threshold (sampleOf millivolts) } :=
    h.same rfl rfl rfl
  have fits (hst : s.ctl.st ≠ .strapFault) (x : StationState) (hS : S) : σ.Fits x := by
    refine (h.fits hS).move (fun e => ?_) hst x
    obtain rfl := h.seat
    exact absurd e hheld
  dsimp only
  refine .ite (fun _ => ?_) fun _ => .ite (fun hrec => ?_) fun _ => counted
  · split
    · rename_i ha
      exact counted.enterQuiesce (fits (by rintro e; simp [announcedOf, e] at ha) _)
    · exact counted
  · have hst : s.ctl.st = .quiesce := by simp at hrec; exact hrec.2
    split
    · exact counted.recover (fits (by simp [hst]) _)
    · exact counted

/-! ### Starts, GO and PURGE (R149 to R154, R161) -/

/-- Addressable peers that are owed a roll: the straps are read (R52). -/
theorem State.Seated.oweAll (h : s.Seated A T S σ none) (hheld : σ.held = false) : s.oweAll.Seated A T S σ none := by
  have peer (q : Nat) : s.oweAll.peer q = s.peer q ∨
      (s.addressable q = true ∧ s.oweAll.peer q = { s.peer q with rollOut := .owed }) := by
    simp only [State.peer, State.oweAll, List.getD_eq_getElem?_getD, List.getElem?_mapIdx]
    cases s.peers[q]? with
    | none => exact .inl rfl
    | some x => by_cases e : s.addressable q = true <;> simp [e]
  refine ⟨h.seat, h.fits, ?_, fun q => ?_, fun hA q hq => ?_, h.size, fun hT q hq hne => ?_⟩
  · simpa [State.oweAll] using h.count
  · rcases peer q with e | ⟨_, e⟩ <;> rw [e] <;> exact h.range q
  · rcases peer q with e | ⟨haddr, _⟩
    · exact e.trans (h.absent hA q hq)
    · exact absurd (h.holds_of_addressable hheld haddr) hq
  · have hopen := h.scope hT q hq hne
    rcases peer q with e | ⟨_, e⟩ <;> rw [e] <;> exact hopen

theorem State.Seated.enterRelink (h : s.Seated A T S σ none) (hheld : σ.held = false) (hfits : S → σ.Fits .relink) :
    s.enterRelink.Seated A T S σ none := by
  have listening : State.Seated A T S σ none { s with ctl := { s.ctl with listenCount := 0, listenOver := false } } :=
    h.change rfl h.fits rfl fun _ => id
  have announced := ((listening.setStation hfits).oweAll hheld).announce
  exact State.Seated.same (t := State.relinkTimer _) announced (by simp) (by simp) (by simp)

theorem State.Seated.enterSetup (h : s.Seated A T S σ none) (hfits : S → σ.Fits .setup) :
    s.enterSetup.Seated A T S σ none := (h.setStation hfits).announce.raise

theorem Circuit.not_scoped_fresh (r : Circuit) : r.fresh.scopeMark = false := rfl

/-- The relink fields discarded: no scope mark is left (R3, R48). -/
theorem State.Seated.freshLinks (h : s.Seated A T S σ none) : s.freshLinks.Seated A T S σ none :=
  h.map Circuit.fresh (fun r => ⟨rfl, fun e => by rw [r.not_scoped_fresh] at e; cases e⟩) rfl rfl rfl

/-- The table emptied (R18). -/
theorem State.Seated.coldRewrite (h : s.Seated A T S σ none) : s.coldRewrite.Seated A T S σ none :=
  h.frame rfl rfl fun _ hq => absurd hq (List.not_mem_nil)

theorem State.Seated.freshInterval (h : s.Seated A T S σ none) : s.freshInterval.Seated A T S σ none :=
  h.same rfl rfl rfl

/-- A start that may end is in STARTING with the straps read (R151). -/
theorem State.Seated.of_startDue (h : s.Seated A T S σ none) (hdue : s.startDue = true) :
    σ.held = false ∧ ∀ x, S → σ.Fits x := by
  have hst := State.startDue_starting hdue
  obtain rfl := h.seat
  have hheld : s.ctl.resetHeld = false := by
    simp only [State.startDue, Bool.and_eq_true, Bool.not_eq_true'] at hdue
    obtain ⟨⟨_, hheld⟩, _⟩ := hdue
    exact hheld
  exact ⟨hheld, fun x hS => (h.fits hS).move (fun e => by simp [State.seat, hheld] at e) (by simp [hst]) x⟩

theorem State.Seated.endWarm (h : s.Seated A T S σ none) (hdue : s.startDue = true) : s.endWarm.Seated A T S σ none := by
  obtain ⟨hheld, fits⟩ := h.of_startDue hdue
  have epoch : (State.closeEdit { s with store := { s.store with epoch := s.store.epoch + 1 } }).Seated A T S σ none :=
    h.same rfl rfl rfl
  exact (epoch.freshLinks.freshInterval.enterRelink hheld (fits _)).raise

theorem State.Seated.endCold (h : s.Seated A T S σ none) (hdue : s.startDue = true) : s.endCold.Seated A T S σ none := by
  obtain ⟨_, fits⟩ := h.of_startDue hdue
  exact h.coldRewrite.freshInterval.enterSetup (fits _)

/-- Every peer record at its start values (R52, R161), and no scope mark. -/
theorem State.Seated.blank (hfits : S → σ.Fits t.ctl.st) (hsize : T → σ.size ≤ 24) (hseat : t.seat = σ)
    (hp : t.peers = List.replicate 24 Peer.start) (hm : ∀ q, ¬ t.Scoped q) : t.Seated A T S σ none := by
  have peer (q : Nat) : t.peer q = Peer.start := by
    rw [State.peer, hp, List.getD_eq_getElem?_getD, List.getElem?_replicate]
    split <;> rfl
  refine ⟨hseat, hfits, by rw [hp, List.length_replicate], fun q => ?_, fun _ q _ => peer q, hsize,
    fun _ q hq _ => absurd hq (hm q)⟩
  rw [peer]
  decide

theorem State.not_scoped_of_fresh {rs : List Circuit} (h : t.records = rs.map Circuit.fresh) (q : Nat) : ¬ t.Scoped q := by
  rw [State.scoped_iff, h]
  rintro ⟨_, hx, _, hmark⟩
  obtain ⟨x, _, rfl⟩ := List.mem_map.mp hx
  rw [x.not_scoped_fresh] at hmark
  cases hmark

/-- A start discards every peer record and every scope mark; the reset cause persists in STARTING (R149). -/
theorem State.Seated.enterStarting (h : s.Seated A T S σ none) (cut : EditCut) :
    (s.enterStarting cut).Seated A T S (s.enterStarting cut).seat none := by
  obtain rfl := h.seat
  refine .blank (fun _ => ⟨fun _ => rfl, ?_⟩) h.size rfl rfl (State.not_scoped_of_fresh rfl)
  rintro ⟨⟩

/-- The four shelf sizes (0.7). -/
theorem shelfSize_le (pins : Nat) : shelfSize pins ≤ 24 := by
  unfold shelfSize
  repeat' split
  all_goals decide

/-- Until the straps are read no slot holds a peer record, so whatever they read, none is lost (R52, R150). -/
theorem State.Seated.readStraps (h : s.Seated A T S σ none) (slotPins sizePins : Nat) :
    (s.readStraps slotPins sizePins).Seated A T S (s.readStraps slotPins sizePins).seat none := by
  obtain rfl := h.seat
  unfold State.readStraps
  by_cases hdue : s.ctl.st = .starting ∧ s.ctl.resetHeld = true
  · have hheld : s.seat.held = true := hdue.2
    have absent (hA : A) (q : Nat) : s.peer q = Peer.start := h.absent hA q fun ⟨hread, _⟩ => by
      rw [hheld] at hread
      cases hread
    have read (u : State) (hr : u.records = s.records) (hp : u.peers = s.peers) (hsize : u.ctl.size = shelfSize sizePins)
        (hfits : u.seat.Fits u.ctl.st) : u.Seated A T S u.seat none := by
      have peer := State.peer_congr hp
      refine ⟨rfl, fun _ => hfits, hp ▸ h.count, fun q => peer q ▸ h.range q, fun hA q _ => (peer q).trans (absent hA q),
        fun _ => ?_, fun hT q hq hne => ?_⟩
      · show u.ctl.size ≤ 24
        rw [hsize]
        exact shelfSize_le sizePins
      · rw [peer]
        exact h.scope hT q (by rwa [State.Scoped, hr] at hq) hne
    rw [if_pos hdue]
    dsimp only
    split
    · refine read _ (by simp) (by simp) (by simp [State.setStation]) ⟨fun e => ?_, fun _ e => ?_⟩
      · simp [State.seat, State.setStation] at e
      · simp [State.setStation] at e
    · rename_i hlt
      exact read _ rfl rfl rfl ⟨by rintro ⟨⟩, fun _ _ => Nat.not_le.mp hlt⟩
  · rw [if_neg hdue]
    exact h

theorem State.Seated.takePurge (h : s.Seated A T S σ none) (hfits : S → σ.Fits .setup) :
    s.takePurge.Seated A T S σ none := by
  refine State.Seated.enterSetup (State.Seated.blank (fun hS => ?_) h.size ?_ rfl fun q hq => absurd hq List.not_mem_nil)
    hfits
  · exact h.fits hS
  · exact h.seat

/-! ### Settling -/

theorem State.Seated.settle (h : s.Seated A T S σ none) : s.settle.Seated A T S σ none := by
  unfold State.settle
  rw [State.settleAll_eq]
  refine .ite (fun _ => State.Seated.settleDue ?_) fun _ => h
  exact .ite (fun hdue => .ite (fun _ => h.endWarm hdue) fun _ => h.endCold hdue) fun _ => h

/-! ### Commands at the card port -/

/-- A record enters the table without a scope mark (R7). -/
theorem State.Seated.takeProvision (h : s.Seated A T S σ none) (f : ProvisionFields) (g : Nat) :
    (s.takeProvision f g).Seated A T S σ none := by
  have entered : (State.closeEdit { s with records := s.records ++ [s.newRecord f g] }).Seated A T S σ none := by
    refine h.frame rfl rfl fun q hq => ?_
    rw [State.scoped_iff] at hq ⊢
    obtain ⟨x, hx, hfar, hmark⟩ := hq
    rcases List.mem_append.mp hx with hx | hx
    · exact ⟨x, hx, hfar, hmark⟩
    · obtain rfl := List.mem_singleton.mp hx
      cases hmark
  exact .ite (fun _ => entered.checkSingle.restartRoll.settleChange) fun _ => entered

/-- A DROP that needs a RELEASE is taken where there is room for its tag (R10). -/
theorem State.Seated.takeDrop (h : s.Seated A T S σ none) {r : Circuit}
    (hroom : s.releaseNeeded r = true → (s.peer r.farSlot).releases.length < 16) :
    (s.takeDrop r).Seated A T S σ none := by
  have removed := h.removeRecord (r := r)
  refine State.Seated.settleChange (State.Seated.restartRoll (.ite (fun hneed => ?_) fun _ => removed))
  refine removed.appendRelease (h.holds_of_presence ?_) ?_
  · obtain ⟨_, present⟩ := (s.releaseNeeded_iff r).mp hneed
    simp [present]
  · rw [State.peer_congr (State.removeRecord_keeps r s).1]
    exact hroom hneed

theorem State.Seated.takeRearm (h : s.Seated A T S σ none) {r : Circuit} : (s.takeRearm r).Seated A T S σ none := by
  have unclashed : (s.unclash r).Seated A T S σ none := State.Seated.closeEdit (h.mapRec fun _ => ⟨rfl, id⟩)
  cases hup : (s.peer r.farSlot).up
  · rw [State.takeRearm_down hup]
    exact unclashed.enter.enter.settleChange
  · rw [State.takeRearm_up hup]
    exact unclashed.enter.checkSingle.settleChange

/-- Every command that is taken, once the straps are read, keeps the agreement. -/
theorem CardCommand.judge_seated {c : CardCommand} (h : s.Seated A T S σ none) (hheld : σ.held = false) {p : List Byte}
    (hj : c.judge s = .take t p) : t.Seated A T S σ none := by
  unfold CardCommand.judge at hj
  split at hj
  · cases hj
  rename_i hgate
  have fits (hst : s.ctl.st ≠ .strapFault) (x : StationState) (hS : S) : σ.Fits x :=
    (h.fits hS).move (fun e => by simp [hheld] at e) hst x
  cases c <;> simp only [CardCommand.run] at hj
  case nop => cases hj
  case status => cases hj; exact h
  case configure c =>
    unfold State.doConfigure at hj
    split at hj <;> cases hj
    exact h.same rfl rfl rfl
  case go =>
    cases hj
    exact h.enterRelink hheld (fits (fun e => by simp [CardCommand.gate, e] at hgate) _)
  case provision f =>
    unfold State.doProvision at hj
    split at hj <;> cases hj
    exact h.takeProvision f _
  case drop tag =>
    unfold State.doDrop at hj
    split at hj
    · cases hj
    · split at hj <;> cases hj
      rename_i hroom
      refine h.takeDrop fun hneed => Nat.not_le.mp fun hfull => hroom ?_
      rw [hneed, Bool.true_and]
      exact decide_eq_true hfull
  case rearm tag =>
    unfold State.doRearm at hj
    split at hj
    · cases hj
    · split at hj <;> cases hj
      exact h.takeRearm
  case query tag => unfold State.doQuery at hj; split at hj <;> cases hj; exact h
  case readEntry cls index =>
    unfold State.doReadEntry at hj
    split at hj
    · cases hj
    · split at hj <;> cases hj
      exact h
  case readPeer slot => unfold State.doReadPeer at hj; split at hj <;> cases hj; exact h
  case readNotices => cases hj; exact h.same rfl rfl rfl
  case readEvents => cases hj; exact h.same rfl rfl rfl
  case setEnables w => cases hj; exact h.same rfl rfl rfl
  case setPace reload mode =>
    unfold State.doSetPace at hj
    split at hj <;> cases hj
    exact h.same (by simp) (by simp) (by simp)
  case stepPace =>
    unfold State.doStep at hj
    split at hj
    · cases hj
    · split at hj <;> cases hj
      · exact h
      · exact h.startCount
  case purge =>
    cases hj
    exact h.takePurge (fits (fun e => by simp [CardCommand.gate, CardCommand.gate.readGate, e] at hgate) _)
  case unmute => cases hj; exact h.same (by simp) (by simp) (by simp)

theorem State.Seated.transfer (h : s.Seated A T S σ none) (c : CardCommand) (k : Nat) :
    (s.transfer c k).Seated A T S σ none := by
  refine .ite (fun _ => h.same rfl rfl rfl) fun hdead => ?_
  have hheld : σ.held = false := by
    obtain rfl := h.seat
    rw [State.portDead, Bool.or_eq_true, not_or] at hdead
    exact Bool.eq_false_iff.mpr hdead.1
  have ended : (s.endTransfer (c.record.length + k)).Seated A T S σ none := h.same rfl rfl rfl
  rcases (s.endTransfer (c.record.length + k)).takeCommand_cases c with ⟨r, p, _, e⟩ | ⟨t, p, hj, e⟩ | ⟨_, e⟩ <;> rw [e]
  · exact ended.same rfl rfl rfl
  · exact (CardCommand.judge_seated ended hheld hj).same rfl rfl rfl
  · exact ended

theorem State.Seated.rejectTransfer (h : s.Seated A T S σ none) (bytes : List Byte) :
    (s.rejectTransfer bytes).Seated A T S σ none := by
  unfold State.rejectTransfer
  dsimp only
  repeat' split
  all_goals exact h.same rfl rfl rfl

/-! ### The rows -/

/-- Every row keeps the agreement; a start and the strap readings give the station another seat. -/
theorem exec_seated (c : Instr) (h : s.Seated A T S s.seat none) (ok : T → s.tableOk) (he : exec c s = .next t) :
    t.Seated A T S t.seat none := by
  have onSeat {σ : Seat} {u : State} (hu : u.Seated A T S σ none) : u.Seated A T S u.seat none := hu.seat.symm ▸ hu
  have settled := h.settle
  cases c <;> cases he
  case nop | status | configure | go | provision | drop | rearm | query | readEntry | readPeer | readNotices |
      readEvents | setEnables | setPace | stepPace | purge | unmute =>
    exact onSeat (settled.transfer _ _)
  case rejectedRecord bytes => exact onSeat (settled.rejectTransfer bytes)
  case start cause cut => exact settled.enterStarting cut
  case strapRead slotPins sizePins => exact (onSeat settled).readStraps slotPins sizePins
  case warmStart =>
    refine onSeat (σ := s.seat) (.ite (fun hdue => h.endWarm ?_) fun _ => h)
    rw [Bool.and_eq_true] at hdue
    exact hdue.1
  case coldStart =>
    refine onSeat (σ := s.seat) (.ite (fun hdue => h.endCold ?_) fun _ => h)
    rw [Bool.and_eq_true] at hdue
    exact hdue.1
  case keepAliveClear => exact onSeat (settled.same (t := s.settle.clearKeepAlive) rfl rfl rfl)
  case conversionResult millivolts => exact onSeat (settled.convert millivolts)
  case sweep => exact onSeat settled.takeSweep
  case peerSilent => exact onSeat h.takeSilence
  case beaconDue => exact onSeat h.takeBeacon
  case claimResend => exact onSeat h.resendTag
  case rollAbandon => exact onSeat h.takeAbandon
  case listenIntervalEnd => exact onSeat h.takeListenEnd
  case paceExpiry => exact onSeat settled.expirePace
  case probeCompletion => exact onSeat h.takeCompletion
  case echoFault => exact onSeat h.takeEcho
  case linePosition => exact onSeat settled.takePosition
  case frameSentWhole => exact onSeat settled.takeSentWhole
  case collision => exact onSeat settled.takeCollision
  case beaconReceived | rollReceived | offerReceived | answerReceived | releaseReceived | otherFrameReceived =>
    exact onSeat (settled.receive fun hT => s.settle_ok.1 (ok hT))
  case badFrameReceived => exact onSeat (.ite (fun _ => settled) fun _ => .ite (fun _ => settled.lineError) fun _ => settled)
  case jamReceived => exact onSeat settled
  case lampPeriod => exact onSeat (settled.same (t := s.settle.newLampPeriod) (by simp) (by simp) (by simp))
  case highwayFrame => exact onSeat settled.highwayFrame
  case chipSelectAsserted => exact onSeat (settled.same (t := s.settle.assertSelect) (by simp) (by simp) (by simp))

end Stations

end Sys2Proof.Machine

open Sys2Proof Sys2Proof.Machine

/-- Settles O55: one millisecond and every row keep the agreement, on whatever seat the station is. -/
theorem peersKept : Obligations.PeersKept := by
  intro s t peers hstep
  have before := State.seated peers
  suffices t.Seated s.absentOk (s.tableOk ∧ s.scopeOk) s.slotOk t.seat none by
    obtain ⟨peers, absent, scope, slot⟩ := this.parts
    exact ⟨peers, absent, fun table marks => scope ⟨table, marks⟩, slot⟩
  unfold step at hstep
  split at hstep
  · cases hstep
    have ticked := before.settle.tick
    exact ticked.seat.symm ▸ ticked
  · rename_i c rest _
    have waiting : State.Seated s.absentOk (s.tableOk ∧ s.scopeOk) s.slotOk s.seat none { s with pending := rest } :=
      before.same rfl rfl rfl
    exact exec_seated (s := { s with pending := rest }) c waiting (fun ⟨table, _⟩ => table) hstep

end

section
/-! PROOF. The millisecond, the sweep event, and the two due steps that follow from a beacon count and from a gap count
(O2, O29, O31). -/

namespace Sys2Proof.Machine

variable {s : State}

/-! ### One millisecond -/

@[simp] theorem State.tickLamp_of_steady (h : s.lamp.mode.period = none) : s.tickLamp = s := by
  simp [State.tickLamp, h]

theorem State.tickPace_of_running {n : Nat} (h : s.seq.timer = .running (n + 2)) :
    s.tickPace = { s with seq := { s.seq with timer := .running (n + 1) } } := by
  simp [State.tickPace, h]

theorem State.tickSweep_of_remaining {m : Nat} (h : s.sweep.remaining = some (m + 2)) :
    s.tickSweep = { s with sweep := { s.sweep with remaining := some (m + 1) } } := by
  simp [State.tickSweep, h]

/-! ### The sweep event -/

theorem State.holding_iff (s : State) : s.holding = true ↔ s.running = true ∨ s.ctl.st = .quiesce := by
  simp [State.holding]

theorem State.beaconCounts_iff (s : State) : (s.awake && s.ctl.st != .quiesce) = true ↔ s.edits := by
  cases h : s.ctl.st <;> simp [State.awake, State.holding, State.running, State.edits, h]

theorem State.takeSweep_of_stopped (h : s.sweep.remaining = none) : s.takeSweep = s := by simp [State.takeSweep, h]

theorem State.takeSweep_of_running (h : s.sweep.remaining ≠ none) : s.takeSweep = s.sweepEvent := by
  simp [State.takeSweep, Option.isSome_iff_ne_none, h]

theorem Circuit.age_eq (r : Circuit) : r.age =
    if r.state = .offered ∧ r.sweepsSinceSend < 6 then
      { r with sweepsSinceSend := r.sweepsSinceSend + 1, resendDue := r.sweepsSinceSend == 5 }
    else r := by
  have : (r.sweepsSinceSend + 1 == 6) = (r.sweepsSinceSend == 5) := by rw [Bool.eq_iff_iff]; simp
  rw [Circuit.age, this]

theorem State.aged_records (s : State) : s.sweepEvent.records = s.records.map (fun r =>
    if (s.running = true ∨ s.ctl.st = .quiesce) ∧ r.state = .offered ∧ r.sweepsSinceSend < 6 then
      { r with sweepsSinceSend := r.sweepsSinceSend + 1, resendDue := r.sweepsSinceSend == 5 }
    else r) := by
  by_cases h : s.holding = true
  · simp only [State.sweepEvent, if_pos h, s.holding_iff.mp h, true_and]
    exact List.map_congr_left (fun r _ => r.age_eq)
  · have never : ¬ (s.running = true ∨ s.ctl.st = .quiesce) := fun h' => h (s.holding_iff.mpr h')
    simp [State.sweepEvent, h, never]

theorem Peer.age_eq (s : State) (x : Peer) : x.age s.holding = { x with
    sinceHeard := if x.presence = .present then (if x.sinceHeard < 12 then x.sinceHeard + 1 else 12) else x.sinceHeard
    channel := match x.channel with
      | .idle => .idle
      | .receiving d n g =>
        .receiving d n (if s.running = true ∨ s.ctl.st = .quiesce then (if g < 3 then g + 1 else 3) else g) } := by
  simp only [Peer.age, s.holding_iff]
  rfl

/-! ### The beacon count and the gap count -/

theorem State.announce_eq (s : State) : s.announce = { s with
    sweep := { s.sweep with beaconCount := 0 }
    line := if .beacon ∈ s.line.queue then s.line
      else if s.line.queue.length < 24 then { s.line with
        queue := s.line.queue ++ [.beacon]
        escalated := if 16 ≤ s.line.queue.length + 1 then true
          else if s.line.queue.length + 1 ≤ 6 then false else s.line.escalated }
      else { s.line with beaconWant := true } } := by
  unfold State.announce State.request State.setQueue State.setWant escalation queueCapacity
  simp only [List.contains_iff_mem, List.length_append, List.length_singleton]
  split_ifs <;> rfl

theorem State.takeAbandon_of_receiving {p d n g : Nat} (h : (s.peer p).channel = .receiving d n g) :
    s.takeAbandon p = if 3 ≤ g then { s with
      peers := s.peers.set p { s.peer p with channel := .idle }
      records := s.records.map (fun r => if r.farSlot = p then { r with scopeMark := false } else r)
      events := s.events.raise .rollCheck } else s := by
  simp only [State.takeAbandon, Peer.abandonDue, h, decide_eq_true_eq]
  rfl

end Sys2Proof.Machine

open Sys2Proof Sys2Proof.Machine

/-- Settles O2: nothing is due, and neither counter is at its end. -/
theorem idleStepIsMillisecond : Obligations.IdleStepIsMillisecond := by
  intro s n m empty calm timer interval lamp
  have tick : step s = .next s.tick := by simp [step, empty]
  rw [tick, State.tick, State.settle_of_calm calm, State.tickLamp_of_steady lamp, State.tickPace_of_running timer]
  exact congrArg Host.Outcome.next (State.tickSweep_of_remaining interval)

/-- Settles O29, block by block. -/
theorem sweepAges : Obligations.SweepAges := by
  intro s calm
  have taken : exec .sweep s = .next s.takeSweep := 
    congrArg (fun t => Host.Outcome.next (State.takeSweep t)) (State.settle_of_calm calm)
  refine ⟨fun stopped => by rw [taken, State.takeSweep_of_stopped stopped], fun clock => ?_⟩
  rw [taken, State.takeSweep_of_running clock, ← State.aged_records]
  simp only [State.sweepEvent, s.beaconCounts_iff, satSucc, Host.Outcome.next.injEq, State.mk.injEq, true_and, and_true]
  exact List.map_congr_left (fun x _ => Peer.age_eq s x)

/-- Settles O31: a row that is not due changes nothing, and one that is has its effect written out. -/
theorem beaconAndGap : Obligations.BeaconAndGap := by
  have beacon (s : State) : exec .beaconDue s = .next s.takeBeacon := rfl
  have abandon (p : Nat) (s : State) : exec (.rollAbandon p) s = .next (s.takeAbandon p) := rfl
  refine ⟨fun s due => ?_, fun s early => ?_, fun p d n g s receiving => ⟨fun early => ?_, fun due => ?_⟩⟩
  · rw [beacon, State.takeBeacon, if_pos due, State.announce_eq]
  · rw [beacon, State.takeBeacon, if_neg (by omega)]
  · rw [abandon, State.takeAbandon_of_receiving receiving, if_neg (by omega)]
  · rw [abandon, State.takeAbandon_of_receiving receiving, if_pos due]
end

section
/-! PROOF. Positions of the shelf line (O40), and a good BEACON (O44). -/

namespace Sys2Proof.Machine

variable {s : State} {f : LineFrame}

/-! ### Positions -/

theorem State.ownPosition_iff (pos : Nat) (s : State) : s.ownPosition pos = true ↔
    if s.line.retry = true then pos % (3 * s.ctl.size) = 2 * s.ctl.size + s.ctl.slot
    else pos % (3 * s.ctl.size) = s.ctl.size + s.distance ∨
      (s.line.escalated = true ∧ pos % (3 * s.ctl.size) = s.distance) := by
  cases h : s.line.retry <;> simp [State.ownPosition, h]

/-- The states that take table edits are the ones a header announces. -/
theorem State.edits_iff_announced (s : State) : s.edits ↔ (announcedOf s.ctl.st).isSome = true := by
  cases h : s.ctl.st <;> simp [State.edits, announcedOf, h]

theorem State.eligible_iff (s : State) : s.eligible = true ↔ s.edits ∧ s.line.muted = false ∧ s.line.queue ≠ [] := by
  simp [State.eligible, s.edits_iff_announced, and_assoc]

theorem announcedOf_stationOf (a : Announced) : announcedOf (stationOf a) = some a := by cases a <;> rfl

/-- Where one of the three conditions of R132 and R133 fails, the position passes. -/
theorem State.takePosition_of_idle {pos : Nat} (h : s.line.flying = none → s.ownPosition pos = true → s.eligible ≠ true) :
    s.takePosition pos = s := by
  refine if_neg fun taken => ?_
  simp only [Bool.and_eq_true, Option.isNone_iff_eq_none] at taken
  obtain ⟨⟨released, own⟩, eligible⟩ := taken
  exact h released own eligible

/-- A BEACON is never empty-handed, so the first turn builds it. -/
theorem State.takePosition_of_beacon {pos : Nat} {rest : List Request} (own : s.ownPosition pos = true)
    (eligible : s.eligible = true) (released : s.line.flying = none) (queue : s.line.queue = .beacon :: rest) :
    s.takePosition pos = s.build .beacon := by
  rw [State.takePosition, if_pos (by simp [own, eligible, released])]
  simp [State.takeTurns, queue, State.nothingToCarry]

theorem State.build_beacon {a : Announced} (h : s.ctl.st = stationOf a) :
    s.build .beacon = { s with line := { s.line with out := .sending {
      req := .beacon, queued := true, carried := [], items := 0,
      bytes := frameBytes 0x01 s.ctl.slot 31 s.store.epoch a [byteOf s.ctl.size] } } } := by
  simp only [State.build, State.launch, kindBeacon, h, announcedOf_stationOf, Option.getD_some]

theorem exec_linePosition (calm : s.calm) (pos : Nat) : exec (.linePosition pos) s = .next (s.takePosition pos) :=
  congrArg (fun t => Host.Outcome.next (State.takePosition pos t)) (State.settle_of_calm calm)

/-! ### A good BEACON -/

theorem State.lineError_eq (s : State) : s.lineError = s.withLineError := by
  have : satSucc 255 s.line.errors = min 255 (s.line.errors + 1) := by unfold satSucc; split <;> omega
  rw [State.lineError, this]
  rfl

/-- The check of a BEACON's payload, wherever the frame is handed on (R64, R143). -/
theorem State.handOn_beacon (f : LineFrame) (s : State) : s.handOn kindBeacon f =
    if (f.dst = s.ctl.slot ∨ f.dst = 31) ∧ f.payload ≠ [byteOf s.ctl.size] then s.withLineError else s := by
  by_cases ours : f.dst = s.ctl.slot ∨ f.dst = 31
  · have passes : ¬ (f.dst ≠ s.ctl.slot ∧ f.dst ≠ 31) := by tauto
    by_cases fits : f.payload = [byteOf s.ctl.size] <;> simp [State.handOn, passes, ours, fits, State.lineError_eq]
  · rw [State.handOn, if_pos (not_or.mp ours), if_neg fun h => ours h.1]

theorem exec_beaconReceived (calm : s.calm) (running : s.ctl.resetHeld = false) : exec (.beaconReceived f) s = .next
    ((State.heard f.src f.epoch f.st { s with line := { s.line with lastSender := f.src } }).handOn kindBeacon f) := by
  show Host.Outcome.next (s.settle.receive kindBeacon f) = _
  rw [State.settle_of_calm calm, State.receive, running]
  rfl

theorem State.heard_of_not_addressable {p : Nat} {e : Byte} {a : Announced} (h : s.addressable p = false) :
    s.heard p e a = s := by
  simp [State.heard, h]

/-- Before the station is up a header is recorded and nothing is recognised (R53). -/
theorem State.heard_of_not_awake {p : Nat} {e : Byte} {a : Announced} (haddr : s.addressable p = true)
    (hst : s.ctl.st = .starting ∨ s.ctl.st = .strapFault) :
    s.heard p e a =
      s.updPeer p (fun x => { x with presence := .present, sinceHeard := 0, epoch := some e, st := some a }) := by
  have asleep : s.awake = false := by rcases hst with h | h <;> simp [State.awake, State.holding, State.running, h]
  have stays (u : State) (h : u.ctl = s.ctl) : u.judgeEnd = u := by
    rcases hst with h' | h' <;> simp [State.judgeEnd, State.relinkDone, h, h']
  simp only [State.heard, haddr, asleep, if_true, Bool.false_eq_true, if_false, false_and]
  exact stays _ rfl

end Sys2Proof.Machine

open Sys2Proof Sys2Proof.Machine

/-- Settles O40: the row passes where the position is not taken, and the first turn of one that is builds the BEACON. -/
theorem positionSendsBeacon : Obligations.PositionSendsBeacon := by
  intro pos s calm d n own
  have own_iff : s.ownPosition pos = true ↔ own := s.ownPosition_iff pos
  rw [exec_linePosition calm]
  refine ⟨fun idle => ?_, fun a rest mine station unmuted queue released => ?_⟩
  · refine congrArg Host.Outcome.next (State.takePosition_of_idle fun released mine eligible => ?_)
    obtain ⟨edits, unmuted, queue⟩ := s.eligible_iff.mp eligible
    rcases idle with h | h | h | h | h
    · exact h (own_iff.mp mine)
    · exact h edits
    · simp [unmuted] at h
    · exact queue h
    · simp [released] at h
  · have edits : s.edits := by rw [State.edits_iff_announced, station, announcedOf_stationOf]; rfl
    have eligible : s.eligible = true := s.eligible_iff.mpr ⟨edits, unmuted, by simp [queue]⟩
    rw [State.takePosition_of_beacon (own_iff.mpr mine) eligible released queue, State.build_beacon station]

/-- Settles O44: the three clauses differ in what hearing the frame does, and share the check of its payload. -/
theorem beaconHeard : Obligations.BeaconHeard := by
  intro f s calm running hdone checked
  have checks (u : State) (h : u.ctl = s.ctl) : u.handOn kindBeacon f = checked u := by
    rw [State.handOn_beacon, h]
  rw [exec_beaconReceived calm running]
  refine ⟨fun expects => ?_, fun foreign => ?_, fun haddr station => ?_⟩
  · rw [State.heard_of_expects expects hdone]
    exact congrArg Host.Outcome.next (checks _ rfl)
  · rw [State.heard_of_not_addressable (by exact foreign)]
    exact congrArg Host.Outcome.next (checks _ rfl)
  · rw [State.heard_of_not_awake (by exact haddr) (by exact station)]
    exact congrArg Host.Outcome.next (checks _ rfl)
end

section
/-! PROOF. What an attempt and a deferral of many records by one event do (R26, R41, R42, R94), as a relation between the
records before and after: `State.Turns`. -/

namespace Sys2Proof.Machine

variable {s t u : State} {r x y : Circuit}

/-! ### What becomes of one record -/

/-- What neither an attempt nor a deferral changes of a record. -/
def Circuit.kept (r : Circuit) : (Nat × Fixed × Bool) × InUse × Bool × Bool :=
  (r.retained, r.inUse, r.rollMark, r.scopeMark)

theorem Circuit.kept_iff : x.kept = r.kept ↔
    x.retained = r.retained ∧ x.inUse = r.inUse ∧ x.rollMark = r.rollMark ∧ x.scopeMark = r.scopeMark := by
  simp [Circuit.kept]

theorem Circuit.retained_iff : x.retained = r.retained ↔
    x.place = r.place ∧ x.toFixed = r.toFixed ∧ x.clashMark = r.clashMark := by
  simp [Circuit.retained]

/-- The record stays as it is, but for an opening that takes it. -/
def Circuit.Stays (r x : Circuit) : Prop :=
  x = r ∨ (r.state = .confirmed ∧ x.state.isProbing = true ∧ x.kept = r.kept)

/-- The record goes to DEFERRED. -/
def Circuit.Defers (r x : Circuit) : Prop :=
  x.kept = r.kept ∧ x.state = .deferred ∧ x.claimDue = false ∧ x.sendCount = 0

/-- The record goes to DEFERRED where the event acts on it, and stays elsewhere. -/
def Circuit.DefersIf (hit : Prop) (r x : Circuit) : Prop := (hit → r.Defers x) ∧ (¬ hit → r.Stays x)

theorem Circuit.Stays.refl (r : Circuit) : r.Stays r := .inl rfl

theorem Circuit.Stays.eq (h : r.Stays x) (hr : r.state ≠ .confirmed) : x = r :=
  h.resolve_right fun ⟨e, _⟩ => hr e

theorem Circuit.Stays.kept_eq (h : r.Stays x) : x.kept = r.kept := by
  obtain rfl | ⟨_, _, hkept⟩ := h
  · rfl
  · exact hkept

theorem Circuit.Stays.trans (h : r.Stays x) (k : x.Stays y) : r.Stays y := by
  obtain rfl | ⟨hr, hx, hkept⟩ := h
  · exact k
  · obtain rfl := k.eq (by rintro e; rw [e] at hx; exact absurd hx (by decide))
    exact .inr ⟨hr, hx, hkept⟩

theorem Circuit.DefersIf.kept_eq {hit : Prop} (h : r.DefersIf hit x) : x.kept = r.kept := by
  by_cases c : hit
  · exact (h.1 c).1
  · exact (h.2 c).kept_eq

theorem Circuit.DefersIf.congr {hit hit' : Prop} (h : r.DefersIf hit x) (e : hit' ↔ hit) : r.DefersIf hit' x :=
  propext e ▸ h

theorem Circuit.DefersIf.trans {a b : Prop} (h : r.DefersIf a x) (k : x.DefersIf b y) (hab : a → ¬ b) :
    r.DefersIf (a ∨ b) y := by
  by_cases ha : a
  · obtain ⟨hkept, hst, hdue, hsend⟩ := h.1 ha
    obtain rfl := (k.2 (hab ha)).eq (by simp [hst])
    exact ⟨fun _ => ⟨hkept, hst, hdue, hsend⟩, fun n => absurd (.inl ha) n⟩
  · refine ⟨fun hb => ?_, fun n => (h.2 ha).trans (k.2 fun hb => n (.inr hb))⟩
    obtain ⟨hkept, rest⟩ := k.1 (hb.resolve_left ha)
    exact ⟨hkept.trans (h.2 ha).kept_eq, rest⟩

/-! ### What becomes of the due steps -/

/-- A posting adds the request alone. -/
theorem State.mem_of_mem_request {q req : Request} (h : q ∈ (s.request req).line.queue) : q ∈ s.line.queue ∨ q = req := by
  rcases s.request_cases req with ⟨_, e⟩ | ⟨_, _, e⟩ | ⟨_, _, e⟩ <;> rw [e] at h
  · exact .inl h
  · simpa using h
  · exact .inl (by simpa using h)

@[simp] theorem State.request_lastSender (req : Request) (s : State) :
    (s.request req).line.lastSender = s.line.lastSender := by
  rcases s.request_cases req with ⟨_, e⟩ | ⟨_, _, e⟩ | ⟨_, _, e⟩ <;> rw [e]
  · rfl
  · cases req <;> rfl

/-- The states that the walks of one event reach: RELINK may have ended. -/
structure State.Quiet (s t : State) : Prop where
  station : t.ctl = s.ctl ∨ (s.ctl.st = .relink ∧ t.ctl = { s.ctl with st := .service })
  beacon : t.sweep.beaconCount = s.sweep.beaconCount ∨ t.sweep.beaconCount = 0
  probes : ∀ q ∈ t.hw.probes, q ∈ s.hw.probes ∨ q.ended = false
  sender : t.line.lastSender = s.line.lastSender

theorem State.Quiet.of_eq (hctl : t.ctl = s.ctl) (hsweep : t.sweep = s.sweep) (hhw : t.hw = s.hw)
    (hsender : t.line.lastSender = s.line.lastSender) : s.Quiet t :=
  ⟨.inl hctl, .inl (by rw [hsweep]), fun q hq => .inl (hhw ▸ hq), hsender⟩

theorem State.Quiet.trans (h : s.Quiet t) (k : t.Quiet u) : s.Quiet u where
  station := by
    rcases h.station with e | ⟨hst, e⟩ <;> rcases k.station with e' | ⟨hst', e'⟩
    · exact .inl (e'.trans e)
    · exact .inr ⟨e ▸ hst', by rw [e', e]⟩
    · exact .inr ⟨hst, e'.trans e⟩
    · simp [e] at hst'
  beacon := by
    rcases k.beacon with e | e
    · rw [e]
      exact h.beacon
    · exact .inr e
  probes := fun q hq => (k.probes q hq).elim (h.probes q) .inr
  sender := k.sender.trans h.sender

/-- The end of RELINK touches the beacon count and no other counter (R156, R62). -/
theorem State.quiet_judgeEnd (s : State) : s.Quiet s.judgeEnd := by
  unfold State.judgeEnd
  split
  case isFalse => exact .of_eq rfl rfl rfl rfl
  case isTrue done =>
    have relink : s.ctl.st = .relink := by
      simp only [State.relinkDone, Bool.and_eq_true, beq_iff_eq] at done
      obtain ⟨⟨⟨hst, _⟩, _⟩, _⟩ := done
      exact hst
    have ctl : (s.setStation .service).ctl = { s.ctl with st := .service } := by
      simp only [State.setStation, State.judgeLamp_keeps]
    refine ⟨.inr ⟨relink, by simp [ctl]⟩, .inr ?_, fun q hq => .inl (by simpa using hq), by simp [State.announce]⟩
    simp only [State.announce, State.request_keeps]

/-! ### The relation -/

/-- From `s` to `t` each record has become one that `R` relates it to; requests and flags have only been added, a BEACON at
most; peer records and the Retention Store are as they were, and nothing falls due. -/
structure State.Turns (R : Circuit → Circuit → Prop) (s t : State) : Prop extends State.Quiet s t where
  records : ∃ g : Circuit → Circuit, t.records = s.records.map g ∧ ∀ r ∈ s.records, R r (g r)
  peers : t.peers = s.peers
  store : t.store = s.store
  queued : ∀ req ∈ s.line.queue, req ∈ t.line.queue
  posted : ∀ req ∈ t.line.queue, req ∈ s.line.queue ∨ req = .beacon
  flags : ∀ f, s.events.has f = true → t.events.has f = true

section Turns

variable {R R' : Circuit → Circuit → Prop}

theorem State.Turns.of_mem (h : s.Turns R t) (hr : r ∈ s.records) : ∃ x ∈ t.records, R r x := by
  obtain ⟨g, hg, hR⟩ := h.records
  exact ⟨g r, hg ▸ List.mem_map_of_mem hr, hR r hr⟩

theorem State.Turns.mem (h : s.Turns R t) (hx : x ∈ t.records) : ∃ r ∈ s.records, R r x := by
  obtain ⟨g, hg, hR⟩ := h.records
  obtain ⟨r, hr, rfl⟩ := List.mem_map.mp (hg ▸ hx)
  exact ⟨r, hr, hR r hr⟩

theorem State.Turns.mono (h : s.Turns R t) (hR : ∀ r ∈ s.records, ∀ x, R r x → R' r x) : s.Turns R' t := by
  obtain ⟨g, hg, hgR⟩ := h.records
  exact { h with records := ⟨g, hg, fun r hr => hR r hr _ (hgR r hr)⟩ }

theorem State.Turns.trans {R'' : Circuit → Circuit → Prop} (h : s.Turns R t) (k : t.Turns R' u)
    (hR : ∀ r x y, R r x → R' x y → R'' r y) : s.Turns R'' u := by
  obtain ⟨g, hg, hgR⟩ := h.records
  obtain ⟨g', hg', hgR'⟩ := k.records
  refine ⟨h.toQuiet.trans k.toQuiet, ⟨g' ∘ g, by rw [hg', hg, List.map_map], fun r hr => ?_⟩, k.peers.trans h.peers,
    k.store.trans h.store, fun req hq => k.queued req (h.queued req hq), fun req hq => ?_,
    fun f hf => k.flags f (h.flags f hf)⟩
  · exact hR _ _ _ (hgR r hr) (hgR' _ (hg ▸ List.mem_map_of_mem hr))
  · exact (k.posted req hq).elim (h.posted req) .inr

/-- Beside the records only the flags, the notices and the lamp change. -/
theorem State.Turns.of_eq (hrec : t.records = s.records) (hpeers : t.peers = s.peers) (hstore : t.store = s.store)
    (hline : t.line = s.line) (hctl : t.ctl = s.ctl) (hsweep : t.sweep = s.sweep) (hhw : t.hw = s.hw)
    (hflags : ∀ f, s.events.has f = true → t.events.has f = true) : s.Turns Circuit.Stays t :=
  ⟨.of_eq hctl hsweep hhw (by rw [hline]), ⟨id, by rw [hrec, List.map_id], fun r _ => .refl r⟩, hpeers, hstore,
    fun _ hq => hline ▸ hq, fun _ hq => .inl (hline ▸ hq), hflags⟩

theorem State.Turns.refl (s : State) : s.Turns Circuit.Stays s := .of_eq rfl rfl rfl rfl rfl rfl rfl fun _ h => h

theorem State.turns_raise (f : EventFlag) (s : State) : s.Turns Circuit.Stays (s.raise f) :=
  .of_eq rfl rfl rfl rfl rfl rfl rfl fun _ h => EventUnit.has_raise f h

theorem State.turns_raiseIf (c : Bool) (f : EventFlag) (s : State) : s.Turns Circuit.Stays (s.raiseIf c f) := by
  unfold State.raiseIf
  split
  · exact s.turns_raise f
  · exact .refl s

theorem State.turns_post (k : NoticeKind) (r : Circuit) (s : State) : s.Turns Circuit.Stays (s.post k r) :=
  .of_eq (by simp) (by simp) (by simp) (by simp) (by simp) (by simp) (by simp) fun _ h => State.has_post h

/-- A record that leaves its place's state for another outside CLASHED, its probe cancelled. -/
theorem State.turns_moveTo {new : Relink} (hne : new ≠ .clashed) (r : Circuit) (due : Bool) (sends : Nat) (s : State) :
    s.Turns (fun y x => x = if y.place = r.place then y.enter new due sends else y) (s.moveTo r new due sends) where
  station := .inl (by simp)
  beacon := .inl (by simp)
  probes := fun q hq => by
    refine .inl ?_
    simp only [State.moveTo, State.enter_keeps, State.cancelProbe] at hq
    split at hq
    · exact List.mem_of_mem_filter hq
    · exact hq
  sender := by simp
  records := ⟨_, by simp only [State.moveTo, (State.enter_of_ne hne _).1, State.cancelProbe_keeps], fun _ _ => rfl⟩
  peers := by simp
  store := by simp only [State.moveTo, (State.enter_of_ne hne _).2, State.cancelProbe_keeps]
  queued := fun req hq => by simpa using hq
  posted := fun req hq => .inl (by simpa using hq)
  flags := fun f hf => by simpa using hf

/-- An opening takes a CONFIRMED record to PROBING (R91, R92), with a window that has not ended (R115). -/
theorem State.turns_startProbe (places : (s.records.map (·.place)).Nodup) (h : s.candidate = some r) (k : Nat) :
    s.Turns Circuit.Stays (s.startProbe r k) where
  station := .inl (by simp)
  beacon := .inl (by simp)
  probes := fun q hq => by
    simp only [State.startProbe, State.enter_keeps, List.mem_append, List.mem_singleton] at hq
    exact hq.imp id fun e => by rw [e]; rfl
  sender := by simp
  records := by
    refine ⟨_, (State.enter_of_ne (by simp) r.place).1, fun y hy => ?_⟩
    split
    case isFalse => exact .refl y
    case isTrue e =>
      obtain rfl : y = r := List.inj_on_of_nodup_map places hy (State.mem_of_candidate h) e
      exact .inr ⟨State.candidate_confirmed h, rfl, rfl⟩
  peers := by simp
  store := (State.enter_of_ne (by simp) _).2
  queued := fun req hq => by simpa using hq
  posted := fun req hq => .inl (by simpa using hq)
  flags := fun f hf => by simpa using hf

theorem State.turns_attemptTurns (places : (s.records.map (·.place)).Nodup) (n : Nat) :
    s.Turns Circuit.Stays (s.attemptTurns n) := by
  induction n generalizing s with
  | zero => exact .refl s
  | succ n ih =>
    unfold State.attemptTurns
    split
    · rename_i r k hc _
      have started := State.startProbe_map (fun y => y.place) (fun _ _ => rfl) r k s
      split
      · exact (State.turns_startProbe places hc k).trans (ih (started ▸ places)) fun _ _ _ => .trans
      · exact .refl s
    · exact .refl s

theorem State.turns_judgeEnd (s : State) : s.Turns Circuit.Stays s.judgeEnd where
  toQuiet := s.quiet_judgeEnd
  records := ⟨id, by simp, fun r _ => .refl r⟩
  peers := by simp
  store := by simp
  queued := fun req hq => by
    unfold State.judgeEnd
    split
    · exact State.mem_request _ (by simpa using hq)
    · exact hq
  posted := fun req hq => by
    unfold State.judgeEnd at hq
    split at hq
    · exact (State.mem_of_mem_request hq).imp (fun h => by simpa using h) id
    · exact .inl hq
  flags := fun f hf => by
    unfold State.judgeEnd
    split
    · have kept : (s.setStation .service).events = s.events := by simp
      simp only [State.announce_keeps]
      exact EventUnit.has_raise _ (kept ▸ hf)
    · exact hf

theorem State.turns_settleChange (places : (s.records.map (·.place)).Nodup) (cause : Bool) :
    s.Turns Circuit.Stays (s.settleChange cause) := by
  rcases s.settleChange_cases cause with e | e <;> rw [e]
  · exact s.turns_judgeEnd
  · exact (State.turns_attemptTurns places 4).trans (State.turns_judgeEnd _) fun _ _ _ => .trans

end Turns

end Sys2Proof.Machine
end

section
/-! PROOF. The walk that defers many records by one event (R26): what becomes of the records, the notices in class order,
and the DEFERRAL. -/

namespace Sys2Proof.Machine

variable {s t : State} {r x y : Circuit} {cond : Relink → Bool} {p : Nat}

/-! ### One place -/

/-- A cause that takes each record once, and a record that an opening has taken as it would have taken it before. -/
structure Relink.Settles (cond : Relink → Bool) : Prop where
  once : cond .deferred = false
  opened : ∀ k, cond (.probing k) = cond .confirmed

theorem Relink.eq_probing {z : Relink} (h : z.isProbing = true) : ∃ k, z = .probing k := by
  cases z with
  | probing k => exact ⟨k, rfl⟩
  | _ => cases h

theorem Circuit.Stays.cond_eq (h : r.Stays x) (settles : Relink.Settles cond) : cond x.state = cond r.state := by
  obtain rfl | ⟨hr, hx, _⟩ := h
  · rfl
  · obtain ⟨k, hk⟩ := Relink.eq_probing hx
    rw [hr, hk, settles.opened]

theorem Circuit.place_of_kept (h : x.kept = r.kept) : x.place = r.place := by
  obtain ⟨hret, _⟩ := Circuit.kept_iff.mp h
  obtain ⟨hplace, _⟩ := Circuit.retained_iff.mp hret
  exact hplace

theorem Circuit.fixed_of_kept (h : x.kept = r.kept) : x.toFixed = r.toFixed := by
  obtain ⟨hret, _⟩ := Circuit.kept_iff.mp h
  obtain ⟨_, hfixed, _⟩ := Circuit.retained_iff.mp hret
  exact hfixed

/-- The record in one place goes to DEFERRED where the cause acts on it. -/
theorem State.turns_deferPlace (ok : s.tableOk) (cond : Relink → Bool) (h : Nat) :
    s.Turns (fun r x => r.DefersIf (r.place = h ∧ cond r.state = true) x) (s.deferPlace cond h) := by
  unfold State.deferPlace
  split
  case h_1 none =>
    refine (State.Turns.refl s).mono fun y hy x hx => ⟨fun ⟨e, _⟩ => ?_, fun _ => hx⟩
    rw [← e, State.findPlace_eq_some ok hy] at none
    cases none
  case h_2 z found =>
    obtain ⟨hz, rfl⟩ := State.mem_of_findPlace found
    split
    case isFalse off =>
      exact (State.Turns.refl s).mono fun y hy x hx =>
        ⟨fun ⟨e, on⟩ => absurd ((ok.place_eq_iff hy hz).mp e ▸ on) off, fun _ => hx⟩
    case isTrue on =>
      have moved := State.turns_moveTo (s := s) (new := .deferred) (by simp) z false 0
      have posted := State.turns_post .deferred z (s.moveTo z .deferred false 0)
      have places : (((s.moveTo z .deferred false 0).post .deferred z).records.map (·.place)).Nodup := by
        rw [(State.post_keeps _ _ _).1, State.moveTo_map _ (fun _ _ _ => rfl) fun _ => rfl]
        exact ok.places
      have settled := State.turns_settleChange places (attemptCause z.state .deferred)
      refine (moved.trans (posted.trans settled fun _ _ _ => .trans) (R'' := fun y x =>
        Circuit.Stays (if y.place = z.place then y.enter .deferred false 0 else y) x)
        fun y x w e hw => e ▸ hw).mono fun y hy x hx => ⟨fun ⟨e, _⟩ => ?_, fun n => ?_⟩
      · rw [if_pos e] at hx
        obtain rfl := hx.eq (by simp [Circuit.enter])
        exact ⟨rfl, rfl, rfl, rfl⟩
      · rwa [if_neg fun e => n ⟨e, (ok.place_eq_iff hy hz).mp e ▸ on⟩] at hx

theorem State.tableOk_deferPlace (ok : s.tableOk) (cond : Relink → Bool) (h : Nat) : (s.deferPlace cond h).tableOk :=
  (State.Tends.refl s).deferPlace.tableOk ok

/-- One notice, where the cause acts on the record and there is room (R26, R184). -/
theorem State.deferPlace_notices (ok : s.tableOk) (hx : x ∈ s.records)
    (room : cond x.state = true → s.notices.length < 32) : (s.deferPlace cond x.place).notices =
      s.notices ++ noticesOf .deferred ([x].filter (fun r => cond r.state)) := by
  simp only [State.deferPlace, State.findPlace_eq_some ok hx]
  by_cases on : cond x.state = true
  · simp only [on, if_true, State.settleChange_keeps, List.filter_cons_of_pos, List.filter_nil]
    rw [State.post_notices (by simpa using room on)]
    simp [noticesOf]
  · simp [on, noticesOf]

/-! ### The walk -/

/-- The walk takes the records in its places that the cause acts on, and no other. -/
theorem State.turns_walk (settles : Relink.Settles cond) (ok : s.tableOk) (hs : List Nat) :
    s.Turns (fun r x => r.DefersIf (r.place ∈ hs ∧ cond r.state = true) x) (s.each hs (State.deferPlace cond)) := by
  induction hs generalizing s with
  | nil => exact (State.Turns.refl s).mono fun r _ x hx => ⟨fun ⟨h, _⟩ => absurd h List.not_mem_nil, fun _ => hx⟩
  | cons h hs ih =>
    refine (State.turns_deferPlace ok cond h).trans (ih (State.tableOk_deferPlace ok cond h)) fun r x y hx hy => ?_
    have apart : r.place = h ∧ cond r.state = true → ¬ (x.place ∈ hs ∧ cond x.state = true) := fun hit ⟨_, on⟩ => by
      obtain ⟨_, hst, _⟩ := hx.1 hit
      rw [hst, settles.once] at on
      cases on
    refine (hx.trans hy apart).congr ?_
    by_cases hit : r.place = h ∧ cond r.state = true
    · exact ⟨fun _ => .inl hit, fun _ => ⟨by simp [hit.1], hit.2⟩⟩
    · rw [Circuit.place_of_kept hx.kept_eq, (hx.2 hit).cond_eq settles, List.mem_cons, or_and_right]

/-- The walk posts one notice for each record that the cause acts on, in its order. -/
theorem State.walk_notices (settles : Relink.Settles cond) {rs : List Circuit} (nodup : (rs.map (·.place)).Nodup)
    (ok : s.tableOk) (stand : ∀ r ∈ rs, ∃ x ∈ s.records, r.Stays x)
    (room : s.notices.length + (rs.filter (fun r => cond r.state)).length ≤ 32) :
    (s.each (rs.map Circuit.place) (State.deferPlace cond)).notices =
      s.notices ++ noticesOf .deferred (rs.filter (fun r => cond r.state)) := by
  induction rs generalizing s with
  | nil => simp [State.each, noticesOf]
  | cons r rs ih =>
    obtain ⟨away, nodup⟩ := List.nodup_cons.mp nodup
    obtain ⟨x, hx, hrx⟩ := stand r (by simp)
    have same := hrx.cond_eq settles
    have hplace := Circuit.place_of_kept hrx.kept_eq
    have told : noticesOf .deferred ([x].filter (fun r => cond r.state)) =
        noticesOf .deferred ([r].filter (fun r => cond r.state)) := by
      have fixed := Circuit.fixed_of_kept hrx.kept_eq
      by_cases on : cond r.state = true <;> simp [on, same, noticesOf, fixed]
    have first : (s.deferPlace cond r.place).notices =
        s.notices ++ noticesOf .deferred ([r].filter (fun r => cond r.state)) := by
      rw [← hplace, State.deferPlace_notices ok hx, told]
      intro on
      rw [List.filter_cons_of_pos (same ▸ on), List.length_cons] at room
      omega
    have parts : (r :: rs).filter (fun r => cond r.state) =
        [r].filter (fun r => cond r.state) ++ rs.filter (fun r => cond r.state) := by
      rw [← List.filter_append]
      rfl
    have rest := ih nodup (State.tableOk_deferPlace ok cond r.place) (fun z hz => ?_) ?_
    · show ((s.deferPlace cond r.place).each _ _).notices = _
      rw [rest, first, parts]
      simp [noticesOf]
    · obtain ⟨w, hw, hzw⟩ := stand z (by simp [hz])
      obtain ⟨v, hv, hwv⟩ := (State.turns_deferPlace ok cond r.place).of_mem hw
      refine ⟨v, hv, hzw.trans (hwv.2 fun ⟨e, _⟩ => away (List.mem_map.mpr ⟨z, hz, ?_⟩))⟩
      exact (Circuit.place_of_kept hzw.kept_eq).symm.trans e
    · rw [first]
      rw [parts] at room
      simp only [List.length_append, noticesOf, List.length_map] at room ⊢
      omega

/-! ### The records towards a slot -/

theorem State.towards_filter (p : Nat) (test : Circuit → Bool) (s : State) :
    (s.towards p).filter test = s.inClassOrder (fun r => r.farSlot == p && test r) := by
  have split (c : Nat) : (s.classList c).filter (fun r => test r && r.farSlot == p) =
      s.records.filter (fun r => r.cls == c && (r.farSlot == p && test r)) := by
    rw [State.classList, List.filter_filter]
    exact List.filter_congr fun r _ => by rw [Bool.and_comm, Bool.and_comm (test r)]
  have range : List.range 4 = [0, 1, 2, 3] := by decide
  rw [State.towards, List.filter_filter, State.classOrder, State.inClassOrder, range]
  simp [List.filter_append, split]

/-- Class order through a change of records that leaves their classes and the test alone. -/
theorem State.inClassOrder_map {g : Circuit → Circuit} {test test' : Circuit → Bool} (h : t.records = s.records.map g)
    (hcls : ∀ r, (g r).cls = r.cls) (htest : ∀ r, test (g r) = test' r) :
    t.inClassOrder test = (s.inClassOrder test').map g := by
  simp only [State.inClassOrder, List.map_flatMap, h, List.filter_map, Function.comp_def, hcls, htest]

theorem noticesOf_map {g : Circuit → Circuit} (hg : ∀ r, (g r).toFixed = r.toFixed) (k : NoticeKind) (rs : List Circuit) :
    noticesOf k (rs.map g) = noticesOf k rs := by
  simp only [noticesOf, List.map_map, Function.comp_def, hg]

theorem State.mem_towards_iff (ok : s.tableOk) (hr : r ∈ s.records) :
    r.place ∈ (s.towards p).map Circuit.place ↔ r.farSlot = p := by
  refine ⟨fun h => ?_, fun h => List.mem_map_of_mem ?_⟩
  · obtain ⟨x, hx, hplace⟩ := List.mem_map.mp h
    obtain ⟨hx, hfar⟩ := List.mem_filter.mp hx
    obtain rfl := (ok.place_eq_iff (State.mem_of_mem_classOrder hx) hr).mp hplace
    simpa using hfar
  · obtain ⟨_, _, _, _, _, hcls, _⟩ := ok.inRange hr
    exact State.mem_towards hr hcls h

theorem State.tableOk.nodup_towards (ok : s.tableOk) (p : Nat) : ((s.towards p).map (·.place)).Nodup := by
  have records : s.records.Nodup := ok.places.of_map _
  have order : s.classOrder.Nodup := by
    have apart {a b : Nat} (hab : a ≠ b) : (s.classList a).Disjoint (s.classList b) := by
      intro r ha hb
      obtain ⟨_, ha⟩ := List.mem_filter.mp ha
      obtain ⟨_, hb⟩ := List.mem_filter.mp hb
      exact hab ((beq_iff_eq.mp ha).symm.trans (beq_iff_eq.mp hb))
    have list (c : Nat) : (s.classList c).Nodup := records.filter _
    simp [State.classOrder, List.nodup_append', list, apart]
  exact (order.filter _).map_on fun x hx y hy e =>
    (ok.place_eq_iff (State.mem_of_mem_classOrder (List.mem_of_mem_filter hx))
      (State.mem_of_mem_classOrder (List.mem_of_mem_filter hy))).mp e

/-- The records towards a slot that the cause acts on, in class order (R5). -/
def State.acted (p : Nat) (cond : Relink → Bool) (s : State) : List Circuit :=
  s.inClassOrder (fun r => r.farSlot == p && cond r.state)

theorem State.towards_acted (p : Nat) (cond : Relink → Bool) (s : State) :
    (s.towards p).filter (fun r => cond r.state) = s.acted p cond := s.towards_filter p _

/-- The deferral of the records towards a slot: which records, ... -/
theorem State.turns_deferTowards (settles : Relink.Settles cond) (ok : s.tableOk) (p : Nat) :
    s.Turns (fun r x => r.DefersIf (r.farSlot = p ∧ cond r.state = true) x) (s.deferMany cond (s.towards p)) := by
  have raised := s.turns_raiseIf ((s.towards p).any (fun r => cond r.state)) .deferral
  have ok' : (s.raiseIf ((s.towards p).any (fun r => cond r.state)) .deferral).tableOk :=
    (State.Tends.refl s).raiseIf.tableOk ok
  have walked := State.turns_walk settles ok' ((s.towards p).map Circuit.place)
  have records : (s.raiseIf ((s.towards p).any (fun r => cond r.state)) .deferral).records = s.records := by simp
  refine ⟨raised.toQuiet.trans walked.toQuiet, ?_, walked.peers.trans raised.peers, walked.store.trans raised.store,
    fun req h => walked.queued req (raised.queued req h),
    fun req h => (walked.posted req h).elim (raised.posted req) .inr, fun f h => walked.flags f (raised.flags f h)⟩
  obtain ⟨g, hg, hR⟩ := walked.records
  rw [records] at hg hR
  exact ⟨g, hg, fun r hr => (hR r hr).congr (by rw [State.mem_towards_iff ok hr])⟩

/-- ... with which notices, ... -/
theorem State.deferTowards_notices (settles : Relink.Settles cond) (ok : s.tableOk) (p : Nat)
    (room : s.notices.length + (s.acted p cond).length ≤ 32) :
    (s.deferMany cond (s.towards p)).notices = s.notices ++ noticesOf .deferred (s.acted p cond) := by
  have walked := State.walk_notices (s := s.raiseIf ((s.towards p).any (fun r => cond r.state)) .deferral) settles
    (ok.nodup_towards p) ((State.Tends.refl s).raiseIf.tableOk ok) (fun r hr => ⟨r, ?_, .refl r⟩) ?_
  · rw [s.towards_acted] at walked
    rw [State.deferMany, walked]
    simp
  · simpa using State.mem_of_mem_classOrder (List.mem_of_mem_filter hr)
  · rw [s.towards_acted]
    simpa using room

/-- ... and with the flag (R26). -/
theorem State.deferTowards_flag (settles : Relink.Settles cond) (ok : s.tableOk) (h : s.acted p cond ≠ []) :
    (s.deferMany cond (s.towards p)).events.has .deferral = true := by
  have any : (s.towards p).any (fun r => cond r.state) = true := by
    obtain ⟨r, hr⟩ := List.exists_mem_of_ne_nil _ (State.towards_acted p cond s ▸ h)
    obtain ⟨hr, on⟩ := List.mem_filter.mp hr
    exact List.any_eq_true.mpr ⟨r, hr, on⟩
  have raised : (s.raiseIf ((s.towards p).any (fun r => cond r.state)) .deferral).events.has .deferral = true := by
    rw [any]
    exact EventUnit.has_raise_self _ _
  exact (State.turns_walk settles ((State.Tends.refl s).raiseIf.tableOk ok) _).flags _ raised

end Sys2Proof.Machine
end

section
/-! PROOF. A peer that goes SILENT (O30): the blocks that follow the peer, then the deferral of its records. -/

namespace Sys2Proof.Machine

variable {s t : State} {r x : Circuit} {p q : Nat}

/-! ### Marks taken off the records towards a slot -/

/-- Roll marks and scope marks taken off a record that faces the slot. -/
def Circuit.unmark (p : Nat) (roll scope : Bool) (r : Circuit) : Circuit :=
  if r.farSlot = p then { r with rollMark := r.rollMark && !roll, scopeMark := r.scopeMark && !scope } else r

@[simp] theorem Circuit.unmark_toFixed (p : Nat) (roll scope : Bool) (r : Circuit) :
    (r.unmark p roll scope).toFixed = r.toFixed := by
  unfold Circuit.unmark
  split <;> rfl

@[simp] theorem Circuit.unmark_state (p : Nat) (roll scope : Bool) (r : Circuit) :
    (r.unmark p roll scope).state = r.state := by
  unfold Circuit.unmark
  split <;> rfl

@[simp] theorem Circuit.unmark_resendDue (p : Nat) (roll scope : Bool) (r : Circuit) :
    (r.unmark p roll scope).resendDue = r.resendDue := by
  unfold Circuit.unmark
  split <;> rfl

@[simp] theorem Circuit.unmark_inUse (p : Nat) (roll scope : Bool) (r : Circuit) :
    (r.unmark p roll scope).inUse = r.inUse := by
  unfold Circuit.unmark
  split <;> rfl

@[simp] theorem Circuit.unmark_retained (p : Nat) (roll scope : Bool) (r : Circuit) :
    (r.unmark p roll scope).retained = r.retained := by
  unfold Circuit.unmark
  split <;> rfl

theorem Circuit.unmark_none (p : Nat) (r : Circuit) : r.unmark p false false = r := by simp [Circuit.unmark]

theorem Circuit.unmark_unmark (p : Nat) (a b c d : Bool) (r : Circuit) :
    (r.unmark p a b).unmark p c d = r.unmark p (a || c) (b || d) := by
  by_cases h : r.farSlot = p <;> simp [Circuit.unmark, h, Bool.and_assoc]

theorem State.clearRollMarks_records (p : Nat) (s : State) :
    (s.clearRollMarks p).records = s.records.map (Circuit.unmark p true false) :=
  List.map_congr_left fun r _ => by simp [Circuit.unmark]

theorem State.clearScopeMarks_records (p : Nat) (s : State) :
    (s.clearScopeMarks p).records = s.records.map (Circuit.unmark p false true) :=
  List.map_congr_left fun r _ => by simp [Circuit.unmark]

/-- The deferral of the records towards a slot, where marks alone have been taken off them before: with which notices, and
with DEFERRAL. -/
theorem State.deferUnmarked_told {cond : Relink → Bool} {a b : Bool} (settles : Relink.Settles cond) (ok : t.tableOk)
    (hrec : t.records = s.records.map (Circuit.unmark p a b)) (hnotices : t.notices = s.notices) :
    (s.notices.length + (s.acted p cond).length ≤ 32 →
        (t.deferMany cond (t.towards p)).notices = s.notices ++ noticesOf .deferred (s.acted p cond)) ∧
      (s.acted p cond ≠ [] → (t.deferMany cond (t.towards p)).events.has .deferral = true) := by
  have acted : t.acted p cond = (s.acted p cond).map (Circuit.unmark p a b) :=
    State.inClassOrder_map hrec (fun r => by simp) fun r => by simp
  refine ⟨fun room => ?_, fun some => State.deferTowards_flag settles ok (by simpa [acted] using some)⟩
  rw [State.deferTowards_notices settles ok p (by rwa [hnotices, acted, List.length_map]), hnotices, acted,
    noticesOf_map (by simp)]

theorem State.minding_congr (h : t.ctl = s.ctl) : t.minding = s.minding := by simp only [State.minding, State.running, h]

/-! ### The blocks that follow the peer -/

/-- The peer's record and everything that waits for it, before its records are judged (R55). -/
def State.silenced (p : Nat) (s : State) : State :=
  let s1 := if (s.peer p).rollOut = .sending then s.oweRoll p else s
  let s2 := (s1.updPeer p (fun x => { x with presence := .silent, channel := .idle, wants := .clear })).emptyLists p
  (s2.dropRequests p).clearScopeMarks p

theorem State.goSilent_eq (p : Nat) (s : State) : s.goSilent p = (if (s.silenced p).minding then
    (s.silenced p).deferMany Relink.unsettled ((s.silenced p).towards p) else s.silenced p).judgeEnd := rfl

/-- The roll to a peer becomes OWED where it was SENDING (R55). -/
theorem State.oweSending_cases (p : Nat) (s : State) :
    ((s.peer p).rollOut = .sending ∧ (if (s.peer p).rollOut = .sending then s.oweRoll p else s) =
        (s.clearRollMarks p).setRollOut p .owed) ∨
      ((s.peer p).rollOut ≠ .sending ∧ (if (s.peer p).rollOut = .sending then s.oweRoll p else s) = s) := by
  by_cases h : (s.peer p).rollOut = .sending
  · exact .inl ⟨h, by simp [h, State.oweRoll]⟩
  · exact .inr ⟨h, by simp [h]⟩

theorem State.silenced_records (p : Nat) (s : State) :
    (s.silenced p).records = s.records.map (Circuit.unmark p ((s.peer p).rollOut == .sending) true) := by
  rw [State.silenced, State.clearScopeMarks_records]
  simp only [State.dropRequests_keeps, State.emptyLists_keeps]
  show List.map _ (State.records (if (s.peer p).rollOut = .sending then s.oweRoll p else s)) = _
  rcases s.oweSending_cases p with ⟨h, e⟩ | ⟨h, e⟩ <;> rw [e]
  · show List.map _ (s.clearRollMarks p).records = _
    simp only [State.clearRollMarks_records, List.map_map, Function.comp_def, Circuit.unmark_unmark, h, Bool.or_false,
      Bool.false_or, beq_self_eq_true]
  · simp [beq_eq_false_iff_ne.mpr h]

theorem State.mapFlying_queue (f : InFlight → InFlight) (s : State) :
    (s.mapFlying f).line.queue = s.line.queue := by
  unfold State.mapFlying
  split <;> rfl

theorem State.mapFlying_lastSender (f : InFlight → InFlight) (s : State) :
    (s.mapFlying f).line.lastSender = s.line.lastSender := by
  unfold State.mapFlying
  split <;> rfl

theorem State.peer_emptyLists (p q : Nat) (s : State) : (s.emptyLists p).peer q =
    if q = p ∧ p < s.peers.length then { s.peer p with verdicts := [], releases := [] } else s.peer q := by
  have lists : (s.emptyLists p).peer q = (s.updPeer p (fun x => { x with verdicts := [], releases := [] })).peer q :=
    State.peer_congr (by simp [State.emptyLists]) q
  rw [lists, State.peer_updPeer]

/-- The peer's record at its silence, but for its lists (R55). -/
def Peer.hush (x : Peer) : Peer := { x with presence := .silent, channel := .idle, wants := .clear }

theorem State.length_updPeer (p : Nat) (f : Peer → Peer) (s : State) :
    (s.updPeer p f).peers.length = s.peers.length := by
  simp [State.updPeer, State.setPeer]

/-- What the silence of a peer leaves of its record (R54, R55). -/
def Peer.silenced (x : Peer) : Peer :=
  { x with
    presence := .silent, channel := .idle, verdicts := [], releases := []
    rollOut := if x.rollOut = .sending then .owed else x.rollOut
    wants := { roll := false, rollOffer := false, singleOffer := false, answer := false, release := false } }

theorem State.peer_silenced (hp : p < s.peers.length) (q : Nat) :
    (s.silenced p).peer q = if q = p then (s.peer p).silenced else s.peer q := by
  have follow (v : State) (hv : p < v.peers.length) :
      ((((v.updPeer p Peer.hush).emptyLists p).dropRequests p).clearScopeMarks p).peer q = if q = p then { (v.peer p).hush with verdicts := [], releases := [] } else v.peer q := by
    have dropped : ((((v.updPeer p Peer.hush).emptyLists p).dropRequests p).clearScopeMarks p).peer q =
        ((v.updPeer p Peer.hush).emptyLists p).peer q := State.peer_congr (by simp) q
    have length : p < (v.updPeer p Peer.hush).peers.length := by rwa [State.length_updPeer]
    rw [dropped, State.peer_emptyLists]
    simp only [length, State.peer_updPeer, hv, and_true, if_true]
    split <;> rfl
  show ((((State.updPeer p Peer.hush _).emptyLists p).dropRequests p).clearScopeMarks p).peer q = _
  rcases s.oweSending_cases p with ⟨h, e⟩ | ⟨h, e⟩ <;> rw [e]
  · have marks (q : Nat) : (s.clearRollMarks p).peer q = s.peer q := rfl
    rw [follow _ (by rwa [State.setRollOut, State.length_updPeer]), State.peer_setRollOut,
      State.peer_setRollOut, marks, marks]
    by_cases hq : q = p
    · simp [hq, hp, Peer.silenced, Peer.hush, h, WantMarks.clear]
    · simp [hq]
  · rw [follow s hp]
    simp [Peer.silenced, Peer.hush, h, WantMarks.clear]

theorem State.silenced_queue (p : Nat) (s : State) :
    (s.silenced p).line.queue = s.line.queue.filter (fun q => q.peer != some p) := by
  have dropped (u : State) : (u.dropRequests p).line.queue = u.line.queue.filter (fun q => q.peer != some p) := by
    rw [State.dropRequests, State.mapFlying_queue]
    rfl
  show (State.dropRequests p _).line.queue = _
  rw [dropped, State.emptyLists, State.mapFlying_queue]
  rcases s.oweSending_cases p with ⟨_, e⟩ | ⟨_, e⟩ <;> rw [e] <;> rfl

/-- The flags, the notices, the store and the station state are as they were. -/
theorem State.silenced_frame (p : Nat) (s : State) :
    (s.silenced p).events = s.events ∧ (s.silenced p).notices = s.notices ∧ (s.silenced p).store = s.store ∧ (s.silenced p).ctl = s.ctl := by
  simp only [State.silenced]
  rcases s.oweSending_cases p with ⟨_, e⟩ | ⟨_, e⟩ <;> rw [e] <;> simp

theorem State.tableOk_silenced (ok : s.tableOk) (p : Nat) : (s.silenced p).tableOk := by
  have owed : s.Tends (if (s.peer p).rollOut = .sending then s.oweRoll p else s) :=
    (State.Tends.refl s).oweRoll.ite (.refl s)
  exact owed.updPeer.emptyLists.dropRequests.clearScopeMarks.tableOk ok

/-! ### The records -/

theorem Relink.settles_unsettled : Relink.Settles Relink.unsettled := ⟨rfl, fun _ => rfl⟩

/-- What the silence of a peer does to the records, once its own blocks have followed it (R42). -/
theorem State.turns_goSilent (ok : s.tableOk) (p : Nat) : (s.silenced p).Turns
    (fun r x => r.DefersIf (s.Minds ∧ r.farSlot = p ∧ r.state.unsettled = true) x) (s.goSilent p) := by
  have ok' := State.tableOk_silenced ok p
  obtain ⟨_, _, _, ctl⟩ := s.silenced_frame p
  rw [State.goSilent_eq, State.minding_congr ctl]
  split
  case isTrue h =>
    have minds := s.minding_iff.mp h
    refine (State.turns_deferTowards Relink.settles_unsettled ok' p).trans (State.turns_judgeEnd _) fun r x y hx hy => ?_
    refine ((hx.trans (b := False) ⟨False.elim, fun _ => hy⟩ fun _ => id).congr ?_)
    simp [minds]
  case isFalse h =>
    exact (State.turns_judgeEnd _).mono fun r _ x hx =>
      ⟨fun ⟨minds, _⟩ => absurd (s.minding_iff.mpr minds) h, fun _ => hx⟩

theorem State.goSilent_of_mem (ok : s.tableOk) (p : Nat) (hr : r ∈ s.records) : ∃ x ∈ (s.goSilent p).records,
    (r.unmark p ((s.peer p).rollOut == .sending) true).DefersIf
      (s.Minds ∧ r.farSlot = p ∧ r.state.unsettled = true) x := by
  obtain ⟨x, hx, h⟩ := (State.turns_goSilent ok p).of_mem (s.silenced_records p ▸ List.mem_map_of_mem hr)
  exact ⟨x, hx, h.congr (by simp)⟩

theorem State.goSilent_mem (ok : s.tableOk) (hx : x ∈ (s.goSilent p).records) : ∃ r ∈ s.records,
    (r.unmark p ((s.peer p).rollOut == .sending) true).DefersIf
      (s.Minds ∧ r.farSlot = p ∧ r.state.unsettled = true) x := by
  obtain ⟨y, hy, h⟩ := (State.turns_goSilent ok p).mem hx
  obtain ⟨r, hr, rfl⟩ := List.mem_map.mp (s.silenced_records p ▸ hy)
  exact ⟨r, hr, h.congr (by simp)⟩

theorem State.mem_inClassOrder_iff (ok : s.tableOk) {test : Circuit → Bool} :
    r ∈ s.inClassOrder test ↔ r ∈ s.records ∧ test r = true := by
  simp only [State.inClassOrder, List.mem_flatMap, List.mem_range, List.mem_filter, Bool.and_eq_true, beq_iff_eq]
  constructor
  · rintro ⟨_, _, hr, _, htest⟩
    exact ⟨hr, htest⟩
  · rintro ⟨hr, htest⟩
    obtain ⟨_, _, _, _, _, hcls, _⟩ := ok.inRange hr
    exact ⟨r.cls, by omega, hr, rfl, htest⟩

/-- Where the station minds its records, with which notices and with DEFERRAL. -/
theorem State.goSilent_told (ok : s.tableOk) (minds : s.Minds) (p : Nat) :
    let hit := s.inClassOrder (fun r => r.farSlot == p && (r.state == .parked || r.state == .offered))
    (s.notices.length + hit.length ≤ 32 → (s.goSilent p).notices = s.notices ++ noticesOf .deferred hit) ∧
      (hit ≠ [] → (s.goSilent p).events.has .deferral = true) := by
  intro hit
  obtain ⟨_, notices, _, ctl⟩ := s.silenced_frame p
  obtain ⟨told, flag⟩ := State.deferUnmarked_told Relink.settles_unsettled (State.tableOk_silenced ok p)
    (s.silenced_records p) notices
  have judged (u : State) : u.judgeEnd.notices = u.notices := by simp
  rw [State.goSilent_eq, State.minding_congr ctl, if_pos (s.minding_iff.mpr minds), judged]
  exact ⟨told, fun some => (State.turns_judgeEnd _).flags _ (flag some)⟩

theorem State.goSilent_of_not_minds (h : ¬ s.Minds) (p : Nat) : s.goSilent p = s.silenced p := by
  obtain ⟨_, _, _, ctl⟩ := s.silenced_frame p
  have idle : s.minding ≠ true := fun e => h (s.minding_iff.mp e)
  rw [State.goSilent_eq, State.minding_congr ctl, if_neg idle]
  exact State.judgeEnd_of_ne fun e => h (.inl (s.running_iff.mpr (.inl (ctl ▸ e))))

end Sys2Proof.Machine

open Sys2Proof Sys2Proof.Machine

/-- Settles O30: what waited for the peer has gone before its records are judged, and the walk over them does the rest. -/
theorem silentPeer : Obligations.SilentPeer := by
  intro p s safe hp present due hit ended
  have length : p < s.peers.length := by
    obtain ⟨count, _⟩ := safe.peers
    omega
  have gone : exec (.peerSilent p) s = .next (s.goSilent p) := by
    show Host.Outcome.next (s.takeSilence p) = _
    rw [State.takeSilence, if_pos (by simp [Peer.silenceDue, present, due])]
  have turns := State.turns_goSilent safe.table p
  have records := s.silenced_records p
  obtain ⟨events, notices, store, _⟩ := s.silenced_frame p
  have peer (q : Nat) : (s.goSilent p).peer q = if q = p then (s.peer p).silenced else s.peer q := by
    rw [State.peer_congr turns.peers, State.peer_silenced length]
  have hit_iff (r : Circuit) : r ∈ hit ↔ r ∈ s.records ∧ r.farSlot = p ∧ r.state.unsettled = true := by
    rw [State.mem_inClassOrder_iff safe.table]
    simp [Relink.unsettled]
  refine ⟨s.goSilent p, gone, ?_, fun q hq => ?_, fun req h => ?_, fun req h hreq => ?_, fun minds => ⟨?_, ?_, ?_⟩,
    fun minds => ?_, fun r hr stays => ?_, fun x hx hfar => ?_, turns.store.trans store⟩
  · rw [peer, if_pos rfl]
    rfl
  · rw [peer, if_neg hq]
  · rcases turns.posted req h with h | rfl
    · rw [s.silenced_queue] at h
      simpa using (List.mem_filter.mp h).2
    · simp [Request.peer]
  · refine turns.queued req ?_
    rw [s.silenced_queue]
    exact List.mem_filter.mpr ⟨h, by simpa using hreq⟩
  · exact (State.goSilent_told safe.table minds p).1
  · exact (State.goSilent_told safe.table minds p).2
  · intro r hr
    obtain ⟨hmem, act⟩ := (hit_iff r).mp hr
    obtain ⟨x, hx, h⟩ := State.goSilent_of_mem safe.table p hmem
    obtain ⟨hkept, hst, hdue, hsend⟩ := h.1 ⟨minds, act⟩
    obtain ⟨hret, hlane, _⟩ := Circuit.kept_iff.mp hkept
    exact ⟨x, hx, by simpa using hret, hst, by simpa using hlane, hdue, hsend⟩
  · rw [State.goSilent_of_not_minds minds]
    refine ⟨notices, events, records.trans (List.map_congr_left fun r _ => ?_)⟩
    simp only [Circuit.unmark, Bool.not_true, Bool.and_false]
    rfl
  · obtain ⟨x, hx, h⟩ := State.goSilent_of_mem safe.table p hr
    have stayed := h.2 fun ⟨minds, act⟩ => stays minds ((hit_iff r).mpr ⟨hr, act⟩)
    obtain ⟨hret, hlane, _⟩ := Circuit.kept_iff.mp stayed.kept_eq
    refine ⟨x, hx, by simpa using hret, by simpa using hlane, ?_⟩
    rcases stayed with rfl | ⟨hst, hx, _⟩
    · simp
    · exact .inr ⟨by simpa using hst, hx⟩
  · obtain ⟨r, hr, h⟩ := State.goSilent_mem safe.table hx
    obtain ⟨_, _, hroll, hscope⟩ := Circuit.kept_iff.mp h.kept_eq
    have far : r.farSlot = p := by
      have fixed := Circuit.fixed_of_kept h.kept_eq
      rw [Circuit.unmark_toFixed] at fixed
      rw [← fixed, hfar]
    refine ⟨by simp [hscope, Circuit.unmark, far], fun sent => ?_, fun minds => ?_⟩
    · rw [hroll, show ((s.peer p).rollOut == .sending) = true from sent]
      simp [Circuit.unmark, far]
    by_cases act : r.state.unsettled = true
    · obtain ⟨_, hst, _⟩ := h.1 ⟨minds, far, act⟩
      simp [hst]
    · have stayed := h.2 fun ⟨_, _, on⟩ => act on
      have same := stayed.cond_eq Relink.settles_unsettled
      rw [Circuit.unmark_state, Bool.eq_false_iff.mpr act] at same
      simpa [Relink.unsettled] using same
end

section
/-! PROOF. What recognising a restart leaves due (O45): no operation that follows a header makes a step fall due. -/

namespace Sys2Proof.Machine

variable {s t u : State} {r x : Circuit} {p q : Nat}

/-! ### Steps that fall due -/

/-- A sweep has left a step of the peer waiting (R54, R79). -/
def Peer.due (x : Peer) : Bool := x.silenceDue || x.abandonDue

/-- A sweep has left the resend of the record waiting (R28). -/
def Circuit.resends (r : Circuit) : Bool := r.resendDue && r.state == .offered

/-- Nothing is due in `t` that was not due in `s`. -/
structure State.Undue (s t : State) : Prop extends State.Quiet s t where
  resends : ∀ x ∈ t.records, x.resends = true → ∃ r ∈ s.records, r.resends = true
  echoes : ∀ x ∈ t.records, x.echoDue = true → ∃ r ∈ s.records, r.echoDue = true
  peers : ∀ q, (t.peer q).due = true → (s.peer q).due = true

/-- What the end of RELINK tells nothing of is as it was. -/
theorem State.Quiet.ctl_congr {β : Type} (h : s.Quiet t) (g : Station → β)
    (hg : ∀ c : Station, c.st = .relink → g { c with st := .service } = g c) : g t.ctl = g s.ctl := by
  rcases h.station with e | ⟨hst, e⟩ <;> rw [e]
  exact hg _ hst

theorem State.Quiet.running (h : s.Quiet t) : t.running = s.running :=
  h.ctl_congr (fun c => c.st == .relink || c.st == .service) fun c hst => by simp [hst]

theorem State.Quiet.holding (h : s.Quiet t) : t.holding = s.holding :=
  h.ctl_congr (fun c => c.st == .relink || c.st == .service || c.st == .quiesce) fun c hst => by simp [hst]

theorem State.peer_eq_getElem {q : Nat} (hq : q < s.peers.length) : s.peer q = s.peers[q] := by
  simp [State.peer, List.getD_eq_getElem?_getD, hq]

/-- What holds of no peer of the table and not at the start values holds of no slot. -/
theorem State.forall_peers {g : Peer → Bool} (hg : g Peer.start = false) (s : State) :
    (∀ x ∈ s.peers, g x = false) ↔ ∀ q, g (s.peer q) = false := by
  refine ⟨fun h q => ?_, fun h x hx => ?_⟩
  · by_cases hq : q < s.peers.length
    · rw [State.peer_eq_getElem hq]
      exact h _ (List.getElem_mem hq)
    · rwa [State.peer_of_length_le (not_lt.mp hq)]
  · obtain ⟨q, hq, rfl⟩ := List.getElem_of_mem hx
    rw [← State.peer_eq_getElem hq]
    exact h q

theorem State.peers_calm (s : State) : s.peers.any Peer.due = false ↔ ∀ q, (s.peer q).due = false := by
  rw [← State.forall_peers rfl, List.any_eq_false]
  simp

/-- Once a start has ended, that no due step waits, counter by counter. -/
theorem State.calm_iff (hst : s.ctl.st ≠ .starting) : s.calm ↔ (∀ q, (s.peer q).due = false) ∧ s.sweep.beaconCount < 4 ∧
    (∀ r ∈ s.records, r.resends = false) ∧ s.listenDue = false ∧
    (s.running = true → ∀ q ∈ s.hw.probes, q.ended = false) ∧
    (s.holding = true → ∀ r ∈ s.records, r.echoDue = false) := by
  have started : s.startDue = false := by simp [State.startDue, hst]
  have any : s.anyDue = (s.peers.any Peer.due || decide (4 ≤ s.sweep.beaconCount) || s.records.any Circuit.resends ||
      s.listenDue || (s.running && s.hw.probes.any Probe.ended) || (s.holding && s.records.any Circuit.echoDue)) := by
    rw [State.anyDue, started, Bool.false_or]
    rfl
  rw [State.calm, any, ← State.peers_calm]
  simp [and_assoc, Bool.and_eq_false_imp]

theorem State.Undue.calm (h : s.Undue t) (calm : s.calm) (hst : s.ctl.st ≠ .starting) : t.calm := by
  have hst' : t.ctl.st ≠ .starting := by
    rcases h.station with e | ⟨_, e⟩ <;> simp [e, hst]
  obtain ⟨peers, beacon, resends, listen, probes, echoes⟩ := (State.calm_iff hst).mp calm
  refine (State.calm_iff hst').mpr ⟨fun q => ?_, ?_, fun x hx => ?_, ?_, fun run q hq => ?_, fun hold x hx => ?_⟩
  · exact Bool.eq_false_iff.mpr fun due => Bool.eq_false_iff.mp (peers q) (h.peers q due)
  · rcases h.beacon with e | e <;> omega
  · refine Bool.eq_false_iff.mpr fun due => ?_
    obtain ⟨r, hr, was⟩ := h.resends x hx due
    exact Bool.eq_false_iff.mp (resends r hr) was
  · rcases h.station with e | ⟨_, e⟩
    · simpa only [State.listenDue, e] using listen
    · simp [State.listenDue, e]
  · exact (h.probes q hq).elim (probes (h.running ▸ run) q) id
  · refine Bool.eq_false_iff.mpr fun due => ?_
    obtain ⟨r, hr, was⟩ := h.echoes x hx due
    exact Bool.eq_false_iff.mp (echoes (h.holding ▸ hold) r hr) was

/-! ### One rule per operation -/

theorem State.Undue.refl (s : State) : s.Undue s :=
  ⟨.of_eq rfl rfl rfl rfl, fun x hx h => ⟨x, hx, h⟩, fun x hx h => ⟨x, hx, h⟩, fun _ h => h⟩

theorem State.Undue.trans (h : s.Undue t) (k : t.Undue u) : s.Undue u where
  toQuiet := h.toQuiet.trans k.toQuiet
  resends := fun x hx due => by
    obtain ⟨r, hr, was⟩ := k.resends x hx due
    exact h.resends r hr was
  echoes := fun x hx due => by
    obtain ⟨r, hr, was⟩ := k.echoes x hx due
    exact h.echoes r hr was
  peers := fun q due => h.peers q (k.peers q due)

/-- Marks, flags, notices and requests are no part of what is due. -/
theorem State.Undue.of_eq (quiet : s.Quiet t) {p : Nat} {a b : Bool}
    (hrec : t.records = s.records.map (Circuit.unmark p a b)) (hpeers : ∀ q, (t.peer q).due = true → (s.peer q).due = true) : s.Undue t := by
  have watched (r : Circuit) : (r.unmark p a b).echoDue = r.echoDue := by simp only [Circuit.echoDue, Circuit.unmark_state]
  refine ⟨quiet, fun x hx due => ?_, fun x hx due => ?_, hpeers⟩
  · obtain ⟨r, hr, rfl⟩ := List.mem_map.mp (hrec ▸ hx)
    exact ⟨r, hr, by simpa [Circuit.resends] using due⟩
  · obtain ⟨r, hr, rfl⟩ := List.mem_map.mp (hrec ▸ hx)
    exact ⟨r, hr, by rwa [watched] at due⟩

theorem State.map_unmark_none (p : Nat) (s : State) : s.records.map (Circuit.unmark p false false) = s.records := by
  rw [funext (Circuit.unmark_none p)]
  exact List.map_id _

theorem State.Undue.ite {c : Prop} [Decidable c] (h : s.Undue t) (k : s.Undue u) : s.Undue (if c then t else u) := by
  split <;> assumption

theorem State.Undue.raise (h : s.Undue t) {f : EventFlag} : s.Undue (t.raise f) :=
  h.trans (.of_eq (.of_eq rfl rfl rfl rfl) (State.map_unmark_none 0 t).symm fun _ due => due)

theorem State.Undue.updPeer (h : s.Undue t) {f : Peer → Peer} (hf : ∀ x, (f x).due = true → x.due = true) :
    s.Undue (t.updPeer p f) := by
  refine h.trans (.of_eq (.of_eq rfl rfl rfl rfl) (State.map_unmark_none 0 t).symm fun q due => ?_)
  rw [State.peer_updPeer] at due
  split at due
  · obtain ⟨rfl, _⟩ := ‹_ ∧ _›
    exact hf _ due
  · exact due

theorem State.Undue.clearRollMarks (h : s.Undue t) : s.Undue (t.clearRollMarks p) :=
  h.trans (.of_eq (.of_eq rfl rfl rfl rfl) (State.clearRollMarks_records p t) fun _ due => due)

theorem State.Undue.clearScopeMarks (h : s.Undue t) : s.Undue (t.clearScopeMarks p) :=
  h.trans (.of_eq (.of_eq rfl rfl rfl rfl) (State.clearScopeMarks_records p t) fun _ due => due)

theorem State.Undue.emptyLists (h : s.Undue t) : s.Undue (t.emptyLists p) := by
  refine h.trans (.of_eq (.of_eq (by simp) (by simp) (by simp) ?_)
    ((by simp : _ = t.records).trans (State.map_unmark_none 0 t).symm) fun q due => ?_)
  · rw [State.emptyLists, State.mapFlying_lastSender]
    rfl
  · rw [State.peer_emptyLists] at due
    split at due
    · obtain ⟨rfl, _⟩ := ‹_ ∧ _›
      exact due
    · exact due

theorem State.Undue.setRollOut (h : s.Undue t) {x : RollOut} : s.Undue (t.setRollOut p x) := h.updPeer fun _ due => due

theorem State.Undue.request (h : s.Undue t) {req : Request} : s.Undue (t.request req) := by
  refine h.trans (.of_eq (.of_eq (by simp) (by simp) (by simp) (by simp))
    ((by simp : _ = t.records).trans (State.map_unmark_none 0 t).symm) fun q due => ?_)
  obtain ⟨w, hw⟩ := t.peer_request req q
  rw [hw] at due
  exact due

theorem State.Undue.pass (h : s.Undue t) : s.Undue (t.pass p) := h.request.ite h

theorem State.Undue.checkSingle (h : s.Undue t) : s.Undue (t.checkSingle p) := h.request.ite h

/-- An opening and a deferral leave nothing due of a record. -/
theorem State.Turns.undue {hit : Circuit → Prop} (h : s.Turns (fun r x => r.DefersIf (hit r) x) t) : s.Undue t := by
  have was {x : Circuit} (hx : x ∈ t.records) : x ∈ s.records ∨ x.state = .deferred ∨ x.state.isProbing = true := by
    obtain ⟨r, hr, act⟩ := h.mem hx
    by_cases c : hit r
    · obtain ⟨_, hst, _⟩ := act.1 c
      exact .inr (.inl hst)
    · rcases act.2 c with rfl | ⟨_, hst, _⟩
      · exact .inl hr
      · exact .inr (.inr hst)
  refine ⟨h.toQuiet, fun x hx due => ?_, fun x hx due => ?_, fun q due => State.peer_congr h.peers q ▸ due⟩
  · refine ⟨x, (was hx).resolve_right fun hst => ?_, due⟩
    rcases hst with hst | hst
    · simp [Circuit.resends, hst] at due
    · obtain ⟨k, hk⟩ := Relink.eq_probing hst
      simp [Circuit.resends, hk] at due
  · refine ⟨x, (was hx).resolve_right fun hst => ?_, due⟩
    rcases hst with hst | hst
    · simp [Circuit.echoDue, hst] at due
    · obtain ⟨k, hk⟩ := Relink.eq_probing hst
      simp [Circuit.echoDue, hk] at due

theorem State.Undue.judgeEnd (h : s.Undue t) : s.Undue t.judgeEnd := by
  have turns := (State.turns_judgeEnd t).mono (R' := fun r x => r.DefersIf False x)
    fun _ _ _ stays => ⟨False.elim, fun _ => stays⟩
  exact h.trans turns.undue

theorem State.Undue.oweRoll (h : s.Undue t) : s.Undue (t.oweRoll p) := (h.clearRollMarks.ite h).setRollOut

theorem State.Undue.cutChannel (h : s.Undue t) : s.Undue (t.cutChannel p) := by
  unfold State.cutChannel
  split
  · exact h
  · refine (h.updPeer fun x due => ?_).clearScopeMarks
    rcases Bool.or_eq_true_iff.mp due with due | due
    · exact Bool.or_eq_true_iff.mpr (.inl due)
    · cases due

theorem State.Undue.warmRestart (h : s.Undue t) {a : Announced} : s.Undue (t.warmRestart p a) :=
  (h.ite h.oweRoll).cutChannel.raise

end Sys2Proof.Machine
end

section
/-! PROOF. What a header reveals (O45): a cold restart, a warm restart or an arrival, and the leaving of SETUP. -/

namespace Sys2Proof.Machine

variable {s t : State} {r x : Circuit} {p : Nat} {e : Byte} {a : Announced}

/-! ### The end of RELINK -/

/-- A roll to the peer is still to be made or under way (R156). -/
def Peer.outstanding (x : Peer) : Bool := x.up && x.rollOut != .none

theorem State.relinkDone_iff (s : State) : s.relinkDone = true ↔ s.ctl.st = .relink ∧ s.ctl.listenOver = true ∧
    (∀ q, (s.peer q).outstanding = false) ∧ ∀ r ∈ s.records, (r.state.holds || r.state.isProbing) = false := by
  have peers : s.peers.all (fun x => !x.outstanding) = true ↔ ∀ q, (s.peer q).outstanding = false := by
    rw [← State.forall_peers rfl, List.all_eq_true]
    simp
  rw [← peers]
  simp only [State.relinkDone, Bool.and_eq_true, beq_iff_eq, List.all_eq_true, Bool.not_eq_true', and_assoc]
  rfl

theorem State.relinkDone_of_outstanding (h : (s.peer p).outstanding = true) : s.relinkDone = false := by
  refine Bool.eq_false_iff.mpr fun done => ?_
  obtain ⟨_, _, peers, _⟩ := s.relinkDone_iff.mp done
  exact Bool.eq_false_iff.mp (peers p) h

/-- RELINK ends no sooner where every roll is outstanding that was, and every record is in the state it was in. -/
theorem State.relinkDone_mono (hdone : s.relinkDone = false) (hctl : t.ctl = s.ctl)
    (hpeers : ∀ q, (s.peer q).outstanding = true → (t.peer q).outstanding = true)
    (hrec : ∀ r ∈ s.records, ∃ x ∈ t.records, x.state = r.state) : t.relinkDone = false := by
  refine Bool.eq_false_iff.mpr fun done => Bool.eq_false_iff.mp hdone ?_
  obtain ⟨station, listened, peers, records⟩ := t.relinkDone_iff.mp done
  refine s.relinkDone_iff.mpr ⟨hctl ▸ station, hctl ▸ listened, fun q => ?_, fun r hr => ?_⟩
  · exact Bool.eq_false_iff.mpr fun was => Bool.eq_false_iff.mp (peers q) (hpeers q was)
  · obtain ⟨x, hx, hst⟩ := hrec r hr
    rw [← hst]
    exact records x hx

/-- What is judged is not judged again. -/
theorem State.relinkDone_judgeEnd (s : State) : s.judgeEnd.relinkDone = false := by
  unfold State.judgeEnd
  split
  · have : (State.announce (State.raise .relinkDone (s.setStation .service))).ctl.st = .service := by
      simp [State.setStation]
    refine Bool.eq_false_iff.mpr fun done => ?_
    obtain ⟨station, _⟩ := State.relinkDone_iff _ |>.mp done
    rw [this] at station
    cases station
  · simpa using ‹¬ s.relinkDone = true›

theorem State.judgeEnd_of_open (h : s.relinkDone = false) : s.judgeEnd = s := by simp [State.judgeEnd, h]

/-! ### A header taken -/

/-- The record of a peer that a frame has been heard from (R53). -/
def Peer.meet (e : Byte) (a : Announced) (x : Peer) : Peer :=
  { x with presence := .present, sinceHeard := 0, epoch := some e, st := some a }

/-- The header is written to the record of its source. -/
def State.meet (p : Nat) (e : Byte) (a : Announced) (s : State) : State := s.updPeer p (Peer.meet e a)

/-- What waits for the peer is let go as far as it may (R67, R73). -/
def State.release (p : Nat) (s : State) : State := (s.pass p).checkSingle p

theorem State.heard_of_restart (haddr : s.addressable p = true) (hawake : s.awake = true)
    (hclass : classify (s.peer p) e a ≠ .nothing) :
    s.heard p e a = (((s.recognise p e a).meet p e a).release p).judgeEnd := by
  simp only [State.heard, haddr, hawake, hclass, if_true, ne_eq, not_false_eq_true, and_self]
  rfl

theorem State.heard_of_nothing (haddr : s.addressable p = true) (hclass : classify (s.peer p) e a = .nothing) :
    s.heard p e a = (s.meet p e a).judgeEnd := by
  simp only [State.heard, haddr, hclass, State.recognise, if_true, ite_self, ne_eq, not_true_eq_false, and_false, if_false]
  rfl

theorem State.peer_meet (hp : p < s.peers.length) (q : Nat) :
    (s.meet p e a).peer q = if q = p then (s.peer p).meet e a else s.peer q := by
  rw [State.meet, State.peer_updPeer]
  simp only [hp, and_true]

/-- What is let go takes nothing but requests and want marks. -/
theorem State.peer_release (p q : Nat) (s : State) : ∃ w, (s.release p).peer q = { s.peer q with wants := w } := by
  obtain ⟨w, hw⟩ := (s.pass p).peer_checkSingle p q
  obtain ⟨w', hw'⟩ := s.peer_pass p q
  exact ⟨w, by rw [State.release, hw, hw']⟩

theorem State.release_frame (p : Nat) (s : State) : (s.release p).records = s.records ∧ (s.release p).store = s.store ∧
    (s.release p).ctl = s.ctl ∧ (s.release p).events = s.events ∧ (s.release p).notices = s.notices := by
  simp [State.release]

/-- A roll that is releasable is let go (R66, R67). -/
theorem State.owes_release (hp : p < s.peers.length) (h : s.releasable p = true) : (s.release p).owes (.roll p) := by
  refine State.owes_checkSingle ?_
  rw [State.pass, if_pos h]
  exact State.owes_request_self fun q hq => by
    obtain rfl : p = q := by simpa [Request.peer] using hq
    exact hp

/-- For a peer in SETUP nothing is let go. -/
theorem State.release_of_not_up (h : (s.peer p).up = false) : s.release p = s := by
  have pass : s.pass p = s := by simp [State.pass, State.releasable, h]
  simp [State.release, pass, State.checkSingle, h]

/-! ### A warm restart or an arrival -/

/-- What a warm restart leaves of the peer's record (R58). -/
def Peer.warmed (a : Announced) (x : Peer) : Peer :=
  { x with rollOut := if a = .setup then x.rollOut else .owed, channel := .idle }

theorem State.oweRoll_records (p : Nat) (s : State) :
    (s.oweRoll p).records = s.records.map (Circuit.unmark p ((s.peer p).rollOut == .sending) false) := by
  show State.records (if (s.peer p).rollOut = .sending then s.clearRollMarks p else s) = _
  by_cases h : (s.peer p).rollOut = .sending
  · rw [if_pos h, State.clearRollMarks_records]
    simp [h]
  · rw [if_neg h, beq_eq_false_iff_ne.mpr h, State.map_unmark_none]

theorem State.peer_oweRoll (hp : p < s.peers.length) (q : Nat) :
    (s.oweRoll p).peer q = if q = p then { s.peer p with rollOut := .owed } else s.peer q := by
  have cleared (q : Nat) : State.peer q (if (s.peer p).rollOut = .sending then s.clearRollMarks p else s) = s.peer q := by
    split <;> rfl
  have length : p < (if (s.peer p).rollOut = .sending then s.clearRollMarks p else s).peers.length := by
    split <;> exact hp
  rw [State.oweRoll, State.setRollOut, State.peer_updPeer, cleared, cleared]
  simp only [length, and_true]

theorem State.cutChannel_records (p : Nat) (s : State) :
    (s.cutChannel p).records = s.records.map (Circuit.unmark p false ((s.peer p).channel != .idle)) := by
  unfold State.cutChannel
  split
  case h_1 h => rw [h, show (Channel.idle != Channel.idle) = false from rfl, State.map_unmark_none]
  case h_2 h =>
    rw [State.clearScopeMarks_records, h]
    rfl

theorem State.peer_cutChannel (hp : p < s.peers.length) (q : Nat) :
    (s.cutChannel p).peer q = if q = p then { s.peer p with channel := .idle } else s.peer q := by
  unfold State.cutChannel
  split
  case h_1 h =>
    rw [← h]
    split
    · rename_i e
      rw [e]
    · rfl
  case h_2 h =>
    have cleared : State.peer q (State.clearScopeMarks p (s.updPeer p (fun x => { x with channel := .idle }))) =
        (s.updPeer p (fun x => { x with channel := .idle })).peer q := rfl
    rw [cleared, State.peer_updPeer]
    simp only [hp, and_true]

theorem State.warmRestart_records (hp : p < s.peers.length) (a : Announced) : (s.warmRestart p a).records = s.records.map
    (Circuit.unmark p ((s.peer p).rollOut == .sending && a != .setup) ((s.peer p).channel != .idle)) := by
  show (State.cutChannel p (if a = .setup then s else s.oweRoll p)).records = _
  rw [State.cutChannel_records]
  by_cases h : a = .setup
  · simp [h]
  · rw [if_neg h, State.oweRoll_records, State.peer_oweRoll hp, if_pos rfl, List.map_map]
    have up : (a != .setup) = true := bne_iff_ne.mpr h
    simp only [Function.comp_def, Circuit.unmark_unmark, up, Bool.or_false, Bool.false_or, Bool.and_true]

theorem State.peer_warmRestart (hp : p < s.peers.length) (a : Announced) (q : Nat) :
    (s.warmRestart p a).peer q = if q = p then (s.peer p).warmed a else s.peer q := by
  show State.peer q (State.cutChannel p (if a = .setup then s else s.oweRoll p)) = _
  have length : p < (if a = .setup then s else s.oweRoll p).peers.length := by
    split
    · exact hp
    · simpa [State.oweRoll, State.setRollOut, State.updPeer, State.setPeer] using (by split <;> exact hp)
  rw [State.peer_cutChannel length]
  by_cases h : a = .setup
  · simp [h, Peer.warmed]
  · simp only [h, if_false, State.peer_oweRoll hp, if_true, Peer.warmed]
    split <;> rfl

/-! ### A cold restart -/

/-- What a cold restart leaves of the peer's record (R57). -/
def Peer.cooled (x : Peer) : Peer :=
  { x with rollOut := .none, channel := .idle, verdicts := [], releases := [], wants :=
    { roll := false, rollOffer := false, singleOffer := false, answer := false, release := false } }

/-- The blocks that follow a cold restart, before the records are judged (R57, R60). -/
def State.restarted (p : Nat) (s : State) : State :=
  let s1 := if (s.peer p).rollOut = .sending then s.clearRollMarks p else s
  let s2 := (s1.updPeer p (fun x => { x with rollOut := .none, channel := .idle, wants := .clear })).emptyLists p
  (s2.clearScopeMarks p).raise .peerRestart

theorem State.coldRestart_eq (p : Nat) (s : State) : s.coldRestart p = if (s.restarted p).minding then
    (s.restarted p).deferMany Relink.notAside ((s.restarted p).towards p) else s.restarted p := rfl

theorem State.restarted_records (p : Nat) (s : State) :
    (s.restarted p).records = s.records.map (Circuit.unmark p ((s.peer p).rollOut == .sending) true) := by
  show (State.clearScopeMarks p _).records = _
  simp only [State.clearScopeMarks_records, State.emptyLists_keeps]
  show List.map _ (State.records (if (s.peer p).rollOut = .sending then s.clearRollMarks p else s)) = _
  by_cases h : (s.peer p).rollOut = .sending
  · rw [if_pos h, State.clearRollMarks_records, List.map_map]
    simp [Function.comp_def, Circuit.unmark_unmark, h]
  · rw [if_neg h, beq_eq_false_iff_ne.mpr h]

theorem State.peer_restarted (hp : p < s.peers.length) (q : Nat) :
    (s.restarted p).peer q = if q = p then (s.peer p).cooled else s.peer q := by
  have follow (v : State) (hv : p < v.peers.length) : State.peer q ((v.updPeer p
      (fun x => { x with rollOut := .none, channel := .idle, wants := .clear })).emptyLists p) =
      if q = p then (v.peer p).cooled else v.peer q := by
    rw [State.peer_emptyLists]
    simp only [State.length_updPeer, State.peer_updPeer, hv, and_true, if_true]
    split <;> rfl
  show State.peer q (State.emptyLists p _) = _
  rw [follow _ (by split <;> exact hp)]
  split <;> split <;> rfl

theorem State.restarted_frame (p : Nat) (s : State) : (s.restarted p).events = s.events.raise .peerRestart ∧
    (s.restarted p).notices = s.notices ∧ (s.restarted p).ctl = s.ctl := by
  simp only [State.restarted]
  split <;> simp [State.raise]

theorem State.undue_restarted (p : Nat) (s : State) : s.Undue (s.restarted p) := by
  have cleared : s.Undue (if (s.peer p).rollOut = .sending then s.clearRollMarks p else s) :=
    (State.Undue.refl s).clearRollMarks.ite (.refl s)
  refine (cleared.updPeer fun x due => ?_).emptyLists.clearScopeMarks.raise
  rcases Bool.or_eq_true_iff.mp due with due | due
  · exact Bool.or_eq_true_iff.mpr (.inl due)
  · cases due

theorem State.tableOk_restarted (ok : s.tableOk) (p : Nat) : (s.restarted p).tableOk := by
  have cleared : s.Tends (if (s.peer p).rollOut = .sending then s.clearRollMarks p else s) :=
    (State.Tends.refl s).clearRollMarks.ite (.refl s)
  exact cleared.updPeer.emptyLists.clearScopeMarks.raise.tableOk ok

theorem Relink.settles_notAside : Relink.Settles Relink.notAside := ⟨rfl, fun _ => rfl⟩

/-- What a cold restart does to the records, once the peer's own blocks have followed it (R41). -/
theorem State.turns_coldRestart (ok : s.tableOk) (p : Nat) : (s.restarted p).Turns
    (fun r x => r.DefersIf (s.Minds ∧ r.farSlot = p ∧ r.state.notAside = true) x) (s.coldRestart p) := by
  obtain ⟨_, _, ctl⟩ := s.restarted_frame p
  rw [State.coldRestart_eq, State.minding_congr ctl]
  split
  case isTrue h =>
    refine (State.turns_deferTowards Relink.settles_notAside (State.tableOk_restarted ok p) p).mono fun r _ x hx => ?_
    exact hx.congr (by simp [s.minding_iff.mp h])
  case isFalse h =>
    exact (State.Turns.refl _).mono fun r _ x hx => ⟨fun ⟨minds, _⟩ => absurd (s.minding_iff.mpr minds) h, fun _ => hx⟩

theorem State.peer_coldRestart (ok : s.tableOk) (hp : p < s.peers.length) (q : Nat) :
    (s.coldRestart p).peer q = if q = p then (s.peer p).cooled else s.peer q := by
  rw [State.peer_congr (State.turns_coldRestart ok p).peers, State.peer_restarted hp]

theorem State.coldRestart_of_not_minds (h : ¬ s.Minds) (p : Nat) : s.coldRestart p = s.restarted p := by
  obtain ⟨_, _, ctl⟩ := s.restarted_frame p
  rw [State.coldRestart_eq, State.minding_congr ctl, if_neg fun e => h (s.minding_iff.mp e)]

/-- Where the station minds its records, with which notices and with DEFERRAL. -/
theorem State.coldRestart_told (ok : s.tableOk) (minds : s.Minds) (p : Nat) :
    let hit := s.inClassOrder (fun r => r.farSlot == p && r.state != .deferred && r.state != .clashed)
    (s.notices.length + hit.length ≤ 32 → (s.coldRestart p).notices = s.notices ++ noticesOf .deferred hit) ∧
      (hit ≠ [] → (s.coldRestart p).events.has .deferral = true) := by
  intro hit
  obtain ⟨_, notices, ctl⟩ := s.restarted_frame p
  have acted : s.acted p Relink.notAside = hit := by
    refine congrArg (fun test => s.inClassOrder test) (funext fun r => ?_)
    rw [Relink.notAside, Bool.and_comm (r.state != .clashed), Bool.and_assoc]
  rw [← acted, State.coldRestart_eq, State.minding_congr ctl, if_pos (s.minding_iff.mpr minds)]
  exact State.deferUnmarked_told Relink.settles_notAside (State.tableOk_restarted ok p) (s.restarted_records p) notices

/-- Where the station minds its records none towards the peer is left in a state it could open from (R41). -/
theorem State.coldRestart_aside (ok : s.tableOk) (minds : s.Minds) (hx : x ∈ (s.coldRestart p).records)
    (hfar : x.farSlot = p) : x.state = .deferred ∨ x.state = .clashed := by
  obtain ⟨r, _, act⟩ := (State.turns_coldRestart ok p).mem hx
  have far : r.farSlot = p := by rw [← Circuit.fixed_of_kept act.kept_eq, hfar]
  by_cases on : r.state.notAside = true
  · obtain ⟨_, hst, _⟩ := act.1 ⟨minds, far, on⟩
    exact .inl hst
  · have same := (act.2 fun ⟨_, _, h⟩ => on h).cond_eq Relink.settles_notAside
    rw [Bool.eq_false_iff.mpr on] at same
    simpa [Relink.notAside, or_comm, Decidable.imp_iff_not_or] using same

end Sys2Proof.Machine
end

section
/-! PROOF. A BEACON that reveals a restart (O45): what its header does, and the state in which its payload is handed on. -/

namespace Sys2Proof.Machine

variable {s t : State} {f : LineFrame} {p : Nat} {e : Byte} {a : Announced}

/-! ### The table of R56, by what the header reveals -/

theorem classify_cold {x : Peer} (heard : x.presence ≠ .unheard) (h : x.st ≠ some .setup ∨ x.epoch ≠ some e) :
    classify x e .setup = .cold := by
  have changed : ¬ (x.st = some .setup ∧ x.epoch = some e) := by tauto
  cases hx : x.presence <;> simp_all [classify]

theorem classify_warm {x : Peer} (h : x.presence = .unheard ∨ (a ≠ .setup ∧ x.epoch ≠ some e) ∨
    (x.presence = .silent ∧ x.epoch = some e ∧ (a = .setup → x.st = some .setup))) :
    classify x e a = .arrival ∨ classify x e a = .warm := by
  rcases h with h | ⟨up, changed⟩ | ⟨silent, same, quiet⟩
  · simp [classify, h]
  · cases hx : x.presence <;> simp [classify, hx, up, changed]
  · by_cases up : a = .setup
    · simp [classify, silent, same, up, quiet up]
    · simp [classify, silent, same, up]

theorem classify_leaving {x : Peer} (present : x.presence = .present) (was : x.st = some .setup) (same : x.epoch = some e)
    (up : a ≠ .setup) : classify x e a = .leavingSetup := by
  simp [classify, present, was, same, up]

/-! ### What each reveals -/

theorem Peer.up_meet (x : Peer) : (x.meet e a).up = true ↔ a ≠ .setup := by cases a <;> simp [Peer.meet, Peer.up]

theorem State.length_warmRestart (p : Nat) (a : Announced) (s : State) :
    (s.warmRestart p a).peers.length = s.peers.length := by
  have owed (s : State) : (s.oweRoll p).peers.length = s.peers.length := by
    rw [State.oweRoll, State.setRollOut, State.length_updPeer]
    split <;> rfl
  have cut (s : State) : (s.cutChannel p).peers.length = s.peers.length := by
    unfold State.cutChannel
    split
    · rfl
    · exact State.length_updPeer p (fun x => { x with channel := .idle }) s
  show (State.cutChannel p (if a = .setup then s else s.oweRoll p)).peers.length = _
  rw [cut]
  split
  · rfl
  · exact owed s

theorem State.length_coldRestart (ok : s.tableOk) (p : Nat) : (s.coldRestart p).peers.length = s.peers.length := by
  have lists (s : State) : (s.emptyLists p).peers.length = s.peers.length := by
    simp [State.emptyLists, State.length_updPeer]
  rw [(State.turns_coldRestart ok p).peers]
  show (State.emptyLists p _).peers.length = _
  rw [lists, State.length_updPeer]
  split <;> rfl

theorem State.length_recognise (ok : s.tableOk) : (s.recognise p e a).peers.length = s.peers.length := by
  unfold State.recognise
  split
  · rfl
  · exact s.length_warmRestart p a
  · exact s.length_warmRestart p a
  · exact State.length_coldRestart ok p
  · exact State.length_updPeer _ _ _

/-- A cold restart lets nothing go: the peer is in SETUP. -/
theorem State.heard_of_cold (ok : s.tableOk) (hp : p < s.peers.length) (haddr : s.addressable p = true)
    (hawake : s.awake = true) (hclass : classify (s.peer p) e .setup = .cold) :
    s.heard p e .setup = ((s.coldRestart p).meet p e .setup).judgeEnd := by
  have length : p < (s.coldRestart p).peers.length := by rwa [State.length_coldRestart ok]
  have down : (((s.coldRestart p).meet p e .setup).peer p).up = false := by
    rw [State.peer_meet length, if_pos rfl, Bool.eq_false_iff, ne_eq, Peer.up_meet]
    simp
  rw [State.heard_of_restart haddr hawake (by simp [hclass]), State.recognise, hclass]
  simp only [State.release_of_not_up down]

/-- A warm restart or an arrival ends no RELINK: the roll to the peer is outstanding, or the peer is in SETUP as before. -/
theorem State.heard_of_warm (hp : p < s.peers.length) (haddr : s.addressable p = true) (hawake : s.awake = true)
    (hdone : s.relinkDone = false) (hclass : classify (s.peer p) e a = .arrival ∨ classify (s.peer p) e a = .warm)
    (hup : a = .setup → (s.peer p).up = false) : s.heard p e a = ((s.warmRestart p a).meet p e a).release p := by
  have length : p < (s.warmRestart p a).peers.length := by rwa [State.length_warmRestart]
  have recognised : s.recognise p e a = s.warmRestart p a := by rcases hclass with h | h <;> simp [State.recognise, h]
  have known : classify (s.peer p) e a ≠ .nothing := by rcases hclass with h | h <;> simp [h]
  have peer (q : Nat) : ∃ w, (((s.warmRestart p a).meet p e a).release p).peer q =
      { (if q = p then ((s.peer p).warmed a).meet e a else s.peer q) with wants := w } := by
    obtain ⟨w, hw⟩ := State.peer_release p q ((s.warmRestart p a).meet p e a)
    refine ⟨w, ?_⟩
    rw [hw, State.peer_meet length, State.peer_warmRestart hp, if_pos rfl]
    by_cases hq : q = p
    · simp [hq]
    · rw [if_neg hq, if_neg hq, State.peer_warmRestart hp, if_neg hq]
  obtain ⟨records, _, ctl, _, _⟩ := State.release_frame p ((s.warmRestart p a).meet p e a)
  rw [State.heard_of_restart haddr hawake known, recognised]
  refine State.judgeEnd_of_open ?_
  by_cases ha : a = .setup
  · refine State.relinkDone_mono hdone (by rw [ctl]; simp [State.meet]) (fun q was => ?_) fun r hr => ?_
    · obtain ⟨w, hw⟩ := peer q
      rw [hw]
      by_cases hq : q = p
      · rw [hq, Peer.outstanding, hup ha] at was
        cases was
      · rw [if_neg hq]
        exact was
    · refine ⟨_, ?_, r.unmark_state p ((s.peer p).rollOut == .sending && a != .setup) ((s.peer p).channel != .idle)⟩
      rw [records]
      show _ ∈ (s.warmRestart p a).records
      rw [State.warmRestart_records hp]
      exact List.mem_map_of_mem hr
  · obtain ⟨w, hw⟩ := peer p
    refine State.relinkDone_of_outstanding (p := p) ?_
    rw [hw, if_pos rfl]
    have up : (((s.peer p).warmed a).meet e a).up = true := (Peer.up_meet _).mpr ha
    exact Bool.and_eq_true_iff.mpr ⟨up, by simp [Peer.meet, Peer.warmed, ha]⟩

/-- Leaving SETUP ends no RELINK: the roll to the peer is outstanding. -/
theorem State.heard_of_leaving (hp : p < s.peers.length) (haddr : s.addressable p = true) (hawake : s.awake = true)
    (hclass : classify (s.peer p) e a = .leavingSetup) (ha : a ≠ .setup) :
    s.heard p e a = ((s.setRollOut p .owed).meet p e a).release p := by
  have length : p < (s.setRollOut p .owed).peers.length := by rwa [State.setRollOut, State.length_updPeer]
  have recognised : s.recognise p e a = s.setRollOut p .owed := by rw [State.recognise, hclass]
  rw [State.heard_of_restart haddr hawake (by simp [hclass]), recognised]
  obtain ⟨w, hw⟩ := State.peer_release p p ((s.setRollOut p .owed).meet p e a)
  refine State.judgeEnd_of_open (State.relinkDone_of_outstanding (p := p) ?_)
  rw [hw, State.peer_meet length, if_pos rfl, State.peer_setRollOut]
  simp only [hp, and_self, if_true]
  have up : (({ s.peer p with rollOut := .owed } : Peer).meet e a).up = true := (Peer.up_meet _).mpr ha
  exact Bool.and_eq_true_iff.mpr ⟨up, rfl⟩

/-! ### What a header leaves, whatever it reveals -/

theorem State.Undue.meet (h : s.Undue t) : s.Undue (t.meet p e a) := h.updPeer fun _ due => by
  simpa [Peer.due, Peer.meet, Peer.silenceDue, Peer.abandonDue] using .inr due

theorem State.undue_recognise (ok : s.tableOk) : s.Undue (s.recognise p e a) := by
  have warm : s.Undue (s.warmRestart p a) := (State.Undue.refl s).warmRestart
  unfold State.recognise
  split
  · exact .refl s
  · exact warm
  · exact warm
  · exact (s.undue_restarted p).trans (State.turns_coldRestart ok p).undue
  · exact (State.Undue.refl s).setRollOut

theorem State.heard_eq (haddr : s.addressable p = true) (hawake : s.awake = true) :
    s.heard p e a = (if classify (s.peer p) e a = .nothing then s.meet p e a
      else ((s.recognise p e a).meet p e a).release p).judgeEnd := by
  split
  · exact State.heard_of_nothing haddr ‹_›
  · exact State.heard_of_restart haddr hawake ‹_›

/-- No step falls due by a header. -/
theorem State.undue_heard (ok : s.tableOk) (haddr : s.addressable p = true) (hawake : s.awake = true) :
    s.Undue (s.heard p e a) := by
  rw [State.heard_eq haddr hawake]
  exact ((State.Undue.refl s).meet.ite (State.undue_recognise ok).meet.pass.checkSingle).judgeEnd

/-- The header stands in the record of its source (R53). -/
theorem State.peer_heard (ok : s.tableOk) (hp : p < s.peers.length) (haddr : s.addressable p = true)
    (hawake : s.awake = true) : ∃ x, (s.heard p e a).peer p = Peer.meet e a x := by
  have length : p < (s.recognise p e a).peers.length := by rwa [State.length_recognise ok]
  rw [State.heard_eq haddr hawake, State.peer_congr (State.judgeEnd_peers _)]
  split
  · exact ⟨s.peer p, by rw [State.peer_meet hp, if_pos rfl]⟩
  · obtain ⟨w, hw⟩ := State.peer_release p p ((s.recognise p e a).meet p e a)
    exact ⟨{ (s.recognise p e a).peer p with wants := w }, by rw [hw, State.peer_meet length, if_pos rfl]; rfl⟩

/-! ### The BEACON and the frame after it -/

/-- The source of a frame becomes the last sender (R137). -/
def State.sentBy (p : Nat) (s : State) : State := { s with line := { s.line with lastSender := p } }

/-- A BEACON to all with the right shelf size brings nothing but its header (R64). -/
theorem exec_beaconReceived_of_fits (ok : s.tableOk) (calm : s.calm) (hreset : s.ctl.resetHeld = false)
    (haddr : s.addressable f.src = true) (hawake : s.awake = true) (hfits : f.payload = [byteOf s.ctl.size]) :
    exec (.beaconReceived f) s = .next ((s.sentBy f.src).heard f.src f.epoch f.st) := by
  have undue : (s.sentBy f.src).Undue ((s.sentBy f.src).heard f.src f.epoch f.st) :=
    State.undue_heard (by exact ok) (by exact haddr) (by exact hawake)
  have size : ((s.sentBy f.src).heard f.src f.epoch f.st).ctl.size = s.ctl.size :=
    undue.ctl_congr Station.size fun _ _ => rfl
  rw [exec_beaconReceived calm hreset, State.handOn_beacon]
  have fits : f.payload = [byteOf ((s.sentBy f.src).heard f.src f.epoch f.st).ctl.size] := by rw [size, hfits]
  exact congrArg Host.Outcome.next (if_neg fun ⟨_, unfit⟩ => unfit fits)

/-- After it the header says nothing new, and no due step waits. -/
theorem State.hears_heard (ok : s.tableOk) (calm : s.calm) (hreset : s.ctl.resetHeld = false)
    (haddr : s.addressable f.src = true) (hawake : s.awake = true) (hp : f.src < s.peers.length) :
    ((s.sentBy f.src).heard f.src f.epoch f.st).hears f := by
  have undue : (s.sentBy f.src).Undue ((s.sentBy f.src).heard f.src f.epoch f.st) :=
    State.undue_heard (by exact ok) (by exact haddr) (by exact hawake)
  have awake : (s.sentBy f.src).ctl.st ≠ .starting := fun e => by
    have e : s.ctl.st = .starting := e
    simp [State.awake, State.holding, State.running, e] at hawake
  obtain ⟨x, hx⟩ := State.peer_heard (s := s.sentBy f.src) (e := f.epoch) (a := f.st) (by exact ok) (by exact hp)
    (by exact haddr) (by exact hawake)
  have addr : ((s.sentBy f.src).heard f.src f.epoch f.st).addressable f.src = true :=
    (undue.ctl_congr (fun c => decide (f.src < c.size) && f.src != c.slot) fun _ _ => rfl).trans haddr
  refine ⟨undue.calm (by exact calm) awake, (undue.ctl_congr Station.resetHeld fun _ _ => rfl).trans hreset, ?_, addr,
    ?_, ?_, ?_⟩
  · rw [State.heard_eq (by exact haddr) (by exact hawake)]
    exact State.relinkDone_judgeEnd _
  all_goals rw [hx]; rfl

/-- Hearing the header once more changes nothing. -/
theorem State.refreshed_heard (ok : s.tableOk) (haddr : s.addressable f.src = true) (hawake : s.awake = true)
    (hp : f.src < s.peers.length) : State.refreshed f ((s.sentBy f.src).heard f.src f.epoch f.st) =
      (s.sentBy f.src).heard f.src f.epoch f.st := by
  have undue : (s.sentBy f.src).Undue ((s.sentBy f.src).heard f.src f.epoch f.st) :=
    State.undue_heard (by exact ok) (by exact haddr) (by exact hawake)
  obtain ⟨x, hx⟩ := State.peer_heard (s := s.sentBy f.src) (e := f.epoch) (a := f.st) (by exact ok) (by exact hp)
    (by exact haddr) (by exact hawake)
  generalize (s.sentBy f.src).heard f.src f.epoch f.st = u at undue hx
  have peers : u.peers.set f.src { u.peer f.src with sinceHeard := 0 } = u.peers := by
    have same : ({ u.peer f.src with sinceHeard := 0 } : Peer) = u.peer f.src := by rw [hx]; rfl
    rw [same]
    by_cases hq : f.src < u.peers.length
    · rw [State.peer_eq_getElem hq, List.set_getElem_self]
    · exact List.set_eq_of_length_le (not_lt.mp hq)
  have sender : f.src = u.line.lastSender := undue.sender.symm
  rw [State.refreshed, peers]
  conv_lhs => rw [sender]

/-- A frame of any kind does first what a BEACON with its header does (R80). -/
theorem State.receive_eq_heard (ok : s.tableOk) (calm : s.calm) (hreset : s.ctl.resetHeld = false)
    (haddr : s.addressable f.src = true) (hawake : s.awake = true) (hp : f.src < s.peers.length) (kind : Byte) :
    s.settle.receive kind f = State.receive kind f (State.settle ((s.sentBy f.src).heard f.src f.epoch f.st)) := by
  rw [State.receive_of_hears (State.hears_heard ok calm hreset haddr hawake hp),
    State.refreshed_heard ok haddr hawake hp, State.settle_of_calm calm, State.receive, hreset]
  rfl

/-! ### The clauses -/

/-- What a BEACON that reveals a cold restart leaves (R57, R41). -/
theorem State.coldRestart_heard (ok : s.tableOk) (hp : p < s.peers.length) (haddr : s.addressable p = true)
    (hawake : s.awake = true) (hclass : classify (s.peer p) e .setup = .cold) :
    let u := s.heard p e .setup
    u.peer p = (s.peer p).cooled.meet e .setup ∧ u.records = (s.coldRestart p).records ∧
      u.notices = (s.coldRestart p).notices ∧ ∀ f, (s.coldRestart p).events.has f = true → u.events.has f = true := by
  have length : p < (s.coldRestart p).peers.length := by rwa [State.length_coldRestart ok]
  have judged := State.turns_judgeEnd ((s.coldRestart p).meet p e .setup)
  rw [State.heard_of_cold ok hp haddr hawake hclass]
  refine ⟨?_, by simp [State.meet], by simp [State.meet], judged.flags⟩
  rw [State.peer_congr (State.judgeEnd_peers _), State.peer_meet length, if_pos rfl, State.peer_coldRestart ok hp,
    if_pos rfl]

theorem State.warmRestart_events (p : Nat) (a : Announced) (s : State) :
    (s.warmRestart p a).events = s.events.raise .peerRestart := by
  refine congrArg (EventUnit.raise .peerRestart) ?_
  simp only [State.cutChannel_keeps]
  split <;> simp

/-- A roll that is OWED to a peer just heard outside SETUP is releasable where the station sends rolls (R66). -/
theorem State.releasable_meet (hp : p < s.peers.length) (owed : (s.peer p).rollOut = .owed) (ha : a ≠ .setup)
    (station : s.ctl.st = .service ∨ (s.ctl.st = .relink ∧ s.ctl.listenOver = true)) :
    (s.meet p e a).releasable p = true := by
  have up : ((s.peer p).meet e a).up = true := (Peer.up_meet _).mpr ha
  have owed' : ((s.peer p).meet e a).rollOut = .owed := owed
  have ctl : (s.meet p e a).ctl = s.ctl := rfl
  rw [State.releasable, State.peer_meet hp, if_pos rfl, up, owed', ctl]
  simpa using station

/-- What a BEACON that reveals a warm restart or an arrival leaves (R58, R60). -/
theorem State.warmRestart_heard (hp : p < s.peers.length) (haddr : s.addressable p = true) (hawake : s.awake = true)
    (hdone : s.relinkDone = false) (hclass : classify (s.peer p) e a = .arrival ∨ classify (s.peer p) e a = .warm)
    (hup : a = .setup → (s.peer p).up = false) :
    let u := s.heard p e a
    u.events = s.events.raise .peerRestart ∧ (∃ w, u.peer p = { ((s.peer p).warmed a).meet e a with wants := w }) ∧
      u.records = s.records.map
        (Circuit.unmark p ((s.peer p).rollOut == .sending && a != .setup) ((s.peer p).channel != .idle)) ∧
      u.notices = s.notices ∧ u.store = s.store ∧
      (s.ctl.st = .service ∨ (s.ctl.st = .relink ∧ s.ctl.listenOver = true) → a ≠ .setup → u.owes (.roll p)) := by
  have length : p < (s.warmRestart p a).peers.length := by rwa [State.length_warmRestart]
  obtain ⟨records, store, _, events, notices⟩ := State.release_frame p ((s.warmRestart p a).meet p e a)
  rw [State.heard_of_warm hp haddr hawake hdone hclass hup]
  refine ⟨events.trans (s.warmRestart_events p a), ?_, records.trans (State.warmRestart_records hp a), ?_, ?_,
    fun station ha => ?_⟩
  · obtain ⟨w, hw⟩ := State.peer_release p p ((s.warmRestart p a).meet p e a)
    exact ⟨w, by rw [hw, State.peer_meet length, if_pos rfl, State.peer_warmRestart hp, if_pos rfl]⟩
  · rw [notices]
    simp [State.meet]
  · rw [store]
    simp [State.meet]
  · refine State.owes_release (by rwa [State.meet, State.length_updPeer])
      (State.releasable_meet length ?_ ha (by simpa using station))
    rw [State.peer_warmRestart hp, if_pos rfl]
    exact if_neg ha

/-- What a BEACON that reveals the leaving of SETUP leaves (R59). -/
theorem State.leavingSetup_heard (hp : p < s.peers.length) (haddr : s.addressable p = true) (hawake : s.awake = true)
    (hclass : classify (s.peer p) e a = .leavingSetup) (ha : a ≠ .setup) :
    let u := s.heard p e a
    u.events = s.events ∧ (∃ w, u.peer p = { (s.peer p).meet e a with rollOut := .owed, wants := w }) ∧
      u.records = s.records ∧ u.notices = s.notices := by
  have length : p < (s.setRollOut p .owed).peers.length := by rwa [State.setRollOut, State.length_updPeer]
  obtain ⟨records, _, _, events, notices⟩ := State.release_frame p ((s.setRollOut p .owed).meet p e a)
  rw [State.heard_of_leaving hp haddr hawake hclass ha]
  refine ⟨events, ?_, records, notices⟩
  obtain ⟨w, hw⟩ := State.peer_release p p ((s.setRollOut p .owed).meet p e a)
  refine ⟨w, ?_⟩
  rw [hw, State.peer_meet length, if_pos rfl, State.peer_setRollOut]
  simp only [hp, and_self, if_true]
  rfl

end Sys2Proof.Machine

open Sys2Proof Sys2Proof.Machine

/-- Settles O45: by what the header reveals, and for the frame after it by the state that the header leaves. -/
theorem restartRecognised : Obligations.RestartRecognised := by
  intro f s safe calm hreset hdone station haddr hsrc hdst hfits p x met cleared cut hit
  have length : p < s.peers.length := by
    obtain ⟨count, _⟩ := safe.peers
    omega
  have ok := safe.table
  have hawake : s.awake = true := by
    rcases station with (h | h | h) | h <;> simp [State.awake, State.holding, State.running, h]
  have received := exec_beaconReceived_of_fits ok calm hreset haddr hawake hfits
  refine ⟨fun heard up changed => ?_, fun revealed => ?_, fun present was same up => ?_, fun dst payload kind => ?_⟩
  · have hclass : classify (s.peer p) f.epoch .setup = .cold := classify_cold heard changed
    rw [up] at received
    obtain ⟨peer, records, notices, flags⟩ := State.coldRestart_heard (s := s.sentBy p) (by exact ok) (by exact length)
      (by exact haddr) (by exact hawake) (by exact hclass)
    have ok' : (s.sentBy p).tableOk := ok
    have turns := State.turns_coldRestart ok' p
    obtain ⟨events, told, _⟩ := (s.sentBy p).restarted_frame p
    refine ⟨_, received, flags _ (turns.flags _ ?_), ?_, fun idle => ⟨?_, ?_⟩, fun minds => ⟨fun r hr far => ?_, ?_, ?_⟩⟩
    · rw [events]
      exact EventUnit.has_raise_self _ _
    · rw [peer]
      simp only [met, up]
      rfl
    · rw [records, State.coldRestart_of_not_minds (by exact idle)]
      exact (s.sentBy p).restarted_records p
    · rw [notices, State.coldRestart_of_not_minds (by exact idle), told]
      rfl
    · exact State.coldRestart_aside ok' minds (records ▸ hr) far
    · exact fun some => flags _ ((State.coldRestart_told ok' minds p).2 some)
    · exact fun room => notices.trans ((State.coldRestart_told ok' minds p).1 room)
  · have hup : f.st = .setup → x.up = false := fun down => by
      rcases revealed with h | ⟨up, _⟩ | ⟨h, _⟩
      · simp [Peer.up, h]
      · exact absurd down up
      · simp [Peer.up, h]
    exact ⟨_, received, State.warmRestart_heard (s := s.sentBy p) (by exact length) (by exact haddr) (by exact hawake)
      (by exact hdone) (by exact classify_warm revealed) (by exact hup)⟩
  · exact ⟨_, received, State.leavingSetup_heard (s := s.sentBy p) (by exact length) (by exact haddr) (by exact hawake)
      (by exact classify_leaving present was same up) up⟩
  · intro g
    have taken := State.receive_eq_heard (f := g) ok calm hreset haddr hawake length
    refine ⟨_, received, State.hears_heard (f := g) ok calm hreset haddr hawake length, fun row hrow => ?_⟩
    simp only [List.mem_cons, List.not_mem_nil, or_false] at hrow
    rcases hrow with rfl | rfl | rfl | rfl | rfl
    · exact congrArg Host.Outcome.next (taken kindRoll)
    · exact congrArg Host.Outcome.next (taken kindOffer)
    · exact congrArg Host.Outcome.next (taken kindAnswer)
    · exact congrArg Host.Outcome.next (taken kindRelease)
    · exact congrArg Host.Outcome.next (taken kind)
end

section
/-! PROOF. The want mark that stands for a request, and what becomes of it where another is set or cleared (R129). -/

namespace Sys2Proof.Machine

/-- The want mark that stands for a request to a peer. -/
def WantMarks.mark (w : WantMarks) : Request → Bool
  | .beacon => false
  | .roll _ => w.roll
  | .rollOffer _ => w.rollOffer
  | .singleOffer _ => w.singleOffer
  | .answer _ => w.answer
  | .release _ => w.release

/-- That want mark set or cleared. -/
def WantMarks.put (b : Bool) (w : WantMarks) : Request → WantMarks
  | .beacon => w
  | .roll _ => { w with roll := b }
  | .rollOffer _ => { w with rollOffer := b }
  | .singleOffer _ => { w with singleOffer := b }
  | .answer _ => { w with answer := b }
  | .release _ => { w with release := b }

section Marks

variable {s : State} {req q : Request} {p : Nat} {b : Bool}

theorem Request.eq_beacon (h : req.peer = none) : req = .beacon := by
  cases req with
  | beacon => rfl
  | roll | rollOffer | singleOffer | answer | release => cases h

theorem State.wanted_of_peer (h : req.peer = some p) : s.wanted req = (s.peer p).wants.mark req := by
  cases req <;> cases h <;> rfl

theorem State.setWant_of_peer (h : req.peer = some p) :
    s.setWant req b = s.updPeer p (fun x => { x with wants := x.wants.put b req }) := by
  cases req <;> cases h <;> rfl

theorem WantMarks.mark_put_self (h : req.peer = some p) (w : WantMarks) : (w.put b req).mark req = b := by
  cases req <;> cases h <;> rfl

theorem WantMarks.mark_put_of_ne (hp : q.peer = req.peer) (hne : q ≠ req) (w : WantMarks) :
    (w.put b req).mark q = w.mark q := by
  cases req <;> cases q <;> simp_all [Request.peer, WantMarks.mark, WantMarks.put]

/-- A want mark is changed for no other request. -/
theorem State.wanted_setWant_of_ne (h : q ≠ req) : (s.setWant req b).wanted q = s.wanted q := by
  cases hreq : req.peer with
  | none =>
    obtain rfl := Request.eq_beacon hreq
    cases hq : q.peer with
    | none => exact absurd (Request.eq_beacon hq) h
    | some k =>
      rw [State.wanted_of_peer hq, State.wanted_of_peer hq]
      rfl
  | some p =>
    rw [State.setWant_of_peer hreq]
    cases hq : q.peer with
    | none =>
      obtain rfl := Request.eq_beacon hq
      rfl
    | some k =>
      rw [State.wanted_of_peer hq, State.wanted_of_peer hq, State.peer_updPeer]
      split
      · obtain ⟨rfl, _⟩ := ‹_ ∧ _›
        exact WantMarks.mark_put_of_ne (hq.trans hreq.symm) h _
      · rfl

/-- A cleared want mark is not set. -/
theorem State.wanted_setWant_false : (s.setWant req false).wanted req = false := by
  cases hreq : req.peer with
  | none =>
    obtain rfl := Request.eq_beacon hreq
    rfl
  | some p =>
    rw [State.setWant_of_peer hreq, State.wanted_of_peer hreq, State.peer_updPeer]
    split
    · exact WantMarks.mark_put_self hreq _
    · rename_i out
      rw [State.peer_of_length_le (by simpa using out)]
      cases req <;> rfl

end Marks
end Sys2Proof.Machine
end

section
/-! PROOF. Lists that wait for a peer and the requests that carry them (O57): what the agreement reads, and the rules by which
the plain updates keep it. -/

namespace Sys2Proof.Machine

variable {s t : State} {r : Circuit} {p : Nat} {L : Set Request}

/-! ### What the agreement reads -/

/-- What the agreement reads of a peer record: both pending lists and the want marks. -/
def Peer.mail (x : Peer) : List Verdict × List Nat × WantMarks := (x.verdicts, x.releases, x.wants)

/-- The list that a request carries has an entry: verdicts for an ANSWER, tags for a RELEASE (R83, R88). -/
def Peer.waits (x : Peer) : Request → Prop
  | .answer _ => x.verdicts ≠ []
  | .release _ => x.releases ≠ []
  | .beacon | .roll _ | .rollOffer _ | .singleOffer _ => False

/-- The list of its peer that the request carries has an entry. -/
def State.waits (req : Request) (s : State) : Prop := ∃ p, req.peer = some p ∧ (s.peer p).waits req

theorem State.waits_answer : s.waits (.answer p) ↔ (s.peer p).verdicts ≠ [] := by
  simp [State.waits, Request.peer, Peer.waits]

theorem State.waits_release : s.waits (.release p) ↔ (s.peer p).releases ≠ [] := by
  simp [State.waits, Request.peer, Peer.waits]

theorem State.waits_mono {req : Request} (h : ∀ p, req.peer = some p → (t.peer p).waits req → (s.peer p).waits req)
    (hw : t.waits req) : s.waits req := by
  obtain ⟨p, hp, hw⟩ := hw
  exact ⟨p, hp, h p hp hw⟩

theorem Peer.waits_congr {x y : Peer} (h : x.mail = y.mail) (req : Request) : x.waits req ↔ y.waits req := by
  obtain ⟨verdicts, releases, _⟩ : x.verdicts = y.verdicts ∧ x.releases = y.releases ∧ x.wants = y.wants := by
    simpa [Peer.mail] using h
  cases req <;> simp [Peer.waits, verdicts, releases]

/-- Beyond the table nothing waits. -/
theorem State.lt_of_waits {req : Request} (h : s.waits req) (hp : req.peer = some p) : p < s.peers.length := by
  obtain ⟨q, hq, hw⟩ := h
  obtain rfl : p = q := by simpa [hp] using hq
  by_contra hlt
  rw [State.peer_of_length_le (not_lt.mp hlt)] at hw
  cases req <;> simp [Peer.waits, Peer.start] at hw

/-! ### The agreement -/

/-- The agreement of O57, but for the requests in `L`, whose lists are still to be looked after. -/
structure State.Carrying (L : Set Request) (s : State) : Prop where
  nodup : s.line.queue.Nodup
  head : ∀ f, s.line.out = .sending f → f.queued = true → s.line.queue.head? = some f.req
  owed : ∀ req ∉ L, s.waits req → s.owes req

/-- The agreement, in the words of the statement. -/
theorem State.carrying_iff (s : State) : s.Carrying ∅ ↔ s.listsCarried := by
  constructor
  · rintro ⟨nodup, head, owed⟩
    exact ⟨nodup, head, fun p hp => owed _ id (State.waits_answer.mpr hp), fun p hp => owed _ id (State.waits_release.mpr hp)⟩
  · rintro ⟨nodup, head, answers, releases⟩
    refine ⟨nodup, head, fun req _ hw => ?_⟩
    obtain ⟨p, hp, hw⟩ := hw
    cases req with
    | answer q =>
      obtain rfl : q = p := by simpa [Request.peer] using hp
      exact answers q hw
    | release q =>
      obtain rfl : q = p := by simpa [Request.peer] using hp
      exact releases q hw
    | beacon | roll | rollOffer | singleOffer => exact hw.elim

/-- What waits is carried by the queue and by the want marks of its peer, and by nothing else. -/
theorem State.owes_of_waits {req : Request} (hw : s.waits req) (hq : req ∈ s.line.queue → req ∈ t.line.queue)
    (hpeer : ∀ p, req.peer = some p → (t.peer p).wants.mark req = (s.peer p).wants.mark req) (h : s.owes req) :
    t.owes req := by
  obtain ⟨p, hp, _⟩ := hw
  refine h.imp hq fun wanted => ?_
  rwa [State.wanted_of_peer hp, hpeer p hp, ← State.wanted_of_peer hp]

/-! ### Rules -/

/-- The frame on the line, if there is one, is that of a request that was on the line before, and queued no more than it was. -/
def LineOut.Follows (before after : LineOut) : Prop :=
  ∀ f, after = .sending f → f.queued = true → ∃ g, before = .sending g ∧ g.queued = true ∧ g.req = f.req

theorem LineOut.Follows.refl (o : LineOut) : o.Follows o := fun f h hq => ⟨f, h, hq, rfl⟩

theorem LineOut.Follows.of_eq {before after : LineOut} (h : after = before) : before.Follows after := h ▸ .refl before

/-- An operation that changes neither the queue nor what is read of the peer records. -/
theorem State.Carrying.frame (h : s.Carrying L) (hq : t.line.queue = s.line.queue)
    (hout : s.line.out.Follows t.line.out) (hp : ∀ q, (t.peer q).mail = (s.peer q).mail) : t.Carrying L := by
  refine ⟨hq ▸ h.nodup, fun f hf queued => ?_, fun req hreq hw => ?_⟩
  · obtain ⟨g, hg, gqueued, hreq⟩ := hout f hf queued
    rw [hq, ← hreq]
    exact h.head g hg gqueued
  · have hw : s.waits req := State.waits_mono (fun p _ => (Peer.waits_congr (hp p) req).mp) hw
    have wants (p : Nat) : (t.peer p).wants = (s.peer p).wants := congrArg (·.2.2) (hp p)
    exact State.owes_of_waits hw (hq ▸ id) (fun p _ => by rw [wants]) (h.owed req hreq hw)

/-- An operation that touches neither the line nor the peer records. -/
theorem State.Carrying.same (h : s.Carrying L) (hl : t.line = s.line) (hp : t.peers = s.peers) : t.Carrying L :=
  h.frame (by rw [hl]) (.of_eq (by rw [hl])) fun q => by rw [State.peer_congr hp]

theorem State.Carrying.ite {c : Prop} [Decidable c] (hs : c → s.Carrying L) (ht : ¬ c → t.Carrying L) :
    (if c then s else t).Carrying L := by
  split
  · exact hs ‹_›
  · exact ht ‹_›

theorem State.Carrying.each {α : Type} (h : s.Carrying L) {xs : List α} {f : α → State → State}
    (hf : ∀ x (u : State), u.Carrying L → (f x u).Carrying L) : (s.each xs f).Carrying L := by
  induction xs generalizing s with
  | nil => exact h
  | cons x xs ih => exact ih (hf x s h)

/-- Requests whose lists are empty, or that are owed, are looked after. -/
theorem State.Carrying.closes (h : s.Carrying L) (hL : ∀ req ∈ L, s.waits req → s.owes req) : s.Carrying ∅ :=
  ⟨h.nodup, h.head, fun req _ hw => by
    by_cases hreq : req ∈ L
    · exact hL req hreq hw
    · exact h.owed req hreq hw⟩

/-- A change of the peer record in other fields than those read. -/
theorem State.Carrying.remark (h : s.Carrying L) {f : Peer → Peer} (hf : ∀ x, (f x).mail = x.mail) :
    (s.updPeer p f).Carrying L := by
  refine h.frame rfl (.refl _) fun q => ?_
  rw [State.peer_updPeer]
  split
  · obtain ⟨rfl, _⟩ := ‹_ ∧ _›
    exact hf _
  · rfl

/-- A change of the peer record that is looked after later, request by request. -/
theorem State.Carrying.opens (h : s.Carrying ∅) {f : Peer → Peer}
    (hf : ∀ (x : Peer) (req : Request), req.peer = some p → req ∉ L → (f x).waits req →
      x.waits req ∧ (f x).wants = x.wants) :
    (s.updPeer p f).Carrying L := by
  refine ⟨h.nodup, h.head, fun req hreq hw => ?_⟩
  have before (q : Nat) (hq : req.peer = some q) (hw : ((s.updPeer p f).peer q).waits req) :
      (s.peer q).waits req ∧ ((s.updPeer p f).peer q).wants = (s.peer q).wants := by
    rw [State.peer_updPeer] at hw ⊢
    split
    · obtain ⟨rfl, hlt⟩ := ‹_ ∧ _›
      rw [if_pos ⟨rfl, hlt⟩] at hw
      exact hf _ req hq hreq hw
    · rw [if_neg ‹_›] at hw
      exact ⟨hw, rfl⟩
  obtain ⟨q, hq, hwq⟩ := hw
  have hws : s.waits req := ⟨q, hq, (before q hq hwq).1⟩
  refine State.owes_of_waits hws id (fun q' hq' => ?_) (h.owed req id hws)
  obtain rfl : q = q' := by simpa [hq] using hq'
  rw [(before q hq hwq).2]

/-! ### Requests (R128 to R130) -/

theorem State.request_out (req : Request) (s : State) : (s.request req).line.out = s.line.out := by
  rcases s.request_cases req with ⟨_, e⟩ | ⟨_, _, e⟩ | ⟨_, _, e⟩ <;> rw [e]
  · rfl
  · cases req <;> rfl

theorem State.setWant_out (req : Request) (b : Bool) (s : State) : (s.setWant req b).line.out = s.line.out := by
  cases req <;> rfl

/-- A posting empties and fills no list. -/
theorem State.waits_request {req q : Request} (hw : (s.request req).waits q) : s.waits q := by
  refine State.waits_mono (fun p _ hw => ?_) hw
  obtain ⟨w, hw'⟩ := s.peer_request req p
  rw [hw'] at hw
  cases q <;> exact hw

theorem State.Carrying.request (h : s.Carrying L) {req : Request} : (s.request req).Carrying L := by
  refine ⟨?_, fun f hf queued => ?_, fun q hq hw => State.owes_request (h.owed q hq (State.waits_request hw))⟩
  · rcases s.request_cases req with ⟨_, e⟩ | ⟨hnew, _, e⟩ | ⟨_, _, e⟩ <;> rw [e]
    · exact h.nodup
    · exact h.nodup.append (List.nodup_singleton req) (by simpa using hnew)
    · simpa using h.nodup
  · rw [State.request_out] at hf
    have head := h.head f hf queued
    rcases s.request_cases req with ⟨_, e⟩ | ⟨_, _, e⟩ | ⟨_, _, e⟩ <;> rw [e]
    · exact head
    · simp [List.head?_append, head]
    · simpa using head

/-- The request of a list that has been changed is posted (R83, R87). -/
theorem State.Carrying.post_request {req : Request} (h : s.Carrying {req}) : (s.request req).Carrying ∅ := by
  refine h.request.closes fun q hq hw => ?_
  obtain rfl := Set.mem_singleton_iff.mp hq
  exact State.owes_request_self fun p hp => State.lt_of_waits (State.waits_request hw) hp

/-- A want mark that is cleared leaves its own request to be looked after. -/
theorem State.Carrying.clearWant (h : s.Carrying ∅) {req : Request} : (s.setWant req false).Carrying {req} := by
  have lists {q : Request} (hw : (s.setWant req false).waits q) : s.waits q := by
    refine State.waits_mono (fun p _ hw => ?_) hw
    cases hreq : req.peer with
    | none =>
      obtain rfl := Request.eq_beacon hreq
      exact hw
    | some k =>
      rw [State.setWant_of_peer hreq, State.peer_updPeer] at hw
      split at hw
      · obtain ⟨rfl, _⟩ := ‹_ ∧ _›
        cases q <;> exact hw
      · exact hw
  refine ⟨by simpa using h.nodup, fun f hf queued => ?_, fun q hq hw => ?_⟩
  · rw [State.setWant_queue]
    exact h.head f (State.setWant_out req false s ▸ hf) queued
  · refine (h.owed q id (lists hw)).imp (by simp) fun wanted => ?_
    rwa [State.wanted_setWant_of_ne hq]

/-- A want mark is converted into its request (R130). -/
theorem State.Carrying.convertWant (h : s.Carrying ∅) {req : Request} : (s.convertWant req).Carrying ∅ :=
  .ite (fun _ => h.clearWant.post_request) fun _ => h

theorem State.Carrying.convertWants (h : s.Carrying ∅) : s.convertWants.Carrying ∅ := h.each fun _ _ hu => hu.convertWant

theorem State.Carrying.setRollOut (h : s.Carrying L) {x : RollOut} : (s.setRollOut p x).Carrying L := h.remark fun _ => rfl

theorem State.Carrying.appendVerdict (h : s.Carrying ∅) {v : Verdict} : (s.appendVerdict p v).Carrying ∅ := by
  refine State.Carrying.post_request (h.opens fun x req hp hreq hw => ⟨?_, rfl⟩)
  cases req <;> simp_all [Peer.waits, Request.peer]

theorem State.Carrying.appendRelease (h : s.Carrying ∅) {tag : Nat} : (s.appendRelease p tag).Carrying ∅ := by
  refine State.Carrying.post_request (h.opens fun x req hp hreq hw => ⟨?_, rfl⟩)
  cases req <;> simp_all [Peer.waits, Request.peer]

end Sys2Proof.Machine
end

section
/-! PROOF. The operations of chapters 2 to 7 keep the agreement of O57: one rule per operation. -/

namespace Sys2Proof.Machine

section Rules

variable {s t : State} {r : Circuit} {p : Nat} {L : Set Request}

/-! ### The frame on the line and the lists it carries -/

/-- What is remembered of the own frame changes, but not its request, which is queued no more than before. -/
theorem State.Carrying.mapFlying (h : s.Carrying L) {g : InFlight → InFlight}
    (hg : ∀ f, (g f).req = f.req ∧ ((g f).queued = true → f.queued = true)) : (s.mapFlying g).Carrying L := by
  refine h.frame (s.mapFlying_queue g) (fun f hf queued => ?_) fun q => by
    rw [State.peer_congr (s.mapFlying_keeps g).2.2.1]
  unfold State.mapFlying at hf
  split at hf
  · rename_i x hx
    obtain rfl : g x = f := by simpa using hf
    exact ⟨x, hx, (hg x).2 queued, (hg x).1.symm⟩
  all_goals exact ⟨f, hf, queued, rfl⟩

/-- Both lists of a peer emptied: nothing of it waits (R55, R57). -/
theorem State.not_waits_emptyLists {req : Request} (hp : req.peer = some p) : ¬ (s.emptyLists p).waits req := by
  rintro ⟨q, hq, hw⟩
  obtain rfl : p = q := by simpa [hp] using hq
  rw [State.peer_emptyLists] at hw
  split at hw
  · cases req <;> simp [Peer.waits] at hw
  · rename_i out
    rw [State.peer_of_length_le (by simpa using out)] at hw
    cases req <;> simp [Peer.waits, Peer.start] at hw

theorem State.Carrying.emptyLists (h : s.Carrying {req | req.peer = some p}) : (s.emptyLists p).Carrying ∅ := by
  have emptied : (s.updPeer p (fun x => { x with verdicts := [], releases := [] })).Carrying {req | req.peer = some p} := by
    refine ⟨h.nodup, h.head, fun req hreq hw => ?_⟩
    have other (q : Nat) (hq : req.peer = some q) :
        (s.updPeer p (fun x => { x with verdicts := [], releases := [] })).peer q = s.peer q := by
      rw [State.peer_updPeer, if_neg]
      rintro ⟨rfl, _⟩
      exact hreq hq
    have hws : s.waits req := State.waits_mono (fun q hq hw => other q hq ▸ hw) hw
    exact State.owes_of_waits hws id (fun q hq => by rw [other q hq]) (h.owed req hreq hws)
  have flown : (s.emptyLists p).Carrying {req | req.peer = some p} :=
    emptied.mapFlying fun f => by split <;> exact ⟨rfl, id⟩
  exact flown.closes fun req hp hw => absurd hw (State.not_waits_emptyLists hp)

/-- The requests of a peer leave the queue, where nothing of it waits (R55). -/
theorem State.Carrying.dropRequests (h : s.Carrying ∅) (hempty : ∀ req, req.peer = some p → ¬ s.waits req) :
    (s.dropRequests p).Carrying ∅ := by
  have queue : (s.dropRequests p).line.queue = s.line.queue.filter (fun q => q.peer != some p) := by
    rw [State.dropRequests, State.mapFlying_queue]
    rfl
  have peers : (s.dropRequests p).peers = s.peers := by simp
  refine ⟨queue ▸ h.nodup.filter _, fun f hf queued => ?_, fun req _ hw => ?_⟩
  · have hout : ∃ g, s.line.out = .sending g ∧ (if g.req.peer = some p then { g with queued := false } else g) = f := by
      unfold State.dropRequests State.mapFlying at hf
      split at hf
      · exact ⟨_, ‹_›, by simpa using hf⟩
      all_goals rename_i hfree; rw [hfree] at hf; cases hf
    obtain ⟨g, hg, rfl⟩ := hout
    have keeps : ¬ g.req.peer = some p := fun e => by
      rw [if_pos e] at queued
      cases queued
    rw [if_neg keeps] at queued ⊢
    obtain ⟨rest, hrest⟩ := List.head?_eq_some_iff.mp (h.head g hg queued)
    simp [queue, hrest, keeps]
  · have hws : s.waits req := State.waits_mono (fun q _ hw => State.peer_congr peers q ▸ hw) hw
    refine State.owes_of_waits hws (fun hq => ?_) (fun q _ => by rw [State.peer_congr peers]) (h.owed req id hws)
    rw [queue]
    exact List.mem_filter.mpr ⟨hq, by simpa using fun e => hempty req e hws⟩

/-! ### Requests and rolls (R66 to R73, R128) -/

theorem State.Carrying.announce (h : s.Carrying L) : s.announce.Carrying L := by
  have reset : State.Carrying L { s with sweep := { s.sweep with beaconCount := 0 } } := h.same rfl rfl
  exact reset.request

theorem State.Carrying.pass (h : s.Carrying L) : (s.pass p).Carrying L := .ite (fun _ => h.request) fun _ => h

theorem State.Carrying.passAll (h : s.Carrying L) : s.passAll.Carrying L := h.each fun _ _ hu => hu.pass

theorem State.Carrying.checkSingle (h : s.Carrying L) : (s.checkSingle p).Carrying L :=
  .ite (fun _ => h.request) fun _ => h

theorem State.Carrying.mapTowards (h : s.Carrying L) {f : Circuit → Circuit} : (s.mapTowards p f).Carrying L :=
  h.same rfl rfl

theorem State.Carrying.oweRoll (h : s.Carrying L) : (s.oweRoll p).Carrying L :=
  State.Carrying.setRollOut (.ite (fun _ => h.mapTowards) fun _ => h)

theorem State.Carrying.restartRoll (h : s.Carrying L) : (s.restartRoll p).Carrying L := by
  have unmarked : (s.clearRollMarks p).Carrying L := h.mapTowards
  exact .ite (fun _ => unmarked.setRollOut.pass.checkSingle) fun _ => h

theorem State.Carrying.judgeEnd (h : s.Carrying L) : s.judgeEnd.Carrying L := by
  have ended : (State.raise .relinkDone (s.setStation .service)).Carrying L := h.same (by simp) (by simp)
  exact .ite (fun _ => ended.announce) fun _ => h

theorem State.Carrying.settleChange (h : s.Carrying L) {cause : Bool} : (s.settleChange cause).Carrying L := by
  rcases s.settleChange_cases cause with e | e <;> rw [e]
  · exact h.judgeEnd
  · exact (h.same (t := s.attemptTurns 4) (by simp) (by simp)).judgeEnd

theorem State.Carrying.removeRecord (h : s.Carrying L) : (s.removeRecord r).Carrying L := by
  have left : State.Carrying L { s.cancelProbe r with
      records := (s.cancelProbe r).records.filter (fun x => x.place != r.place) } := h.same (by simp) (by simp)
  have flown := left.mapFlying (g := fun f => { f with carried := f.carried.filter (fun h => h != r.place) })
    fun _ => ⟨rfl, id⟩
  exact flown.same (by simp [State.removeRecord]) (by simp [State.removeRecord])

/-! ### Causes that act on one record (chapters 2 and 4) -/

theorem State.Carrying.moveTo (h : s.Carrying L) {new : Relink} {due : Bool} {sends : Nat} :
    (s.moveTo r new due sends).Carrying L := h.same (by simp) (by simp)

theorem State.Carrying.post (h : s.Carrying L) {k : NoticeKind} : (s.post k r).Carrying L := h.same (by simp) (by simp)

theorem State.Carrying.raise (h : s.Carrying L) {f : EventFlag} : (s.raise f).Carrying L := h.same rfl rfl

theorem State.Carrying.mapRec (h : s.Carrying L) {g : Nat} {f : Circuit → Circuit} : (s.mapRec g f).Carrying L :=
  h.same rfl rfl

theorem State.Carrying.enter (h : s.Carrying L) {g : Nat} {new : Relink} {due : Bool} {sends : Nat} :
    (s.enter g new due sends).Carrying L := h.same (by simp) (by simp)

theorem State.Carrying.deferMany (h : s.Carrying L) {cond : Relink → Bool} {rs : List Circuit} :
    (s.deferMany cond rs).Carrying L := by
  have raised : (s.raiseIf (rs.any (fun r => cond r.state)) .deferral).Carrying L := h.same (by simp) (by simp)
  refine raised.each fun g u hu => ?_
  unfold State.deferPlace
  split
  · exact hu
  · exact .ite (fun _ => hu.moveTo.post.settleChange) fun _ => hu

theorem State.Carrying.claimSent (h : s.Carrying L) {roll : Bool} : (s.claimSent roll p).Carrying L := by
  unfold State.claimSent
  split
  · exact h
  · dsimp only
    split
    case h_1 | h_2 | h_3 => exact h.mapRec.enter.settleChange
    case h_4 => exact h.mapRec.mapRec
    case h_5 | h_6 | h_7 | h_8 => exact h.mapRec

/-- A local clash tells the peer where its list has room (R37). -/
theorem State.Carrying.unsolicitedClash (h : s.Carrying ∅) : (s.unsolicitedClash r).Carrying ∅ :=
  .ite (fun _ => .ite (fun _ => h.appendVerdict) fun _ => h.remark fun _ => rfl) fun _ => h

theorem State.Carrying.laneFault (h : s.Carrying ∅) : (s.laneFault r).Carrying ∅ := by
  refine .ite (fun _ => ?_) fun _ => h.enter.raise.post.unsolicitedClash
  exact .ite (fun _ => h.mapRec.post.enter.checkSingle) fun _ => h.mapRec.post.enter.raise

theorem State.Carrying.completeProbe (h : s.Carrying ∅) {pr : Probe} : (s.completeProbe pr).Carrying ∅ := by
  have freed : (s.freeProbe pr.place).Carrying ∅ := h.same rfl rfl
  unfold State.completeProbe
  dsimp only
  split
  · exact freed
  · rename_i r _
    have refunded : ((s.freeProbe pr.place).credit r.weight).Carrying ∅ := freed.same rfl rfl
    exact .ite (fun _ => refunded.laneFault.settleChange) fun _ => freed.enter.post.settleChange

/-! ### Claims, rolls, verdicts and releases received -/

theorem State.Carrying.completeRoll (h : s.Carrying L) : (s.completeRoll p).Carrying L := by
  have idle : (s.updPeer p (fun x => { x with channel := .idle })).Carrying L := h.remark fun _ => rfl
  refine State.Carrying.each (idle.same (by simp) (by simp)) fun g u hu => ?_
  unfold State.orphanPlace
  split
  · exact hu
  · exact .ite (fun _ => .ite (fun _ => hu.mapRec.moveTo.post.settleChange) fun _ => hu.mapRec) fun _ => hu

theorem State.Carrying.countClaim (h : s.Carrying L) : (s.countClaim p).Carrying L := by
  unfold State.countClaim
  split
  · exact h
  · rename_i d n _ _
    have counted := h.remark (p := p) (f := fun x => { x with channel := .receiving d (n + 1) 0 }) fun _ => rfl
    exact .ite (fun _ => counted.completeRoll) fun _ => counted

theorem State.Carrying.answerClaim (h : s.Carrying ∅) {c : Claim} : (s.answerClaim p c).Carrying ∅ := by
  unfold State.answerClaim
  split
  · exact h.appendVerdict
  · rename_i r _
    have cleared : (s.mapRec r.place (fun x => { x with scopeMark := false })).Carrying ∅ := h.mapRec
    refine .ite (fun _ => h.appendVerdict) fun _ => .ite (fun _ => ?_) fun _ => ?_
    · refine .ite (fun _ => State.Carrying.settleChange (State.Carrying.appendVerdict ?_)) fun _ => cleared.appendVerdict
      exact cleared.same (by simp) (by simp)
    · refine .ite (fun _ => cleared.appendVerdict) fun _ => State.Carrying.settleChange (State.Carrying.appendVerdict ?_)
      exact cleared.same (by simp) (by simp)

theorem State.Carrying.takeOffer (h : s.Carrying ∅) {roll : Bool} {cs : List Claim} :
    (s.takeOffer p roll cs).Carrying ∅ :=
  .ite (fun _ => h.each fun _ _ hu => .ite (fun _ => hu.appendVerdict) fun _ =>
    .ite (fun _ => hu.answerClaim.countClaim) fun _ => hu.answerClaim) fun _ => h.remark fun _ => rfl

theorem State.Carrying.takeRoll (h : s.Carrying L) {n : Nat} : (s.takeRoll p n).Carrying L := by
  have opened := h.remark (p := p) (f := fun x => { x with channel := .receiving n 0 0 }) fun _ => rfl
  exact .ite (fun _ => opened.mapTowards.completeRoll) fun _ => opened.mapTowards

theorem State.Carrying.verdictRefuse (h : s.Carrying L) {c : Cause} : (s.verdictRefuse c r).Carrying L :=
  .ite (fun _ => (h.same (t := s.refuse c r) (by simp) (by simp)).settleChange) fun _ => h

theorem State.Carrying.takeVerdict (h : s.Carrying L) {v : Verdict} : (s.takeVerdict p v).Carrying L := by
  unfold State.takeVerdict
  split
  · exact h.frame rfl (.refl _) fun _ => rfl
  · rename_i r _
    split
    · unfold State.verdictAccept
      split
      · exact h.verdictRefuse
      · exact .ite (fun _ => h) fun _ => (h.same (t := s.agree _ r) (by simp) (by simp)).settleChange
    · exact h.verdictRefuse
    · exact h.verdictRefuse
    · exact .ite (fun _ => h.raise.moveTo.post.settleChange) fun _ => h
    · exact .ite (fun _ => h) fun _ => (h.same (t := s.clash r) (by simp) (by simp)).settleChange

theorem State.Carrying.takeRelease (h : s.Carrying L) {tag : Nat} : (s.takeRelease p tag).Carrying L := by
  unfold State.takeRelease
  split
  · exact h
  · exact h.removeRecord.post.restartRoll.settleChange

/-! ### Peers heard and peers silent (chapter 3) -/

/-- A peer's want marks and lists go together (R55, R57). -/
theorem State.Carrying.forget (h : s.Carrying ∅) {f : Peer → Peer} : ((s.updPeer p f).emptyLists p).Carrying ∅ :=
  (h.opens fun _ _ hp hreq => absurd hp hreq).emptyLists

theorem State.Carrying.coldRestart (h : s.Carrying ∅) : (s.coldRestart p).Carrying ∅ := by
  have unmarked : (if (s.peer p).rollOut = .sending then s.clearRollMarks p else s).Carrying ∅ :=
    .ite (fun _ => h.mapTowards) fun _ => h
  have restarted : (s.restarted p).Carrying ∅ := State.Carrying.raise unmarked.forget.mapTowards
  exact .ite (fun _ => restarted.deferMany) fun _ => restarted

theorem State.Carrying.warmRestart (h : s.Carrying L) {st : Announced} : (s.warmRestart p st).Carrying L := by
  have owed : (if st = .setup then s else s.oweRoll p).Carrying L := .ite (fun _ => h) fun _ => h.oweRoll
  unfold State.warmRestart State.cutChannel
  split
  · exact owed.raise
  · have cut := owed.remark (p := p) (f := fun x => { x with channel := .idle }) fun _ => rfl
    exact cut.mapTowards.raise

theorem State.Carrying.recognise (h : s.Carrying ∅) {epoch : Byte} {st : Announced} :
    (s.recognise p epoch st).Carrying ∅ := by
  unfold State.recognise
  split
  · exact h
  · exact h.warmRestart
  · exact h.warmRestart
  · exact h.coldRestart
  · exact h.setRollOut

theorem State.Carrying.heard (h : s.Carrying ∅) {epoch : Byte} {st : Announced} : (s.heard p epoch st).Carrying ∅ := by
  have recognised : (if s.awake then s.recognise p epoch st else s).Carrying ∅ := .ite (fun _ => h.recognise) fun _ => h
  have met := recognised.remark (p := p)
    (f := fun x => { x with presence := .present, sinceHeard := 0, epoch := some epoch, st := some st }) fun _ => rfl
  exact .ite (fun _ => State.Carrying.judgeEnd (.ite (fun _ => met.pass.checkSingle) fun _ => met)) fun _ => h

theorem State.Carrying.goSilent (h : s.Carrying ∅) : (s.goSilent p).Carrying ∅ := by
  have owed : (if (s.peer p).rollOut = .sending then s.oweRoll p else s).Carrying ∅ :=
    .ite (fun _ => h.oweRoll) fun _ => h
  have silenced : (s.silenced p).Carrying ∅ :=
    (owed.forget.dropRequests fun _ hp => State.not_waits_emptyLists hp).mapTowards
  exact State.Carrying.judgeEnd (.ite (fun _ => silenced.deferMany) fun _ => silenced)

end Rules

end Sys2Proof.Machine
end

section
/-! PROOF. The due steps, the shelf line, the station and the rows keep the agreement of O57. -/

namespace Sys2Proof.Machine

section Rules

variable {s t : State} {r : Circuit} {p : Nat}

/-! ### The sweep and the due steps (chapters 3 and 6) -/

theorem State.Carrying.sweepEvent (h : s.Carrying ∅) : s.sweepEvent.Carrying ∅ :=
  h.frame rfl (.refl _) fun q => by rw [State.peer_sweepEvent]; rfl

theorem State.Carrying.takeSweep (h : s.Carrying ∅) : s.takeSweep.Carrying ∅ := .ite (fun _ => h.sweepEvent) fun _ => h

theorem State.Carrying.takeSilence (h : s.Carrying ∅) : (s.takeSilence p).Carrying ∅ :=
  .ite (fun _ => h.goSilent) fun _ => h

theorem State.Carrying.takeBeacon (h : s.Carrying ∅) : s.takeBeacon.Carrying ∅ := .ite (fun _ => h.announce) fun _ => h

theorem State.Carrying.takeResend (h : s.Carrying ∅) : (s.takeResend p).Carrying ∅ := by
  unfold State.takeResend
  split
  · exact h
  · exact .ite (fun _ => .ite (fun _ => h.mapRec.checkSingle) fun _ => h.raise.moveTo.post.settleChange) fun _ => h

theorem State.Carrying.takeAbandon (h : s.Carrying ∅) : (s.takeAbandon p).Carrying ∅ := by
  have idle := h.remark (p := p) (f := fun x => { x with channel := .idle }) fun _ => rfl
  exact .ite (fun _ => idle.mapTowards.raise) fun _ => h

theorem State.Carrying.takeListenEnd (h : s.Carrying ∅) : s.takeListenEnd.Carrying ∅ := by
  have ended : State.Carrying ∅ { s with ctl := { s.ctl with listenOver := true } } := h.same rfl rfl
  exact .ite (fun _ => ended.passAll.deferMany.judgeEnd) fun _ => h

theorem State.Carrying.takeCompletion (h : s.Carrying ∅) : s.takeCompletion.Carrying ∅ := by
  refine .ite (fun _ => ?_) fun _ => h
  split
  · exact h
  · exact h.completeProbe

theorem State.Carrying.takeEcho (h : s.Carrying ∅) : s.takeEcho.Carrying ∅ := by
  refine .ite (fun _ => ?_) fun _ => h
  split
  · exact h
  · exact h.laneFault.settleChange

theorem State.Carrying.settleDue (h : s.Carrying ∅) : s.settleDue.Carrying ∅ := by
  have silent := (h.each (xs := List.range 24) fun p _ hu => hu.takeSilence (p := p)).takeBeacon
  have resent {ps : List Nat} := silent.each (xs := ps) fun p _ hu => hu.takeResend (p := p)
  have abandoned {ps : List Nat} := (resent (ps := ps)).each (xs := List.range 24) fun p _ hu => hu.takeAbandon (p := p)
  exact (abandoned.takeListenEnd.each fun _ _ hu => hu.takeCompletion).each fun _ _ hu => hu.takeEcho

theorem State.Carrying.resendTag (h : s.Carrying ∅) {tag : Nat} : (s.resendTag tag).Carrying ∅ := by
  unfold State.resendTag
  split
  · exact h
  · exact h.takeResend

theorem State.Carrying.expirePace (h : s.Carrying ∅) : s.expirePace.Carrying ∅ := by
  unfold State.expirePace
  dsimp only
  refine .ite (fun _ => State.Carrying.settleChange ?_) fun _ => h
  split <;> exact h.same rfl rfl

/-! ### The shelf line (chapter 7) -/

/-- Nothing is on the line. -/
theorem State.Carrying.quiet (h : s.Carrying ∅) (hq : t.line.queue = s.line.queue) (hp : t.peers = s.peers)
    (hout : t.line.flying = none) : t.Carrying ∅ :=
  h.frame hq (fun f hf => by simp [LineCtl.flying, hf] at hout) fun q => by rw [State.peer_congr hp]

/-- The head of the queue leaves it, and its list is looked after later (R133, R134). -/
theorem State.Carrying.dequeue (h : s.Carrying ∅) (hout : s.line.flying = none) {req : Request} {rest : List Request}
    (hq : s.line.queue = req :: rest) : (s.setQueue rest).Carrying {req} := by
  refine ⟨?_, fun f hf => ?_, fun q hne hw => ?_⟩
  · have nodup := h.nodup
    rw [hq] at nodup
    exact nodup.of_cons
  · have hf : s.line.out = .sending f := hf
    simp [LineCtl.flying, hf] at hout
  · refine State.owes_of_waits (s := s) hw (fun hmem => ?_) (fun _ _ => rfl) (h.owed q id hw)
    rw [hq] at hmem
    exact (List.mem_cons.mp hmem).resolve_left hne

/-- A request with nothing to carry has no list that waits. -/
theorem State.not_waits_of_nothing {req : Request} (h : s.nothingToCarry req = true) : ¬ s.waits req := by
  rintro ⟨p, hp, hw⟩
  cases req with
  | answer q | release q =>
    cases hp
    simp_all [State.nothingToCarry, Peer.waits]
  | beacon | roll | rollOffer | singleOffer => exact hw

theorem State.Carrying.passedOver (h : s.Carrying ∅) {req : Request} : (s.passedOver req).Carrying ∅ := by
  cases req with
  | rollOffer p => exact .ite (fun _ => h.setRollOut.judgeEnd) fun _ => h
  | beacon | roll | singleOffer | answer | release => exact h

theorem State.announce_out (s : State) : s.announce.line.out = s.line.out := State.request_out _ _

theorem State.judgeEnd_out (s : State) : s.judgeEnd.line.out = s.line.out := by
  unfold State.judgeEnd
  split
  · rw [State.announce_out]
    simp
  · rfl

theorem State.passedOver_out (req : Request) (s : State) : (s.passedOver req).line.out = s.line.out := by
  cases req with
  | rollOffer p =>
    unfold State.passedOver
    dsimp only
    split
    · rw [State.judgeEnd_out]
      rfl
    · rfl
  | beacon | roll | singleOffer | answer | release => rfl

/-- The frame of the head request goes on the line. -/
theorem State.Carrying.launch (h : s.Carrying ∅) {req : Request} (hq : s.line.queue.head? = some req) {kind : Byte}
    {dst : Nat}
    {payload : List Byte} {carried : List Nat} {items : Nat} : (s.launch req kind dst payload carried items).Carrying ∅ := by
  refine ⟨h.nodup, fun f hf _ => ?_, h.owed⟩
  cases hf
  exact hq

theorem State.Carrying.build (h : s.Carrying ∅) {req : Request} (hq : s.line.queue.head? = some req) :
    (s.build req).Carrying ∅ := by
  cases req with
  | roll p => exact h.mapTowards.setRollOut.launch hq
  | beacon | rollOffer | singleOffer | answer | release => exact h.launch hq

theorem State.Carrying.takeTurns (h : s.Carrying ∅) (hout : s.line.flying = none) (n : Nat) :
    (s.takeTurns n).Carrying ∅ := by
  induction n generalizing s with
  | zero => exact h
  | succ n ih =>
    unfold State.takeTurns
    split
    · have free : State.Carrying ∅ { s with line := { s.line with out := .released } } := h.quiet rfl rfl rfl
      exact free.convertWants
    · rename_i req rest hq
      refine .ite (fun hnone => ih (State.Carrying.passedOver ?_) ?_) fun _ => h.build (by simp [hq])
      · exact (h.dequeue hout hq).closes fun q hmem hw => by
          obtain rfl := Set.mem_singleton_iff.mp hmem
          exact absurd hw (State.not_waits_of_nothing hnone)
      · rw [LineCtl.flying, State.passedOver_out]
        exact hout

theorem State.Carrying.takePosition (h : s.Carrying ∅) {pos : Nat} : (s.takePosition pos).Carrying ∅ := by
  refine .ite (fun own => h.takeTurns ?_ _) fun _ => h
  simp only [Bool.and_eq_true, Option.isNone_iff_eq_none] at own
  obtain ⟨⟨released, _⟩, _⟩ := own
  exact released

theorem State.Carrying.claimsSent (h : s.Carrying ∅) {roll : Bool} {places : List Nat} :
    (s.claimsSent roll places).Carrying ∅ := .ite (fun _ => h.each fun _ _ hu => hu.claimSent) fun _ => h

/-- A list gets shorter: what is left of it is posted again (R84, R88). -/
theorem State.Carrying.trim {req : Request} (h : s.Carrying {req}) {f : Peer → Peer} {done : Bool}
    (hf : ∀ (x : Peer) (q : Request), q.peer = some p → q ≠ req → ((f x).waits q ↔ x.waits q) ∧ (f x).wants = x.wants)
    (hdone : done = true → ¬ (s.updPeer p f).waits req) :
    (if done then s.updPeer p f else (s.updPeer p f).request req).Carrying ∅ := by
  have trimmed : (s.updPeer p f).Carrying {req} := by
    refine ⟨h.nodup, h.head, fun q hne hw => ?_⟩
    have same (k : Nat) (hk : q.peer = some k) : (((s.updPeer p f).peer k).waits q ↔ (s.peer k).waits q) ∧
        ((s.updPeer p f).peer k).wants = (s.peer k).wants := by
      rw [State.peer_updPeer]
      split
      · obtain ⟨rfl, _⟩ := ‹_ ∧ _›
        exact hf _ q hk hne
      · exact ⟨.rfl, rfl⟩
    have hws : s.waits q := State.waits_mono (fun k hk => (same k hk).1.mp) hw
    exact State.owes_of_waits hws id (fun k hk => by rw [(same k hk).2]) (h.owed q hne hws)
  refine .ite (fun e => trimmed.closes fun q hmem hw => ?_) fun _ => trimmed.post_request
  obtain rfl := Set.mem_singleton_iff.mp hmem
  exact absurd hw (hdone e)

/-- The request of the frame that went out whole has left the queue; its effects look after its list (R134). -/
theorem State.Carrying.sentEffects {f : InFlight} (h : s.Carrying {f.req}) : (s.sentEffects f).Carrying ∅ := by
  have listless (hreq : ∀ p, ¬ (s.peer p).waits f.req) : s.Carrying ∅ := h.closes fun q hmem ⟨p, _, hw⟩ => by
    obtain rfl := Set.mem_singleton_iff.mp hmem
    exact absurd hw (hreq p)
  unfold State.sentEffects
  cases hreq : f.req with rw [hreq] at h listless
  | beacon => exact listless fun _ => id
  | roll p =>
    have h := listless fun _ => id
    dsimp only
    split
    · exact .ite (fun _ => h.request) fun _ => h.setRollOut.judgeEnd
    · exact h.pass
    · exact h
  | rollOffer p =>
    have sent : (s.claimsSent true f.carried).Carrying ∅ := (listless fun _ => id).claimsSent
    exact .ite (fun _ => .ite (fun _ => sent.request) fun _ => sent.setRollOut.judgeEnd) fun _ => sent
  | singleOffer p => exact (listless fun _ => id).claimsSent.checkSingle
  | answer p =>
    refine h.trim (fun x q hp hne => ⟨?_, rfl⟩) fun e => ?_
    · cases q <;> simp_all [Peer.waits, Request.peer]
    · simpa [State.waits_answer] using e
  | release p =>
    refine h.trim (fun x q hp hne => ⟨?_, rfl⟩) fun e => ?_
    · cases q <;> simp_all [Peer.waits, Request.peer]
    · simpa [State.waits_release] using e

theorem State.Carrying.takeSentWhole (h : s.Carrying ∅) : s.takeSentWhole.Carrying ∅ := by
  unfold State.takeSentWhole
  split
  · exact h
  · rename_i f hf
    have free : State.Carrying ∅ { s with line := { s.line with out := .released } } := h.quiet rfl rfl rfl
    unfold State.sentWhole
    dsimp only
    refine State.Carrying.passAll (State.Carrying.convertWants (State.Carrying.frame
      (s := State.sentEffects f (if f.queued = true then _ else _)) (State.Carrying.sentEffects ?_) rfl (.refl _) fun _ => rfl))
    refine .ite (fun queued => ?_) fun _ => ⟨free.nodup, free.head, fun q _ => free.owed q id⟩
    have hout : s.line.out = .sending f := by
      cases e : s.line.out <;> simp [LineCtl.flying, e] at hf
      rw [hf]
    obtain ⟨rest, hrest⟩ := List.head?_eq_some_iff.mp (h.head f hout queued)
    have tail : s.line.queue.drop 1 = rest := by rw [hrest]; rfl
    exact tail ▸ free.dequeue rfl hrest

theorem State.Carrying.jamFrame (h : s.Carrying ∅) : s.jamFrame.Carrying ∅ := by
  unfold State.jamFrame
  split
  · exact h
  · rename_i f _
    have jammed : State.Carrying ∅ { s with line := { s.line with out := .jam } } := h.quiet rfl rfl rfl
    cases hreq : f.req with
    | roll p =>
      have owed : (if (State.peer p { s with line := { s.line with out := .jam } }).rollOut = .sending
          then State.oweRoll p { s with line := { s.line with out := .jam } }
          else { s with line := { s.line with out := .jam } }).Carrying ∅ := .ite (fun _ => jammed.oweRoll) fun _ => jammed
      exact .ite (fun _ => owed.pass) fun _ => owed
    | beacon | rollOffer | singleOffer | answer | release => exact jammed

theorem State.Carrying.takeCollision (h : s.Carrying ∅) : s.takeCollision.Carrying ∅ := by
  have collided : State.Carrying ∅ { s with line := s.line.collide } := by
    refine h.frame ?_ (.of_eq ?_) fun _ => rfl <;> unfold LineCtl.collide <;> dsimp only <;> split <;> rfl
  exact .ite (fun _ => collided.jamFrame.same (by simp) (by simp)) fun _ => h

theorem State.Carrying.lineError (h : s.Carrying ∅) : s.lineError.Carrying ∅ := h.frame rfl (.refl _) fun _ => rfl

theorem State.Carrying.actOn {α : Type} (h : s.Carrying ∅) {src : Nat} {read : Option α} {act : α → State → State}
    (ha : ∀ x, (act x s).Carrying ∅) : (s.actOn src read act).Carrying ∅ := by
  unfold State.actOn
  split
  · exact h.lineError
  · exact .ite (fun _ => ha _) fun _ => h

theorem State.Carrying.handOn (h : s.Carrying ∅) {kind : Byte} {f : LineFrame} : (s.handOn kind f).Carrying ∅ := by
  -- the branches in the order of R143: misaddressed, BEACON, unknown kind, broadcast, OFFER, the rest
  refine .ite (fun _ => h) fun _ => .ite (fun _ => .ite (fun _ => h) fun _ => h.lineError) fun _ =>
    .ite (fun _ => h.lineError) fun _ => .ite (fun _ => h.lineError) fun _ => .ite (fun _ => .ite (fun _ => ?_) fun _ => h)
    fun _ => .ite (fun _ => ?_) fun _ => h
  · exact h.actOn fun _ => h.takeOffer
  · exact .ite (fun _ => h.actOn fun _ => h.takeRoll) fun _ =>
      .ite (fun _ => h.actOn fun _ => h.each fun _ _ hu => hu.takeVerdict) fun _ =>
        h.actOn fun _ => h.each fun _ _ hu => hu.takeRelease

theorem State.Carrying.receive (h : s.Carrying ∅) {kind : Byte} {f : LineFrame} : (s.receive kind f).Carrying ∅ := by
  have named : State.Carrying ∅ { s with line := { s.line with lastSender := f.src } } :=
    h.frame rfl (.refl _) fun _ => rfl
  exact .ite (fun _ => h) fun _ => named.heard.handOn

/-! ### QUIESCE and recovery (R158, R160) -/

theorem State.Carrying.enterQuiesce (h : s.Carrying ∅) {a : Announced} : (s.enterQuiesce a).Carrying ∅ := by
  have left : (State.setStation .quiesce { s with ctl := { s.ctl with ret := some a } }).Carrying ∅ :=
    h.same (by simp) (by simp)
  refine State.Carrying.same (left.jamFrame.each fun g u hu => ?_) rfl rfl
  unfold State.unprobe
  split
  · exact hu
  · exact .ite (fun _ => hu.moveTo.settleChange) fun _ => hu

theorem State.Carrying.letGo (h : s.Carrying ∅) : s.letGo.Carrying ∅ := by
  have posted : (s.passAll.each s.slotOrder State.checkSingle).Carrying ∅ := h.passAll.each fun _ _ hu => hu.checkSingle
  exact .ite (fun _ => posted.same (by simp) (by simp)) fun _ => h

theorem State.Carrying.recover (h : s.Carrying ∅) {a : Announced} : (s.recover a).Carrying ∅ := by
  have resumed : (State.resumeTimer (State.writePending (State.raise .recover
      (State.setStation (stationOf a) { s with ctl := { s.ctl with ret := none } })))).Carrying ∅ :=
    h.same (by simp) (by simp)
  exact resumed.announce.letGo.judgeEnd

theorem State.Carrying.convert (h : s.Carrying ∅) (millivolts : Nat) : (s.convert millivolts).Carrying ∅ := by
  have counted : State.Carrying ∅ { s with supply := s.supply.take s.threshold (sampleOf millivolts) } := h.same rfl rfl
  refine .ite (fun _ => h) fun _ => .ite (fun _ => ?_) fun _ => .ite (fun _ => ?_) fun _ => counted
  · split
    · exact counted.enterQuiesce
    · exact counted
  · split
    · exact counted.recover
    · exact counted

/-! ### Starts, GO and PURGE (R149 to R154, R161) -/

/-- An empty queue, nothing on the line and every peer record at its start values: nothing waits (R52, R161). -/
theorem State.Carrying.blank (hq : t.line.queue = []) (hout : t.line.flying = none)
    (hp : t.peers = List.replicate 24 Peer.start) : t.Carrying ∅ := by
  refine ⟨hq ▸ List.nodup_nil, fun f hf => by simp [LineCtl.flying, hf] at hout, fun req _ hw => ?_⟩
  obtain ⟨p, _, hw⟩ := hw
  have start : t.peer p = Peer.start := by
    rw [State.peer, hp, List.getD_eq_getElem?_getD, List.getElem?_replicate]
    split <;> rfl
  rw [start] at hw
  cases req <;> simp [Peer.waits, Peer.start] at hw

theorem State.Carrying.oweAll (h : s.Carrying ∅) : s.oweAll.Carrying ∅ := by
  refine h.frame rfl (.refl _) fun q => ?_
  simp only [State.peer, State.oweAll, List.getD_eq_getElem?_getD, List.getElem?_mapIdx]
  cases s.peers[q]? with
  | none => rfl
  | some x => by_cases e : s.addressable q = true <;> simp [e, Peer.mail]

theorem State.Carrying.enterRelink (h : s.Carrying ∅) : s.enterRelink.Carrying ∅ := by
  have listening : (State.setStation .relink { s with ctl := { s.ctl with listenCount := 0, listenOver := false } }).Carrying ∅ :=
    h.same (by simp) (by simp)
  exact State.Carrying.same (t := State.relinkTimer _) listening.oweAll.announce (by simp) (by simp)

theorem State.Carrying.enterSetup (h : s.Carrying ∅) : s.enterSetup.Carrying ∅ := by
  have entered : (s.setStation .setup).Carrying ∅ := h.same (by simp) (by simp)
  exact entered.announce.raise

theorem State.Carrying.endWarm (h : s.Carrying ∅) : s.endWarm.Carrying ∅ := by
  have fresh : (State.freshInterval (State.freshLinks
      (State.closeEdit { s with store := { s.store with epoch := s.store.epoch + 1 } }))).Carrying ∅ := h.same rfl rfl
  exact fresh.enterRelink.raise

theorem State.Carrying.endCold (h : s.Carrying ∅) : s.endCold.Carrying ∅ := by
  have rewritten : s.coldRewrite.freshInterval.Carrying ∅ := h.same rfl rfl
  exact rewritten.enterSetup

theorem State.carrying_takePurge (s : State) : s.takePurge.Carrying ∅ := by
  refine State.Carrying.enterSetup (.blank rfl ?_ rfl)
  show (s.line.purged s.ctl.slot).flying = none
  unfold LineCtl.purged LineCtl.flying
  cases s.line.out <;> rfl

/-! ### Settling -/

theorem State.Carrying.settle (h : s.Carrying ∅) : s.settle.Carrying ∅ := by
  unfold State.settle
  rw [State.settleAll_eq]
  refine .ite (fun _ => State.Carrying.settleDue ?_) fun _ => h
  exact .ite (fun _ => .ite (fun _ => h.endWarm) fun _ => h.endCold) fun _ => h

theorem State.Carrying.tick (h : s.Carrying ∅) : s.tick.Carrying ∅ := by
  have lamp : s.settle.tickLamp.Carrying ∅ := h.settle.same (by simp) (by simp)
  have pace : s.settle.tickLamp.tickPace.Carrying ∅ := by
    unfold State.tickPace
    split
    · exact lamp
    · exact .ite (fun _ => lamp.expirePace) fun _ => lamp.same rfl rfl
  show (s.settle.tickLamp.tickPace.tickSweep).Carrying ∅
  unfold State.tickSweep
  split
  · exact pace
  · exact .ite (fun _ => pace.takeSweep) fun _ => pace.same rfl rfl

/-! ### Commands at the card port -/

theorem State.Carrying.takeProvision (h : s.Carrying ∅) (f : ProvisionFields) (g : Nat) :
    (s.takeProvision f g).Carrying ∅ := by
  have entered : (State.closeEdit { s with records := s.records ++ [s.newRecord f g] }).Carrying ∅ := h.same rfl rfl
  exact .ite (fun _ => entered.checkSingle.restartRoll.settleChange) fun _ => entered

theorem State.Carrying.takeDrop (h : s.Carrying ∅) : (s.takeDrop r).Carrying ∅ :=
  State.Carrying.settleChange (State.Carrying.restartRoll
    (.ite (fun _ => h.removeRecord.appendRelease) fun _ => h.removeRecord))

theorem State.Carrying.takeRearm (h : s.Carrying ∅) : (s.takeRearm r).Carrying ∅ := by
  have unclashed : (s.unclash r).Carrying ∅ := h.same rfl rfl
  exact .ite (fun _ => unclashed.enter.checkSingle.settleChange) fun _ => unclashed.enter.enter.settleChange

/-- Every command that is taken keeps the agreement. -/
theorem CardCommand.judge_carrying {c : CardCommand} (h : s.Carrying ∅) {b : List Byte} (hj : c.judge s = .take t b) :
    t.Carrying ∅ := by
  unfold CardCommand.judge at hj
  split at hj
  · cases hj
  rename_i hgate
  clear hgate
  cases c <;> simp only [CardCommand.run] at hj
  case nop => cases hj
  case status => cases hj; exact h
  case configure c =>
    unfold State.doConfigure at hj
    split at hj <;> cases hj
    exact h.same rfl rfl
  case go => cases hj; exact h.enterRelink
  case provision f =>
    unfold State.doProvision at hj
    split at hj <;> cases hj
    exact h.takeProvision f _
  case drop tag =>
    unfold State.doDrop at hj
    split at hj
    · cases hj
    · split at hj <;> cases hj
      exact h.takeDrop
  case rearm tag =>
    unfold State.doRearm at hj
    split at hj
    · cases hj
    · split at hj <;> cases hj
      exact h.takeRearm
  case query tag => unfold State.doQuery at hj; split at hj <;> cases hj; exact h
  case readEntry cls index =>
    unfold State.doReadEntry at hj
    split at hj
    · cases hj
    · split at hj <;> cases hj
      exact h
  case readPeer slot => unfold State.doReadPeer at hj; split at hj <;> cases hj; exact h
  case readNotices | readEvents | setEnables => cases hj; exact h.same rfl rfl
  case setPace reload mode =>
    unfold State.doSetPace at hj
    split at hj <;> cases hj
    exact h.same (by simp) (by simp)
  case stepPace =>
    unfold State.doStep at hj
    split at hj
    · cases hj
    · split at hj <;> cases hj <;> exact h.same rfl rfl
  case purge => cases hj; exact s.carrying_takePurge
  case unmute =>
    cases hj
    exact h.frame (by simp [State.takeUnmute]) (.of_eq (by simp [State.takeUnmute])) fun q =>
      congrArg Peer.mail (State.peer_congr (by simp) q)

theorem State.Carrying.transfer (h : s.Carrying ∅) (c : CardCommand) (k : Nat) : (s.transfer c k).Carrying ∅ := by
  refine .ite (fun _ => h.same rfl rfl) fun _ => ?_
  have ended : (s.endTransfer (c.record.length + k)).Carrying ∅ := h.same rfl rfl
  rcases (s.endTransfer (c.record.length + k)).takeCommand_cases c with ⟨r, p, _, e⟩ | ⟨t, p, hj, e⟩ | ⟨_, e⟩ <;> rw [e]
  · exact ended.same rfl rfl
  · exact (CardCommand.judge_carrying ended hj).same rfl rfl
  · exact ended

theorem State.Carrying.rejectTransfer (h : s.Carrying ∅) (bytes : List Byte) : (s.rejectTransfer bytes).Carrying ∅ := by
  unfold State.rejectTransfer
  dsimp only
  repeat' split
  all_goals exact h.same rfl rfl

/-! ### The rows -/

theorem State.Carrying.readStraps (h : s.Carrying ∅) (slotPins sizePins : Nat) :
    (s.readStraps slotPins sizePins).Carrying ∅ := by
  refine .ite (fun _ => .ite (fun _ => ?_) fun _ => h.frame rfl (.refl _) fun _ => rfl) fun _ => h
  have read : State.Carrying ∅ { s with
      ctl := { s.ctl with slot := slotPins, size := shelfSize sizePins, resetHeld := false }
      line := { s.line with lastSender := slotPins } } := h.frame rfl (.refl _) fun _ => rfl
  exact read.same (by simp) (by simp)

/-- Every row keeps the agreement. -/
theorem exec_carrying (c : Instr) (h : s.Carrying ∅) (he : exec c s = .next t) : t.Carrying ∅ := by
  have settled := h.settle
  cases c <;> cases he
  case nop | status | configure | go | provision | drop | rearm | query | readEntry | readPeer | readNotices |
      readEvents | setEnables | setPace | stepPace | purge | unmute =>
    exact settled.transfer _ _
  case rejectedRecord bytes => exact settled.rejectTransfer bytes
  case start cause cut => exact .blank rfl rfl rfl
  case strapRead slotPins sizePins => exact settled.readStraps slotPins sizePins
  case warmStart => exact .ite (fun _ => h.endWarm) fun _ => h
  case coldStart => exact .ite (fun _ => h.endCold) fun _ => h
  case keepAliveClear => exact settled.same rfl rfl
  case conversionResult millivolts => exact settled.convert millivolts
  case sweep => exact settled.takeSweep
  case peerSilent => exact h.takeSilence
  case beaconDue => exact h.takeBeacon
  case claimResend => exact h.resendTag
  case rollAbandon => exact h.takeAbandon
  case listenIntervalEnd => exact h.takeListenEnd
  case paceExpiry => exact settled.expirePace
  case probeCompletion => exact h.takeCompletion
  case echoFault => exact h.takeEcho
  case linePosition => exact settled.takePosition
  case frameSentWhole => exact settled.takeSentWhole
  case collision => exact settled.takeCollision
  case beaconReceived | rollReceived | offerReceived | answerReceived | releaseReceived | otherFrameReceived =>
    exact settled.receive
  case badFrameReceived => exact .ite (fun _ => settled) fun _ => .ite (fun _ => settled.lineError) fun _ => settled
  case jamReceived => exact settled
  case lampPeriod => exact settled.same (t := s.settle.newLampPeriod) (by simp) (by simp)
  case highwayFrame => exact settled.same rfl rfl
  case chipSelectAsserted => exact settled.same (t := s.settle.assertSelect) (by simp) (by simp)

end Rules

end Sys2Proof.Machine

open Sys2Proof Sys2Proof.Machine

/-- Settles O57: one millisecond and every row keep every list that waits with its request. -/
theorem listsCarried : Obligations.ListsCarried := by
  intro s t before hstep
  have carrying := s.carrying_iff.mpr before
  refine t.carrying_iff.mp ?_
  unfold step at hstep
  split at hstep
  · cases hstep
    exact carrying.tick
  · rename_i c rest _
    exact exec_carrying (s := { s with pending := rest }) c (carrying.same rfl rfl) hstep

end

section
/-! PROOF. The conversion of want marks (R130), and the turns of one position (R133): how many it takes. -/

namespace Sys2Proof.Machine

variable {s t : State} {req q : Request} {p : Nat}

/-! ### The order of conversion -/

theorem State.nodup_slotOrder (s : State) : s.slotOrder.Nodup := by
  refine List.Nodup.map_on (fun i hi j hj e => ?_) List.nodup_range
  have hi := List.mem_range.mp hi
  have hj := List.mem_range.mp hj
  have cancelled : i ≡ j [MOD s.ctl.size] := Nat.ModEq.add_left_cancel' _ e
  exact cancelled.eq_of_lt_of_lt (by omega) (by omega)

/-- No two want marks stand for one request. -/
theorem State.nodup_wantOrder (s : State) : s.wantOrder.Nodup := by
  refine List.nodup_cons.mpr ⟨by simp, List.nodup_flatMap.mpr ⟨fun p _ => by simp, ?_⟩⟩
  refine s.nodup_slotOrder.imp fun {p k} hne => ?_
  simp [Function.onFun, hne.symm]

/-! ### One want mark -/

/-- A mark that is set becomes the last request of a queue that has room for it. -/
theorem State.convertWant_of_room (hw : s.wanted req = true) (hroom : s.line.queue.length < 24)
    (hnew : req ∉ s.line.queue) : s.convertWant req = (s.setWant req false).setQueue (s.line.queue ++ [req]) := by
  simp [State.convertWant, State.request, queueCapacity, hw, hroom, hnew]

theorem State.convertWant_of_full (hfull : 24 ≤ s.line.queue.length) : s.convertWant req = s := by
  simp [State.convertWant, queueCapacity, Nat.not_lt.mpr hfull]

theorem State.convertWant_of_clear (hw : s.wanted req = false) : s.convertWant req = s := by
  simp [State.convertWant, hw]

/-! ### All of them -/

/-- The marks that are set become requests, in their order, as many as the queue has room for; the others stay. -/
theorem State.convert_walk {xs : List Request} (nodup : xs.Nodup)
    (hnew : ∀ req ∈ xs, s.wanted req = true → req ∉ s.line.queue) :
    let moved := (xs.filter (fun req => s.wanted req)).take (24 - s.line.queue.length)
    (s.each xs State.convertWant).line.queue = s.line.queue ++ moved ∧
      ∀ req, (s.each xs State.convertWant).wanted req = if req ∈ moved then false else s.wanted req := by
  induction xs generalizing s with
  | nil => simp [State.each]
  | cons x xs ih =>
    obtain ⟨hx, nodup⟩ := List.nodup_cons.mp nodup
    have first : s.each (x :: xs) State.convertWant = (s.convertWant x).each xs State.convertWant := rfl
    rw [first]
    by_cases hw : s.wanted x = true
    case neg =>
      rw [State.convertWant_of_clear (by simpa using hw), List.filter_cons_of_neg (p := fun req => s.wanted req) hw]
      exact ih nodup fun req hreq => hnew req (by simp [hreq])
    rw [List.filter_cons_of_pos (p := fun req => s.wanted req) hw]
    by_cases hroom : s.line.queue.length < 24
    case neg =>
      have full : 24 ≤ s.line.queue.length := not_lt.mp hroom
      rw [State.convertWant_of_full full]
      have rest := ih nodup fun req hreq => hnew req (by simp [hreq])
      rw [Nat.sub_eq_zero_of_le full] at rest ⊢
      exact rest
    have fresh : x ∉ s.line.queue := hnew x (by simp) hw
    have wanted (req : Request) : ((s.setWant x false).setQueue (s.line.queue ++ [x])).wanted req =
        if req = x then false else s.wanted req := by
      split
      · rename_i e
        subst e
        exact State.wanted_setWant_false
      · exact State.wanted_setWant_of_ne ‹_›
    obtain ⟨queue, marks⟩ := ih (s := (s.setWant x false).setQueue (s.line.queue ++ [x])) nodup fun req hreq hwr => by
      rw [wanted] at hwr
      split at hwr
      · cases hwr
      · simpa [‹¬ req = x›] using hnew req (by simp [hreq]) hwr
    have same : xs.filter (fun req => ((s.setWant x false).setQueue (s.line.queue ++ [x])).wanted req) =
        xs.filter (fun req => s.wanted req) :=
      List.filter_congr fun req hreq => by rw [wanted, if_neg (ne_of_mem_of_not_mem hreq hx)]
    have room : 24 - s.line.queue.length = (24 - (s.line.queue.length + 1)) + 1 := by omega
    rw [State.convertWant_of_room hw hroom fresh, room, List.take_succ_cons]
    rw [same, State.setQueue_queue, List.length_append, List.length_singleton] at queue marks
    refine ⟨by rw [queue]; simp, fun req => ?_⟩
    rw [marks, wanted]
    by_cases e : req = x <;> simp [e]

/-- Want marks converted at an empty queue. -/
theorem State.convertWants_of_empty (hq : s.line.queue = []) : s.convertWants.line.queue = s.wantedInOrder.take 24 ∧
    s.convertWants.Converted 0 s.wantedInOrder := by
  obtain ⟨queue, marks⟩ := State.convert_walk (s := s) s.nodup_wantOrder fun req _ _ => by simp [hq]
  rw [hq] at queue marks
  have nodup : s.wantedInOrder.Nodup := s.nodup_wantOrder.filter _
  refine ⟨queue, fun req hreq => ?_, fun req hreq => ?_⟩
  · exact (marks req).trans (if_pos hreq)
  · have away : req ∉ s.wantedInOrder.take 24 := fun hin =>
      List.disjoint_take_drop nodup le_rfl hin hreq
    refine ((marks req).trans (if_neg away)).trans ?_
    exact (List.mem_filter.mp (List.mem_of_mem_drop hreq)).2

/-- The conversion takes nothing of a peer record but its want marks. -/
theorem State.convertWants_field {β : Type} (g : Peer → β)
    (hg : ∀ (x : Peer) (w : WantMarks), g { x with wants := w } = g x)
    (k : Nat) (s : State) : g (s.convertWants.peer k) = g (s.peer k) := by
  refine State.each_keeps (fun s => g (s.peer k)) _ _ (fun req s => ?_) s
  unfold State.convertWant
  split
  · obtain ⟨w, hw⟩ := State.peer_request req k (s.setWant req false)
    rw [hw, hg]
    cases hreq : req.peer with
    | none =>
      obtain rfl := Request.eq_beacon hreq
      rfl
    | some p =>
      rw [State.setWant_of_peer hreq, State.peer_updPeer]
      split
      · obtain ⟨rfl, _⟩ := ‹_ ∧ _›
        exact hg _ _
      · rfl
  · rfl

theorem State.convertWants_out (s : State) : s.convertWants.line.out = s.line.out := by
  refine State.each_keeps (fun s => s.line.out) _ _ (fun req s => ?_) s
  unfold State.convertWant
  split
  · rw [State.request_out, State.setWant_out]
  · rfl

/-! ### A request passed over (R70, R133) -/

/-- What passing over a request comes to: nothing, or the end of a roll that is SENDING. -/
theorem State.passedOver_eq (hp : req.peer = some p) (s : State) : s.passedOver req =
    if req = .rollOffer p ∧ (s.peer p).rollOut = .sending then (s.setRollOut p .none).judgeEnd else s := by
  cases req <;> cases hp <;> simp [State.passedOver]

/-- Where RELINK ends, a BEACON waits. -/
theorem State.judgeEnd_queue_of_done (h : s.relinkDone = true) : s.judgeEnd.line.queue ≠ [] := by
  rw [State.judgeEnd, if_pos h]
  have queue : (State.raise .relinkDone (s.setStation .service)).line.queue = s.line.queue := by simp
  unfold State.announce
  rcases State.request_cases .beacon { State.raise .relinkDone (s.setStation .service) with
    sweep := { (State.raise .relinkDone (s.setStation .service)).sweep with beaconCount := 0 } } with
    ⟨hmem, e⟩ | ⟨_, _, e⟩ | ⟨_, hfull, e⟩ <;> rw [e]
  · exact List.ne_nil_of_mem hmem
  · simp
  · rw [State.setWant_queue]
    exact List.ne_nil_of_length_pos (by omega)

theorem State.length_queue_request (req : Request) (s : State) :
    (s.request req).line.queue.length ≤ s.line.queue.length + 1 := by
  rcases s.request_cases req with ⟨_, e⟩ | ⟨_, _, e⟩ | ⟨_, _, e⟩ <;> rw [e] <;> simp

/-- The end of RELINK posts one BEACON at most. -/
theorem State.length_queue_judgeEnd (s : State) : s.judgeEnd.line.queue.length ≤ s.line.queue.length + 1 := by
  unfold State.judgeEnd
  split
  · refine (State.length_queue_request _ _).trans ?_
    simp
  · omega

/-! ### The turns -/

/-- Outside RELINK a turn adds no request, so no more turns are taken than requests wait, and one. -/
theorem State.takeTurns_of_fuel (hst : s.ctl.st ≠ .relink) {n : Nat} (hn : s.line.queue.length < n) :
    s.takeTurns n = s.takeTurns (s.line.queue.length + 1) := by
  generalize hq : s.line.queue = queue at hn
  induction queue generalizing s n with
  | nil =>
    obtain ⟨m, rfl⟩ : ∃ m, n = m + 1 := ⟨n - 1, by simp at hn; omega⟩
    simp [State.takeTurns, hq]
  | cons req rest ih =>
    obtain ⟨m, rfl⟩ : ∃ m, n = m + 1 := ⟨n - 1, by omega⟩
    have queue : ((s.setQueue rest).passedOver req).line.queue = rest := by
      cases hp : req.peer with
      | none =>
        obtain rfl := Request.eq_beacon hp
        rfl
      | some p =>
        rw [State.passedOver_eq hp]
        split
        · rw [State.judgeEnd_of_ne (s := (s.setQueue rest).setRollOut p .none) hst]
          rfl
        · rfl
    have station : ((s.setQueue rest).passedOver req).ctl.st ≠ .relink := by
      cases hp : req.peer with
      | none =>
        obtain rfl := Request.eq_beacon hp
        exact hst
      | some p =>
        rw [State.passedOver_eq hp]
        split
        · rw [State.judgeEnd_of_ne (s := (s.setQueue rest).setRollOut p .none) hst]
          exact hst
        · exact hst
    rw [List.length_cons] at hn ⊢
    have turn (n : Nat) : s.takeTurns (n + 1) =
        if s.nothingToCarry req then ((s.setQueue rest).passedOver req).takeTurns n else s.build req := by
      rw [State.takeTurns, hq]
    rw [turn, turn]
    split
    · exact (ih station queue (by omega)).trans (ih station queue (by omega)).symm
    · rfl

end Sys2Proof.Machine
end

section
/-! PROOF. A position taken (O41): what each request builds, and the turns after one with nothing to carry. -/

namespace Sys2Proof.Machine

variable {s t : State} {req : Request} {rest : List Request} {p pos : Nat} {a : Announced}

/-! ### The first turn -/

theorem State.eligible_of_announced (station : s.ctl.st = stationOf a) (unmuted : s.line.muted = false)
    (queue : s.line.queue ≠ []) : s.eligible = true := by
  refine s.eligible_iff.mpr ⟨?_, unmuted, queue⟩
  rw [State.edits_iff_announced, station, announcedOf_stationOf]
  rfl

theorem State.takePosition_of_eligible (own : s.ownPosition pos = true) (eligible : s.eligible = true)
    (released : s.line.flying = none) : s.takePosition pos = s.takeTurns (s.line.queue.length + 2) :=
  if_pos (by simp [own, eligible, released])

theorem State.takeTurns_cons (queue : s.line.queue = req :: rest) (n : Nat) : s.takeTurns (n + 1) =
    if s.nothingToCarry req then ((s.setQueue rest).passedOver req).takeTurns n else s.build req := by
  rw [State.takeTurns, queue]

theorem State.launch_of_announced (station : s.ctl.st = stationOf a) (kind : Byte) (payload : List Byte)
    (carried : List Nat) (items : Nat) : s.launch req kind p payload carried items =
      { s with line := { s.line with out := .sending {
        req := req, queued := true, carried := carried, items := items,
        bytes := frameBytes kind s.ctl.slot p s.store.epoch a payload } } } := by
  simp only [State.launch, station, announcedOf_stationOf, Option.getD_some]

theorem Circuit.lane_eq (r : Circuit) : r.lane = if r.inUse = .primary then r.primary else r.standby.getD r.primary := by
  cases h : r.inUse <;> simp [Circuit.lane, h]

/-- The claims of an OFFER, each with the lane its record is on (R72). -/
theorem flatMap_claimBytes (rs : List Circuit) : (rs.map Circuit.claim).flatMap claimBytes =
    rs.flatMap (fun r => claimBytes ⟨r.tag, r.localPort,
      if r.inUse = .primary then r.primary else r.standby.getD r.primary, r.farPort⟩) := by
  rw [List.flatMap_map]
  refine congrArg (rs.flatMap ·) (funext fun r => ?_)
  rw [Circuit.claim, Circuit.lane_eq]

/-- A ROLL built marks its roll set (R68). -/
theorem State.mapTowards_rollMark (p : Nat) (s : State) :
    (s.mapTowards p (fun r => if r.state = .clashed then r else { r with rollMark := true })).records =
      s.records.map (fun r => if r.farSlot = p ∧ r.state ≠ .clashed then { r with rollMark := true } else r) :=
  List.map_congr_left fun r _ => by by_cases far : r.farSlot = p <;> simp [far]

/-! ### The turn after one with nothing to carry -/

theorem State.request_muted (req : Request) (s : State) : (s.request req).line.muted = s.line.muted := by
  rcases s.request_cases req with ⟨_, e⟩ | ⟨_, _, e⟩ | ⟨_, _, e⟩ <;> rw [e]
  · rfl
  · cases req <;> rfl

theorem State.judgeEnd_muted (s : State) : s.judgeEnd.line.muted = s.line.muted := by
  unfold State.judgeEnd
  split
  · have line : (State.raise .relinkDone (s.setStation .service)).line = s.line := by simp
    exact (State.request_muted .beacon _).trans (congrArg LineCtl.muted line)
  · rfl

theorem State.passedOver_muted (hp : req.peer = some p) (s : State) : (s.passedOver req).line.muted = s.line.muted := by
  rw [State.passedOver_eq hp]
  split
  · exact State.judgeEnd_muted _
  · rfl

theorem State.undue_setQueue (rest : List Request) (s : State) : s.Undue (s.setQueue rest) :=
  .of_eq (.of_eq rfl rfl rfl rfl) (State.map_unmark_none 0 s).symm fun _ due => due

theorem State.undue_passedOver (hp : req.peer = some p) (rest : List Request) (s : State) :
    s.Undue ((s.setQueue rest).passedOver req) := by
  rw [State.passedOver_eq hp]
  exact (s.undue_setQueue rest).setRollOut.judgeEnd.ite (s.undue_setQueue rest)

/-- The requests left and one more make the turns that follow, whether or not a BEACON has joined them (R156). -/
theorem State.takeTurns_passedOver (hp : req.peer = some p) {left : State}
    (hleft : left = (s.setQueue rest).passedOver req) :
    left.takeTurns (rest.length + 1 + 1) = left.takeTurns (left.line.queue.length + 2) := by
  have plain (h : left.line.queue = rest) : left.takeTurns (rest.length + 1 + 1) =
      left.takeTurns (left.line.queue.length + 2) := by rw [h]
  rw [State.passedOver_eq hp] at hleft
  split at hleft
  case isFalse => exact plain (hleft ▸ rfl)
  case isTrue =>
    by_cases done : ((s.setQueue rest).setRollOut p .none).relinkDone = true
    case neg =>
      rw [State.judgeEnd_of_open (by simpa using done)] at hleft
      exact plain (hleft ▸ rfl)
    have served : left.ctl.st ≠ .relink := by
      rw [hleft, State.judgeEnd, if_pos done]
      simp [State.setStation]
    have length : left.line.queue.length ≤ rest.length + 1 := by
      rw [hleft]
      exact State.length_queue_judgeEnd _
    rw [State.takeTurns_of_fuel served (by omega), State.takeTurns_of_fuel served (n := left.line.queue.length + 2) (by omega)]

/-- The next request is built as it would be had it stood at the head. -/
theorem exec_linePosition_of_nothing (calm : s.calm) (own : s.ownPosition pos = true) (station : s.ctl.st = stationOf a)
    (unmuted : s.line.muted = false) (released : s.line.flying = none) (queue : s.line.queue = req :: rest)
    (nothing : s.nothingToCarry req = true) :
    exec (.linePosition pos) s = .next (((s.setQueue rest).passedOver req).takeTurns (rest.length + 1 + 1)) := by
  have eligible := State.eligible_of_announced station unmuted (by simp [queue])
  rw [exec_linePosition calm, State.takePosition_of_eligible own eligible released, State.takeTurns_cons queue,
    if_pos nothing, queue, List.length_cons]

theorem State.exec_linePosition_left {left : State} (calm : s.calm) (station : s.ctl.st = stationOf a)
    (unmuted : s.line.muted = false) (released : s.line.flying = none) (hp : req.peer = some p)
    (hleft : left = (s.setQueue rest).passedOver req) (queue : left.line.queue ≠ []) (own : left.ownPosition pos = true) :
    exec (.linePosition pos) left = .next (left.takeTurns (rest.length + 1 + 1)) := by
  have undue : s.Undue left := hleft ▸ State.undue_passedOver hp rest s
  have calm' : left.calm := undue.calm calm (by rw [station]; cases a <;> simp [stationOf])
  have eligible : left.eligible = true := by
    refine left.eligible_iff.mpr ⟨?_, ?_, queue⟩
    · rw [State.edits_iff_announced]
      rcases undue.station with e | ⟨_, e⟩ <;> rw [e]
      · rw [station, announcedOf_stationOf]; rfl
      · rfl
    · rw [hleft, State.passedOver_muted hp]; exact unmuted
  have free : left.line.flying = none := by
    rw [hleft]
    have out : ((s.setQueue rest).passedOver req).line.out = s.line.out := State.passedOver_out _ _
    simpa only [LineCtl.flying, out] using released
  rw [exec_linePosition calm', State.takePosition_of_eligible own eligible free, State.takeTurns_passedOver hp hleft]

theorem State.wantedInOrder_congr (hctl : t.ctl = s.ctl) (hw : ∀ req, t.wanted req = s.wanted req) :
    t.wantedInOrder = s.wantedInOrder := by
  simp only [State.wantedInOrder, State.slotOrder, hctl, hw]

theorem State.wanted_setRollOut (x : RollOut) (s : State) : (s.setRollOut p x).wanted req = s.wanted req := by
  cases hp : req.peer with
  | none =>
    obtain rfl := Request.eq_beacon hp
    rfl
  | some q => rw [State.wanted_of_peer hp, State.wanted_of_peer hp, State.peer_setRollOut]

/-- A request passed over that leaves no other behind it ends a roll, where it ends one, and changes nothing else: the end
of RELINK would have posted a BEACON. -/
theorem State.passedOver_of_empty (hp : req.peer = some p) {left : State}
    (hleft : left = (s.setQueue rest).passedOver req) (queue : left.line.queue = []) :
    left.wantedInOrder = s.wantedInOrder ∧
    (∀ q, (left.peer q).rollOut = if req = .rollOffer p ∧ q = p ∧ (s.peer p).rollOut = .sending then .none
      else (s.peer q).rollOut) ∧
    left.records = s.records ∧ left.store = s.store ∧ left.ctl = s.ctl ∧ left.events = s.events ∧
    left.notices = s.notices := by
  rw [State.passedOver_eq hp] at hleft
  split at hleft
  case isTrue ends =>
    obtain ⟨rfl, sending⟩ := ends
    have undone : ((s.setQueue rest).setRollOut p .none).relinkDone = false :=
      Bool.eq_false_iff.mpr fun done => State.judgeEnd_queue_of_done done (hleft ▸ queue)
    rw [State.judgeEnd_of_open undone] at hleft
    subst hleft
    refine ⟨State.wantedInOrder_congr rfl fun _ => State.wanted_setRollOut _ _, fun q => ?_, rfl, rfl, rfl, rfl, rfl⟩
    have seat : p < (s.setQueue rest).peers.length := State.lt_of_sending sending
    have sent : (s.peer p).rollOut = .sending := sending
    rw [State.peer_setRollOut]
    simp only [seat, sent, and_true, true_and]
    rfl
  case isFalse stays =>
    subst hleft
    refine ⟨rfl, fun q => (if_neg ?_).symm, rfl, rfl, rfl, rfl, rfl⟩
    rintro ⟨roll, rfl, sending⟩
    exact stays ⟨roll, sending⟩

/-- The position passes, and the want marks are converted at the empty queue. -/
theorem State.takeTurns_of_empty (h : s.line.queue = []) (n : Nat) : ∃ t, s.takeTurns (n + 1) = t ∧
    t.line.out = .released ∧ t.line.queue = s.wantedInOrder.take 24 ∧ t.Converted 0 s.wantedInOrder ∧
    (∀ q, (t.peer q).rollOut = (s.peer q).rollOut) ∧ t.records = s.records ∧ t.store = s.store ∧ t.ctl = s.ctl ∧
    t.events = s.events ∧ t.notices = s.notices := by
  obtain ⟨queue, marks⟩ := State.convertWants_of_empty (s := { s with line := { s.line with out := .released } }) h
  refine ⟨_, by rw [State.takeTurns, h], State.convertWants_out _, queue, marks,
    fun q => State.convertWants_field Peer.rollOut (fun _ _ => rfl) q _, ?_⟩
  simp

end Sys2Proof.Machine

open Sys2Proof Sys2Proof.Machine

/-- Settles O41: each clause is the first turn of the position; a request passed over leaves the state of the next turn. -/
theorem positionBuilds : Obligations.PositionBuilds := by
  intro pos p req rest a s calm own station unmuted released queue sends marked waiting laneOf claims
  have eligible := State.eligible_of_announced station unmuted (by simp [queue])
  have builds (h : s.nothingToCarry req = false) : exec (.linePosition pos) s = .next (s.build req) := by
    rw [exec_linePosition calm, State.takePosition_of_eligible own eligible released, State.takeTurns_cons queue, h]
    rfl
  refine ⟨?_, ?_, ?_, ?_, ?_, ?_⟩
  · rintro rfl releasable
    rw [builds (by simp [State.nothingToCarry, releasable])]
    refine congrArg Host.Outcome.next ?_
    simp only [sends, ← State.mapTowards_rollMark]
    exact State.launch_of_announced (s := (s.mapTowards p _).setRollOut p .sending) station ..
  · rintro rfl some
    rw [builds (Bool.eq_false_iff.mpr fun none => some (List.isEmpty_iff.mp none))]
    refine congrArg Host.Outcome.next ((State.launch_of_announced station ..).trans ?_)
    rw [offerPayload, flatMap_claimBytes]
    rfl
  · rintro rfl some up
    rw [builds (by rw [State.nothingToCarry, up]; exact Bool.eq_false_iff.mpr fun none => some (List.isEmpty_iff.mp none))]
    refine congrArg Host.Outcome.next ((State.launch_of_announced station ..).trans ?_)
    rw [offerPayload, flatMap_claimBytes]
    rfl
  · rintro rfl some
    rw [builds (by simpa [State.nothingToCarry] using some)]
    refine congrArg Host.Outcome.next ((State.launch_of_announced station ..).trans ?_)
    rw [List.length_take]
    rfl
  · rintro rfl some
    rw [builds (by simpa [State.nothingToCarry] using some)]
    refine congrArg Host.Outcome.next ((State.launch_of_announced station ..).trans ?_)
    rw [List.length_take]
    rfl
  · intro cut left why
    have nothing : req.peer = some p ∧ s.nothingToCarry req = true := by
      rcases why with ⟨rfl, h⟩ | ⟨rfl, h⟩ | ⟨rfl, h⟩ | ⟨rfl, h⟩ | ⟨rfl, h⟩
      · exact ⟨rfl, by simp [State.nothingToCarry, h]⟩
      · exact ⟨rfl, List.isEmpty_iff.mpr h⟩
      · exact ⟨rfl, Bool.or_eq_true_iff.mpr (h.symm.imp (by simp [·]) List.isEmpty_iff.mpr)⟩
      · exact ⟨rfl, by simp [State.nothingToCarry, h]⟩
      · exact ⟨rfl, by simp [State.nothingToCarry, h]⟩
    obtain ⟨hp, nothing⟩ := nothing
    have hleft : left = (s.setQueue rest).passedOver req := (State.passedOver_eq hp (s.setQueue rest)).symm
    have turns := exec_linePosition_of_nothing calm own station unmuted released queue nothing
    rw [← hleft] at turns
    refine ⟨fun some next mine => ?_, fun none => ?_⟩
    · rw [turns, State.exec_linePosition_left calm station unmuted released hp hleft some mine]
    · obtain ⟨t, ht, out, requests, converted, roll, same⟩ := State.takeTurns_of_empty none (rest.length + 1)
      obtain ⟨marks, rolls, records, store, ctl, events, notices⟩ := State.passedOver_of_empty hp hleft none
      rw [marks] at requests converted
      obtain ⟨records', store', ctl', events', notices'⟩ := same
      exact ⟨t, turns.trans (congrArg Host.Outcome.next ht), out, requests, converted, fun q => (roll q).trans (rolls q),
        records'.trans records, store'.trans store, ctl'.trans ctl, events'.trans events, notices'.trans notices⟩
end

section
/-! PROOF. The payloads of ROLL, OFFER and ANSWER frames (R189), and what such a frame comes to where its header says
nothing new (R53, R80). -/

namespace Sys2Proof.Machine

/-! ### Payloads (R189) -/

theorem readRoll_wordBytes {n : Nat} (h : n ≤ 64) : readRoll (wordBytes n) = some n := by
  rw [wordBytes, readRoll, wordOf_wordBytes (by omega), if_pos h]

/-- A claim comes back from its five bytes. -/
theorem readClaims_claimBytes {c : Claim} (h : c.fits) (rest : List Byte) :
    readClaims (claimBytes c ++ rest) = (readClaims rest).map (c :: ·) := by
  obtain ⟨tag, port, lane, addressee⟩ := h
  have bytes : claimBytes c ++ rest = byteOf (c.tag / 256) :: byteOf c.tag :: byteOf (c.claimerPort * 4 + c.lane / 256) ::
      byteOf c.lane :: byteOf c.addresseePort :: rest := rfl
  have ports : (byteOf (c.claimerPort * 4 + c.lane / 256)).toNat = c.claimerPort * 4 + c.lane / 256 := by
    rw [byteOf, BitVec.toNat_ofNat]
    omega
  have claimer : (byteOf (c.claimerPort * 4 + c.lane / 256)).toNat / 4 = c.claimerPort := by omega
  have value : (byteOf (c.claimerPort * 4 + c.lane / 256)).toNat % 4 * 256 + (byteOf c.lane).toNat = c.lane := by
    rw [ports, byteOf, BitVec.toNat_ofNat]
    omega
  have port : (byteOf c.addresseePort).toNat % 64 = c.addresseePort := by
    rw [byteOf, BitVec.toNat_ofNat]
    omega
  rw [bytes, readClaims, wordOf_wordBytes tag, claimer, value, port]

theorem readClaims_flatMap {cs : List Claim} (h : ∀ c ∈ cs, c.fits) : readClaims (cs.flatMap claimBytes) = some cs := by
  induction cs with
  | nil => rfl
  | cons c cs ih =>
    obtain ⟨hc, hcs⟩ := List.forall_mem_cons.mp h
    rw [List.flatMap_cons, readClaims_claimBytes hc, ih hcs]
    rfl

/-- An OFFER of 1 to 8 claims is read as it was written. -/
theorem readOffer_offerPayload {cs : List Claim} (roll : Bool) (h : ∀ c ∈ cs, c.fits) (hlo : 1 ≤ cs.length)
    (hhi : cs.length ≤ 8) : readOffer (offerPayload roll cs) = some (roll, cs) := by
  have flag : (if roll = true then 0x01#8 else 0x00#8).getLsbD 0 = roll := by cases roll <;> rfl
  rw [offerPayload, readOffer, readClaims_flatMap h]
  simp only [hlo, hhi, and_self, if_true, flag]

theorem readVerdictKind_verdictCode {k : VerdictKind} (h : ∀ lane, k = .accept lane → lane < 65536) :
    readVerdictKind (verdictCode k) (wordOf (byteOf (verdictLane k / 256)) (byteOf (verdictLane k))) = some k := by
  cases k with
  | accept lane =>
    rw [verdictLane, wordOf_wordBytes (h lane rfl)]
    rfl
  | unknown | mismatch | wait | clash => rfl

theorem readVerdicts_answerPayload {vs : List Verdict} (h : ∀ v ∈ vs, v.fits) :
    readVerdicts (answerPayload vs) = some vs := by
  induction vs with
  | nil => rfl
  | cons v vs ih =>
    obtain ⟨⟨tag, lane⟩, hvs⟩ := List.forall_mem_cons.mp h
    have bytes : answerPayload (v :: vs) = byteOf (v.tag / 256) :: byteOf v.tag :: verdictCode v.kind ::
        byteOf (verdictLane v.kind / 256) :: byteOf (verdictLane v.kind) :: answerPayload vs := rfl
    rw [bytes, readVerdicts, readVerdictKind_verdictCode lane, ih hvs, wordOf_wordBytes tag]

/-- An ANSWER of 1 to 8 verdicts is read as it was written. -/
theorem readAnswer_answerPayload {vs : List Verdict} (h : ∀ v ∈ vs, v.fits) (hlo : 1 ≤ vs.length) (hhi : vs.length ≤ 8) :
    readAnswer (answerPayload vs) = some vs := by
  simp only [readAnswer, readVerdicts_answerPayload h, hlo, hhi, and_self, if_true]

/-! ### Frames acted on (R80, R143) -/

section Frames

variable {s : State} {f : LineFrame}

theorem exec_rollReceived {n : Nat} (h : s.hears f) (hrun : s.running = true) (hdst : f.dst = s.ctl.slot)
    (hne : f.dst ≠ 31) (hread : readRoll f.payload = some n) :
    exec (.rollReceived f) s = .next ((s.refreshed f).takeRoll f.src n) := by
  show Host.Outcome.next (s.settle.receive kindRoll f) = _
  obtain ⟨_, _, _, haddr, _⟩ := id h
  have haddr : (s.refreshed f).addressable f.src = true := haddr
  have hrun : (s.refreshed f).running = true := hrun
  have hdst : f.dst = (s.refreshed f).ctl.slot := hdst
  rw [State.receive_of_hears h, State.handOn]
  simp [hdst, hdst ▸ hne, kindBeacon, kindRoll, kindOffer, hrun, State.actOn, hread, haddr]

/-- An OFFER is taken in SETUP too (R23). -/
theorem exec_offerReceived {roll : Bool} {cs : List Claim} (h : s.hears f) (takes : s.running = true ∨ s.ctl.st = .setup)
    (hdst : f.dst = s.ctl.slot) (hne : f.dst ≠ 31) (hread : readOffer f.payload = some (roll, cs)) :
    exec (.offerReceived f) s = .next ((s.refreshed f).takeOffer f.src roll cs) := by
  show Host.Outcome.next (s.settle.receive kindOffer f) = _
  obtain ⟨_, _, _, haddr, _⟩ := id h
  have haddr : (s.refreshed f).addressable f.src = true := haddr
  have takes : (s.refreshed f).running = true ∨ (s.refreshed f).ctl.st = .setup := takes
  have hdst : f.dst = (s.refreshed f).ctl.slot := hdst
  rw [State.receive_of_hears h, State.handOn]
  simp [hdst, hdst ▸ hne, kindBeacon, kindRoll, kindOffer, takes, State.actOn, hread, haddr]

theorem exec_answerReceived {vs : List Verdict} (h : s.hears f) (hrun : s.running = true) (hdst : f.dst = s.ctl.slot)
    (hne : f.dst ≠ 31) (hread : readAnswer f.payload = some vs) :
    exec (.answerReceived f) s = .next ((s.refreshed f).each vs (State.takeVerdict f.src)) := by
  show Host.Outcome.next (s.settle.receive kindAnswer f) = _
  obtain ⟨_, _, _, haddr, _⟩ := id h
  have haddr : (s.refreshed f).addressable f.src = true := haddr
  have hrun : (s.refreshed f).running = true := hrun
  have hdst : f.dst = (s.refreshed f).ctl.slot := hdst
  rw [State.receive_of_hears h, State.handOn]
  simp [hdst, hdst ▸ hne, kindBeacon, kindRoll, kindOffer, kindAnswer, hrun, State.actOn, hread, haddr]

end Frames

end Sys2Proof.Machine
end

section
/-! PROOF. A frame heard after another of the same header: what the claims of one OFFER, and the verdicts of one ANSWER,
do is done in frames of one claim or verdict each (R80, R85). No operation on the way makes a step fall due, ends RELINK
without judging it, or forgets what the header said. -/

namespace Sys2Proof.Machine

variable {s t u : State} {r x : Circuit} {p q : Nat} {f : LineFrame}

/-- What the header of a frame is compared with (R53, R56). -/
def Peer.header (x : Peer) : Presence × Nat × Option Byte × Option Announced := (x.presence, x.sinceHeard, x.epoch, x.st)

/-- Nothing is due in `t` that was not due in `s`, and a header that says nothing new there says nothing new here. -/
structure State.Attends (s t : State) : Prop extends State.Undue s t where
  tends : s.Tends t
  header : ∀ q, (t.peer q).header = (s.peer q).header

/-! ### One rule per operation -/

theorem State.Attends.refl (s : State) : s.Attends s := ⟨.refl s, .refl s, fun _ => rfl⟩

theorem State.Attends.trans (h : s.Attends t) (k : t.Attends u) : s.Attends u :=
  ⟨h.toUndue.trans k.toUndue, h.tends.trans k.tends, fun q => (k.header q).trans (h.header q)⟩

/-- An operation that leaves records, peer records, counters and the last sender alone. -/
theorem State.Attends.frame (h : s.Attends t) (tends : s.Tends u) (hrec : u.records = t.records) (hp : u.peers = t.peers)
    (hctl : u.ctl = t.ctl) (hsweep : u.sweep = t.sweep) (hhw : ∀ q ∈ u.hw.probes, q ∈ t.hw.probes)
    (hsender : u.line.lastSender = t.line.lastSender) : s.Attends u where
  toUndue := h.toUndue.trans
    ⟨⟨.inl hctl, .inl (by rw [hsweep]), fun q hq => .inl (hhw q hq), hsender⟩, fun x hx due => ⟨x, hrec ▸ hx, due⟩,
      fun x hx due => ⟨x, hrec ▸ hx, due⟩, fun q due => State.peer_congr hp q ▸ due⟩
  tends := tends
  header := fun q => by rw [State.peer_congr hp]; exact h.header q

theorem State.Attends.ite {c : Prop} [Decidable c] (h : s.Attends t) (k : s.Attends u) : s.Attends (if c then t else u) := by
  split <;> assumption

theorem State.Attends.raise (h : s.Attends t) {e : EventFlag} : s.Attends (t.raise e) :=
  h.frame h.tends.raise rfl rfl rfl rfl (fun _ hq => hq) rfl

theorem State.Attends.raiseIf (h : s.Attends t) {c : Bool} {e : EventFlag} : s.Attends (t.raiseIf c e) := h.raise.ite h

theorem State.Attends.post (h : s.Attends t) {k : NoticeKind} : s.Attends (t.post k r) :=
  h.frame h.tends.post (by simp) (by simp) (by simp) (by simp) (fun _ hq => by simpa using hq) (by simp)

theorem State.Attends.postIf (h : s.Attends t) {c : Bool} {k : NoticeKind} : s.Attends (t.postIf c k r) := h.post.ite h

theorem State.Attends.cancelProbe (h : s.Attends t) : s.Attends (t.cancelProbe r) := by
  refine h.frame h.tends.cancelProbe (by simp) (by simp) (by simp) (by simp) (fun q hq => ?_) (by simp)
  unfold State.cancelProbe at hq
  split at hq
  · exact List.mem_of_mem_filter hq
  · exact hq

/-- A change of records from which nothing falls due. -/
theorem State.Attends.mapRec (h : s.Attends t) {g : Nat} {f : Circuit → Circuit} (tends : s.Tends (t.mapRec g f))
    (hf : ∀ r, (f r).resends = r.resends ∧ (f r).echoDue = r.echoDue) : s.Attends (t.mapRec g f) := by
  have was (y : Circuit) : (if y.place = g then f y else y).resends = y.resends ∧
      (if y.place = g then f y else y).echoDue = y.echoDue := by
    split
    · exact hf y
    · exact ⟨rfl, rfl⟩
  refine ⟨h.toUndue.trans ⟨.of_eq rfl rfl rfl rfl, fun x hx due => ?_, fun x hx due => ?_, fun _ due => due⟩, tends,
    h.header⟩
  · obtain ⟨y, hy, rfl⟩ := List.mem_map.mp hx
    exact ⟨y, hy, (was y).1 ▸ due⟩
  · obtain ⟨y, hy, rfl⟩ := List.mem_map.mp hx
    exact ⟨y, hy, (was y).2 ▸ due⟩

/-- What holds of no record that enters the state held of the record before, if the clash mark is no part of it. -/
theorem State.of_mem_enter {g : Nat} {new : Relink} {due : Bool} {k : Circuit → Bool}
    (hk : ∀ (y : Circuit) (a b : Bool), k { y with clashMark := a, clashPending := b } = k y)
    (hnew : ∀ y : Circuit, k (y.enter new due 0) = false) :
    ∀ x ∈ (s.enter g new due 0).records, k x = true → ∃ y ∈ s.records, k y = true := by
  intro x hx on
  have hx : k x ∈ (s.enter g new due 0).records.map k := List.mem_map_of_mem hx
  rw [State.enter_map k hk] at hx
  obtain ⟨y, hy, e⟩ := List.mem_map.mp hx
  split at e
  · rw [hnew, on] at e
    cases e
  · exact ⟨y, hy, e.trans on⟩

theorem Circuit.echoDue_enter {new : Relink} (hnew : ∀ n, new ≠ .opened n) (due : Bool) (sends : Nat) (y : Circuit) :
    (y.enter new due sends).echoDue = false := by
  cases new with
  | opened n => exact absurd rfl (hnew n)
  | parked | offered | confirmed | probing | deferred | refused | clashed => rfl

/-- A record that enters a state other than OPEN is due neither a resend nor an echo (R24). -/
theorem State.Attends.enter (h : s.Attends t) {g : Nat} {new : Relink} {due : Bool} (hnew : ∀ n, new ≠ .opened n) :
    s.Attends (t.enter g new due 0) := by
  have peers : (t.enter g new due 0).peers = t.peers := by simp
  refine ⟨h.toUndue.trans ⟨.of_eq (by simp) (by simp) (by simp) (by simp), ?_, ?_, fun q due => State.peer_congr peers q ▸ due⟩,
    h.tends.enter (Nat.zero_le 4), fun q => ?_⟩
  · exact State.of_mem_enter (k := Circuit.resends) (fun _ _ _ => rfl) fun _ => rfl
  · exact State.of_mem_enter (k := Circuit.echoDue) (fun _ _ _ => rfl) (Circuit.echoDue_enter hnew due 0)
  · rw [State.peer_congr peers]
    exact h.header q

theorem State.Attends.moveTo (h : s.Attends t) {new : Relink} {due : Bool} (hnew : ∀ n, new ≠ .opened n) :
    s.Attends (t.moveTo r new due 0) := h.cancelProbe.enter hnew

theorem State.Attends.updPeer (h : s.Attends t) {f : Peer → Peer} (hf : ∀ x, (f x).due = true → x.due = true)
    (hh : ∀ x, (f x).header = x.header) : s.Attends (t.updPeer p f) := by
  refine ⟨h.toUndue.updPeer hf, h.tends.updPeer, fun q => ?_⟩
  rw [State.peer_updPeer]
  split
  · obtain ⟨rfl, _⟩ := ‹_ ∧ _›
    exact (hh _).trans (h.header q)
  · exact h.header q

theorem State.Attends.request (h : s.Attends t) {req : Request} : s.Attends (t.request req) := by
  refine ⟨h.toUndue.request, h.tends.request, fun q => ?_⟩
  obtain ⟨w, hw⟩ := t.peer_request req q
  rw [hw]
  exact h.header q

theorem State.Attends.appendVerdict (h : s.Attends t) {v : Verdict} : s.Attends (t.appendVerdict p v) :=
  (h.updPeer (f := fun x => { x with verdicts := x.verdicts ++ [v] }) (fun _ due => due) fun _ => rfl).request

/-! ### The rows' operations, each of which has the end of RELINK judged -/

/-- What was heard before is heard again: RELINK has not come to its end unjudged either. -/
structure State.Heeds (s t : State) : Prop extends State.Attends s t where
  undone : s.relinkDone = false → t.relinkDone = false

theorem State.Heeds.refl (s : State) : s.Heeds s := ⟨.refl s, id⟩

theorem State.Heeds.trans (h : s.Heeds t) (k : t.Heeds u) : s.Heeds u :=
  ⟨h.toAttends.trans k.toAttends, k.undone ∘ h.undone⟩

theorem State.Heeds.each {α : Type} {g : α → State → State} (hg : ∀ x (u : State), u.tableOk → u.Heeds (g x u))
    (ok : s.tableOk) (xs : List α) : s.Heeds (s.each xs g) := by
  induction xs generalizing s with
  | nil => exact .refl s
  | cons x xs ih =>
    have first := hg x s ok
    exact first.trans (ih (first.tends.tableOk ok))

/-- What follows a change of a record ends with the judgement (R94, R156). -/
theorem State.Attends.settleChange (h : s.Attends t) (ok : s.tableOk) {cause : Bool} : s.Heeds (t.settleChange cause) where
  toUndue := h.toUndue.trans (State.Turns.undue (hit := fun _ => False)
    ((State.turns_settleChange (h.tends.tableOk ok).places cause).mono fun _ _ _ stays => ⟨False.elim, fun _ => stays⟩))
  tends := h.tends.settleChange
  header := fun q => by
    rw [State.peer_congr (State.settleChange_peers _ _)]
    exact h.header q
  undone := fun _ => by rcases t.settleChange_cases cause with e | e <;> rw [e] <;> exact State.relinkDone_judgeEnd _

/-- An operation on marks and lists that no part of the end of RELINK reads. -/
theorem State.Attends.heeds (h : s.Attends t) (hctl : t.ctl = s.ctl)
    (hpeers : ∀ q, (t.peer q).outstanding = (s.peer q).outstanding)
    (hrec : t.records.map (·.state) = s.records.map (·.state)) : s.Heeds t where
  toAttends := h
  undone := fun hdone => State.relinkDone_mono hdone hctl (fun q => (hpeers q).symm ▸ id) fun r hr => by
    have hmem : r.state ∈ t.records.map (·.state) := hrec ▸ List.mem_map_of_mem hr
    simpa using hmem

theorem State.outstanding_appendVerdict (v : Verdict) (s : State) :
    ((s.appendVerdict p v).peer q).outstanding = (s.peer q).outstanding := by
  obtain ⟨w, hw⟩ := State.peer_request (.answer p) q (s.updPeer p fun x => { x with verdicts := x.verdicts ++ [v] })
  rw [State.appendVerdict, hw, State.peer_updPeer]
  split
  · obtain ⟨rfl, _⟩ := ‹_ ∧ _›
    rfl
  · rfl

theorem State.heeds_appendVerdict (p : Nat) (v : Verdict) (s : State) : s.Heeds (s.appendVerdict p v) :=
  (State.Attends.refl s).appendVerdict.heeds (by simp [State.appendVerdict]) (fun _ => s.outstanding_appendVerdict v)
    (by simp [State.appendVerdict])

/-- A scope mark taken off a record. -/
theorem State.heeds_unscope (g : Nat) (s : State) : s.Heeds (s.mapRec g fun x => { x with scopeMark := false }) := by
  refine State.Attends.heeds ((State.Attends.refl s).mapRec (State.Tends.refl s).clearScopeMark fun _ => ⟨rfl, rfl⟩) rfl
    (fun _ => rfl) ?_
  simp only [State.mapRec_records, List.map_map]
  refine List.map_congr_left fun y _ => ?_
  simp only [Function.comp]
  split <;> rfl

/-- A roll's count is written with the sweeps since its last claim at 0 (R76, R77). -/
theorem State.heeds_setChannel {c : Channel} (hc : c = .idle ∨ ∃ d n, c = .receiving d n 0) (p : Nat) (s : State) :
    s.Heeds (s.updPeer p fun x => { x with channel := c }) := by
  have fresh (x : Peer) : ({ x with channel := c } : Peer).abandonDue = false := by
    rcases hc with rfl | ⟨d, n, rfl⟩ <;> rfl
  refine State.Attends.heeds ((State.Attends.refl s).updPeer (fun x due => ?_) fun _ => rfl) rfl (fun q => ?_) rfl
  · rw [Peer.due, fresh, Bool.or_false] at due
    exact Bool.or_eq_true_iff.mpr (.inl due)
  · rw [State.peer_updPeer]
    split
    · obtain ⟨rfl, _⟩ := ‹_ ∧ _›
      rfl
    · rfl

theorem State.Attends.refuse (h : s.Attends t) {c : Cause} : s.Attends (t.refuse c r) :=
  (h.raise.moveTo fun _ => by simp).post

/-- An agreement leaves the state, or takes the record to CONFIRMED (R30, R33). -/
theorem Circuit.agreed_cases (u : InUse) (r : Circuit) : r.agreed u = r.state ∨ r.agreed u = .confirmed := by
  cases h : r.state with
  | probing k => by_cases e : u = r.inUse <;> simp [Circuit.agreed, h, e]
  | opened n => by_cases e : u = r.inUse <;> simp [Circuit.agreed, h, e]
  | parked | offered | confirmed | deferred | refused _ | clashed => simp [Circuit.agreed, h]

theorem State.Attends.agree (h : s.Attends t) (hr : r ∈ s.records) {lane : InUse}
    (hl : r.inRange → lane = .standby → r.standby.isSome) : s.Attends (t.agree lane r) := by
  have moved : s.Attends (t.mapRec r.place fun x => { x with inUse := lane }) :=
    h.mapRec (h.tends.setLane hr hl) fun _ => ⟨rfl, rfl⟩
  unfold State.agree
  dsimp only
  split
  · exact moved.postIf
  · rcases r.agreed_cases lane with e | e
    · exact absurd e ‹_›
    · rw [e]
      exact (moved.moveTo fun _ => by simp).postIf

/-! ### One claim (R77, R81) -/

theorem State.heeds_orphanPlace (ok : s.tableOk) (g : Nat) : s.Heeds (s.orphanPlace g) := by
  unfold State.orphanPlace
  split
  · exact .refl s
  · split
    · have cleared := s.heeds_unscope g
      refine cleared.trans ?_
      dsimp only
      split
      · exact ((State.Attends.refl _).moveTo fun _ => by simp).post.settleChange (cleared.tends.tableOk ok)
      · exact .refl _
    · exact .refl s

theorem State.heeds_raiseIf (c : Bool) (e : EventFlag) (s : State) : s.Heeds (s.raiseIf c e) :=
  (State.Attends.refl s).raiseIf.heeds (by simp)
    (fun q => congrArg Peer.outstanding (State.peer_congr (by simp) q)) (by simp)

theorem State.heeds_completeRoll (ok : s.tableOk) (p : Nat) : s.Heeds (s.completeRoll p) := by
  have idle := (s.heeds_setChannel (.inl rfl) p).trans (State.heeds_raiseIf
    ((s.towards p).any (fun r => r.scopeMark && r.refusable .orphan)) .refusal _)
  exact idle.trans (.each (fun g u ok => State.heeds_orphanPlace ok g) (idle.tends.tableOk ok) _)

theorem State.heeds_countClaim (ok : s.tableOk) (p : Nat) : s.Heeds (s.countClaim p) := by
  unfold State.countClaim
  split
  · exact .refl s
  · rename_i d n _ _
    have counted := s.heeds_setChannel (.inr ⟨d, n + 1, rfl⟩) p
    dsimp only
    split
    · exact counted.trans (State.heeds_completeRoll (counted.tends.tableOk ok) p)
    · exact counted

theorem State.heeds_answerClaim (ok : s.tableOk) (p : Nat) (c : Claim) : s.Heeds (s.answerClaim p c) := by
  unfold State.answerClaim
  split
  · exact s.heeds_appendVerdict p _
  rename_i r found
  obtain ⟨hr, _⟩ := State.mem_of_findTag found
  split
  · exact s.heeds_appendVerdict p _
  have cleared := s.heeds_unscope r.place
  have ok' := cleared.tends.tableOk ok
  dsimp only
  split
  · unfold State.claimMismatched
    split
    · exact cleared.trans ((State.Attends.refl _).refuse.appendVerdict.settleChange ok')
    · exact cleared.trans (State.heeds_appendVerdict p _ _)
  · unfold State.claimMatched
    split
    · exact cleared.trans (State.heeds_appendVerdict p _ _)
    · have agreed := cleared.toAttends.agree hr (lane := converge c r) fun hrange => converge_standby hrange
      exact agreed.appendVerdict.settleChange ok

theorem State.heeds_takeClaim (ok : s.tableOk) (p : Nat) (roll : Bool) (c : Claim) : s.Heeds (s.takeClaim p roll c) := by
  unfold State.takeClaim
  split
  · exact s.heeds_appendVerdict p _
  have answered := State.heeds_answerClaim ok p c
  split
  · exact answered.trans (State.heeds_countClaim (answered.tends.tableOk ok) p)
  · exact answered

/-! ### One verdict (R85) -/

theorem State.heeds_verdictRefuse (ok : s.tableOk) (c : Cause) (r : Circuit) : s.Heeds (s.verdictRefuse c r) := by
  unfold State.verdictRefuse
  split
  · exact (State.Attends.refl s).refuse.settleChange ok
  · exact .refl s

theorem State.heeds_takeVerdict (ok : s.tableOk) (p : Nat) (v : Verdict) : s.Heeds (s.takeVerdict p v) := by
  have here := State.Attends.refl s
  unfold State.takeVerdict
  split
  · exact State.Attends.heeds (State.Attends.frame here (State.Tends.frame here.tends rfl rfl) rfl rfl rfl rfl
      (fun _ hq => hq) rfl) rfl (fun _ => rfl) rfl
  rename_i r found
  have hr := State.mem_of_findTowards found
  split
  · unfold State.verdictAccept
    split
    · exact State.heeds_verdictRefuse ok _ r
    · rename_i u named
      split
      · exact .refl s
      · exact (here.agree hr fun _ e => Circuit.laneNamed_standby (e ▸ named)).settleChange ok
  · exact State.heeds_verdictRefuse ok _ r
  · exact State.heeds_verdictRefuse ok _ r
  · unfold State.verdictWait
    split
    · exact (here.raise.moveTo fun _ => by simp).post.settleChange ok
    · exact .refl s
  · unfold State.verdictClash
    split
    · exact .refl s
    · exact (here.raise.moveTo fun _ => by simp).post.settleChange ok

/-! ### The frame heard again -/

theorem State.lt_of_present (h : (s.peer p).presence = .present) : p < s.peers.length := by
  by_contra hp
  rw [State.peer_of_length_le (Nat.not_lt.mp hp)] at h
  cases h

theorem State.awake_of_running (h : s.running = true) : s.awake = true := by simp [State.awake, State.holding, h]

/-- The frame that was heard is heard once more. -/
theorem State.hears_refreshed (ok : s.tableOk) (h : s.hears f) (awake : s.awake = true) : (s.refreshed f).hears f := by
  obtain ⟨calm, hreset, hdone, expects⟩ := h
  obtain ⟨haddr, present, _⟩ := id expects
  have again := State.hears_heard ok calm hreset haddr awake (State.lt_of_present present)
  have eq : (s.sentBy f.src).heard f.src f.epoch f.st = s.refreshed f := State.heard_of_expects expects hdone
  rwa [eq] at again

/-- It is heard after what its claims or verdicts have done ... -/
theorem State.Heeds.hears (h : s.Heeds t) (hears : s.hears f) (hst : s.ctl.st ≠ .starting) : t.hears f := by
  obtain ⟨calm, hreset, hdone, haddr, header⟩ := hears
  have addr : t.addressable f.src = s.addressable f.src :=
    h.ctl_congr (fun c => decide (f.src < c.size) && f.src != c.slot) fun _ _ => rfl
  have same := h.header f.src
  simp only [Peer.header, Prod.mk.injEq] at same
  obtain ⟨presence, _, epoch, st⟩ := same
  exact ⟨h.toUndue.calm calm hst, (h.ctl_congr Station.resetHeld fun _ _ => rfl).trans hreset, h.undone hdone,
    addr.trans haddr, by rwa [presence, epoch, st]⟩

theorem State.peer_refreshed_src (present : (s.peer f.src).presence = .present) :
    (s.refreshed f).peer f.src = { s.peer f.src with sinceHeard := 0 } := by
  simp [State.refreshed, State.peer, List.getD_eq_getElem?_getD, State.lt_of_present present]

/-- ... and its hearing then changes nothing. -/
theorem State.Heeds.refreshed (h : (s.refreshed f).Heeds t) (present : (s.peer f.src).presence = .present) :
    t.refreshed f = t := by
  have heard : ((s.refreshed f).peer f.src).sinceHeard = 0 := by rw [State.peer_refreshed_src present]
  have same := h.header f.src
  simp only [Peer.header, Prod.mk.injEq, heard] at same
  obtain ⟨_, since, _⟩ := same
  have peers : t.peers.set f.src { t.peer f.src with sinceHeard := 0 } = t.peers := by
    rw [← since]
    by_cases hq : f.src < t.peers.length
    · exact (State.peer_eq_getElem hq).symm ▸ List.set_getElem_self ..
    · exact List.set_eq_of_length_le (not_lt.mp hq)
  have sender : f.src = t.line.lastSender := h.sender.symm
  rw [State.refreshed, peers]
  conv_lhs => rw [sender]

end Sys2Proof.Machine
end

section
/-! PROOF. What one cause makes of one record while every other stays, but for an opening that takes it (R25, R94). -/

namespace Sys2Proof.Machine

variable {s t u : State} {r x y z z' w : Circuit} {p : Nat}

/-! ### The relation -/

/-- `z` in the place of `r`. -/
def Circuit.put (r z y : Circuit) : Circuit := if y.place = r.place then z else y

/-- In the place of `r` stands `z`, which an opening may have taken since; so may it have any other record. -/
def Circuit.Becomes (r z y x : Circuit) : Prop := (r.put z y).Stays x

theorem Circuit.put_self (r z : Circuit) : r.put z r = z := if_pos rfl

theorem Circuit.put_of_ne (h : y.place ≠ r.place) : r.put z y = y := if_neg h

theorem Circuit.Becomes.self (h : r.Becomes z r x) : z.Stays x := by rwa [Circuit.Becomes, Circuit.put_self] at h

theorem Circuit.Becomes.other (h : r.Becomes z y x) (hne : y.place ≠ r.place) : y.Stays x := by
  rwa [Circuit.Becomes, Circuit.put_of_ne hne] at h

theorem Circuit.Becomes.of_put (hz : z.place = r.place) (k : z.Becomes z' (r.put z y) w) : r.Becomes z' y w := by
  by_cases e : y.place = r.place
  · rw [Circuit.put, if_pos e] at k
    rw [Circuit.Becomes, Circuit.put, if_pos e]
    exact k.self
  · rw [Circuit.put_of_ne e] at k
    rw [Circuit.Becomes, Circuit.put_of_ne e]
    exact k.other (hz ▸ e)

/-- A cause that takes the record as the table holds it after a change of fields. -/
theorem State.Turns.becomes_put (h : s.Turns (fun y x => x = r.put z y) t) (hz : z.place = r.place)
    (k : t.Turns (z.Becomes z') u) : s.Turns (r.Becomes z') u :=
  h.trans k fun _ _ _ e k => .of_put hz (e ▸ k)

/-- Neither the attempt nor the judgement posts a notice. -/
theorem State.settleChange_notices (cause : Bool) (s : State) : (s.settleChange cause).notices = s.notices := by simp

/-- The opening that may follow (R94). -/
theorem State.Turns.becomes_stays (h : s.Turns (r.Becomes z) t) (k : t.Turns Circuit.Stays u) : s.Turns (r.Becomes z) u :=
  h.trans k fun _ _ _ => .trans

theorem State.Turns.stays_becomes (h : s.Turns Circuit.Stays t) (hrec : t.records = s.records) (k : t.Turns (r.Becomes z) u) :
    s.Turns (r.Becomes z) u where
  toQuiet := h.toQuiet.trans k.toQuiet
  records := hrec ▸ k.records
  peers := k.peers.trans h.peers
  store := k.store.trans h.store
  queued := fun req hq => k.queued req (h.queued req hq)
  posted := fun req hq => (k.posted req hq).elim (h.posted req) .inr
  flags := fun f hf => k.flags f (h.flags f hf)

/-! ### One rule per operation -/

theorem State.places_mapRec {g : Nat} {f : Circuit → Circuit} (hf : ∀ y, (f y).place = y.place)
    (places : (s.records.map (·.place)).Nodup) : ((s.mapRec g f).records.map (·.place)).Nodup := by
  have same : (s.mapRec g f).records.map (·.place) = s.records.map (·.place) := by
    rw [State.mapRec_records, List.map_map]
    refine List.map_congr_left fun y _ => ?_
    simp only [Function.comp]
    split
    · exact hf y
    · rfl
  rwa [same]

theorem State.turns_put {f : Circuit → Circuit} (places : (s.records.map (·.place)).Nodup) (hr : r ∈ s.records) :
    s.Turns (fun y x => x = r.put (f r) y) (s.mapRec r.place f) where
  toQuiet := .of_eq rfl rfl rfl rfl
  records := ⟨_, rfl, fun y hy => by
    by_cases e : y.place = r.place
    · rw [List.inj_on_of_nodup_map places hy hr e, Circuit.put_self, if_pos rfl]
    · rw [Circuit.put_of_ne e, if_neg e]⟩
  peers := rfl
  store := rfl
  queued := fun _ h => h
  posted := fun _ h => .inl h
  flags := fun _ h => h

theorem State.becomes_moveTo (places : (s.records.map (·.place)).Nodup) (hr : r ∈ s.records) {new : Relink}
    (hne : new ≠ .clashed) (due : Bool) (sends : Nat) : s.Turns (r.Becomes (r.enter new due sends)) (s.moveTo r new due sends) :=
  (State.turns_moveTo hne r due sends s).mono fun y hy x e => by
    by_cases hp : y.place = r.place
    · obtain rfl := List.inj_on_of_nodup_map places hy hr hp
      rw [Circuit.Becomes, Circuit.put_self, e, if_pos rfl]
      exact .refl _
    · rw [Circuit.Becomes, Circuit.put_of_ne hp, e, if_neg hp]
      exact .refl _

/-- What one cause comes to that raises its flag, takes the record to another state and posts its notice (R24, R26). -/
def State.takes (e : EventFlag) (r : Circuit) (new : Relink) (k : NoticeKind) (s : State) : State :=
  ((s.raise e).moveTo r new false 0).post k r

theorem State.refuse_eq (c : Cause) (r : Circuit) (s : State) :
    s.refuse c r = s.takes .refusal r (.refused c) (.refused c) := rfl

theorem State.clash_eq (r : Circuit) (s : State) : s.clash r = s.takes .clash r .clashed .clashed := rfl

theorem State.becomes_takes (places : (s.records.map (·.place)).Nodup) (hr : r ∈ s.records) {new : Relink}
    (hne : new ≠ .clashed) (e : EventFlag) (k : NoticeKind) : s.Turns (r.Becomes (r.enter new false 0)) (s.takes e r new k) :=
  (s.turns_raise e).stays_becomes rfl
    ((State.becomes_moveTo (s := s.raise e) places hr hne false 0).becomes_stays (State.turns_post k r _))

theorem State.takes_flag (e : EventFlag) (r : Circuit) (new : Relink) (k : NoticeKind) (s : State) :
    (s.takes e r new k).events.has e = true := by
  have same : ((s.raise e).moveTo r new false 0).events = (s.raise e).events := by simp
  refine State.has_post ?_
  rw [same]
  exact EventUnit.has_raise_self _ _

theorem State.takes_notices (room : s.notices.length < 32) (e : EventFlag) (r : Circuit) (new : Relink) (k : NoticeKind) :
    (s.takes e r new k).notices = s.notices ++ [{ tag := r.tag, kind := k, cls := r.cls }] := by
  have same : ((s.raise e).moveTo r new false 0).notices = s.notices := by simp
  rw [State.takes, State.post_notices (by rwa [same]), same]

/-! ### Agreement (R30, R33) -/

/-- The record that an agreement on a lane leaves. -/
def Circuit.onLane (u : InUse) (r : Circuit) : Circuit :=
  if r.agreed u = r.state then { r with inUse := u } else ({ r with inUse := u } : Circuit).enter .confirmed false 0

/-- Only a PROBING or OPEN record whose lane stays the same stays where it is. -/
theorem Circuit.agreed_eq (hr : r.state ≠ .clashed) (u : InUse) : r.agreed u =
    if u = r.inUse ∧ (r.state.isProbing = true ∨ r.state.isOpen = true) then r.state else .confirmed := by
  cases h : r.state with
  | clashed => exact absurd h hr
  | probing k | opened n => by_cases e : u = r.inUse <;> simp [Circuit.agreed, h, e, Relink.isProbing, Relink.isOpen, relinkByte]
  | parked | offered | confirmed | deferred | refused _ =>
    simp [Circuit.agreed, h, Relink.isProbing, Relink.isOpen, relinkByte]

theorem Circuit.onLane_fields (u : InUse) (r : Circuit) : (r.onLane u).retained = r.retained ∧ (r.onLane u).inUse = u ∧
    (r.onLane u).scopeMark = r.scopeMark ∧ (r.onLane u).state = r.agreed u := by
  unfold Circuit.onLane
  split
  · exact ⟨rfl, rfl, rfl, Eq.symm ‹_›⟩
  · have confirmed := (r.agreed_cases u).resolve_left ‹_›
    exact ⟨rfl, rfl, by simp [Circuit.enter], confirmed.symm⟩

theorem State.becomes_agree (places : (s.records.map (·.place)).Nodup) (hr : r ∈ s.records) (u : InUse) :
    s.Turns (r.Becomes (r.onLane u)) (s.agree u r) := by
  have laned := State.turns_put (f := fun x => { x with inUse := u }) places hr
  have posted (t : State) : t.Turns Circuit.Stays (t.postIf (u != r.inUse) .laneMoved r) := by
    unfold State.postIf
    split
    · exact State.turns_post _ _ _
    · exact .refl t
  unfold State.agree Circuit.onLane
  dsimp only
  split
  case isTrue =>
    exact (laned.mono fun y _ x e => e ▸ Circuit.Stays.refl (r.put { r with inUse := u } y)).becomes_stays (posted _)
  case isFalse moved =>
    rw [(r.agreed_cases u).resolve_left moved]
    have places' := State.places_mapRec (g := r.place) (f := fun x => { x with inUse := u }) (fun _ => rfl) places
    exact (laned.becomes_put rfl (State.becomes_moveTo (r := { r with inUse := u }) places' (State.mem_mapRec _ hr) (by simp)
      false 0)).becomes_stays (posted _)

theorem State.agree_notices (u : InUse) (r : Circuit) (s : State) : (u = r.inUse → (s.agree u r).notices = s.notices) ∧
    (u ≠ r.inUse → s.notices.length < 32 →
      (s.agree u r).notices = s.notices ++ [{ tag := r.tag, kind := .laneMoved, cls := r.cls }]) := by
  unfold State.agree
  dsimp only
  generalize hv : (if r.agreed u = r.state then s.mapRec r.place fun x => { x with inUse := u }
    else (s.mapRec r.place fun x => { x with inUse := u }).moveTo r (r.agreed u) false 0) = v
  have same : v.notices = s.notices := by
    rw [← hv]
    split <;> simp
  refine ⟨fun e => ?_, fun hne room => ?_⟩
  · simpa [State.postIf, e] using same
  · rw [State.postIf, if_pos (by simpa using hne), State.post_notices (by rwa [same]), same]

/-- After an agreement of a record that is not CLASHED, and the attempt (R30, R33). -/
theorem Circuit.stays_onLane {u : InUse} (hr : r.state ≠ .clashed) (h : (r.onLane u).Stays x) : x.inUse = u ∧
    if u = r.inUse ∧ (r.state.isProbing = true ∨ r.state.isOpen = true) then x.state = r.state
    else x.state = .confirmed ∨ x.state.isProbing = true := by
  obtain ⟨_, lane, _, state⟩ := r.onLane_fields u
  obtain ⟨_, lane', _⟩ := Circuit.kept_iff.mp h.kept_eq
  refine ⟨lane'.trans lane, ?_⟩
  rw [Circuit.agreed_eq hr] at state
  split
  case isTrue here =>
    rw [if_pos here] at state
    rw [h.eq fun e => ?_, state]
    rw [state] at e
    obtain ⟨_, p | o⟩ := here
    · rw [e] at p; cases p
    · rw [e] at o; cases o
  case isFalse away =>
    rw [if_neg away] at state
    rcases h with rfl | ⟨_, probing, _⟩
    · exact .inl state
    · exact .inr probing

end Sys2Proof.Machine
end

section
/-! PROOF. The verdicts of an ANSWER (O48). -/

namespace Sys2Proof.Machine

variable {s t u : State} {r x y z : Circuit} {p : Nat} {f : LineFrame} {v : Verdict} {c : Cause} {lane : InUse}

/-! ### What a verdict finds (R85, R86) -/

theorem State.findTowards_of_mem {tag : Nat} (ok : s.tableOk) (hr : r ∈ s.records) (htag : r.tag = tag)
    (hfar : r.farSlot = p) : s.findTowards tag p = some r := by
  rw [State.findTowards, ← htag, State.findTag_eq_some ok hr]
  exact if_pos hfar

theorem State.findTowards_of_missing {tag : Nat} (missing : ∀ r ∈ s.records, r.tag = tag → r.farSlot ≠ p) :
    s.findTowards tag p = none := by
  unfold State.findTowards
  split
  · rename_i r found
    obtain ⟨hr, htag⟩ := State.mem_of_findTag found
    exact if_neg (missing r hr htag)
  · rfl

/-- A verdict acts by its kind on the record that it finds towards its source. -/
def State.judged (r : Circuit) (k : VerdictKind) (s : State) : State :=
  match k with
  | .accept lane => s.verdictAccept lane r
  | .unknown => s.verdictRefuse .unknown r
  | .mismatch => s.verdictRefuse .mismatch r
  | .wait => s.verdictWait r
  | .clash => s.verdictClash r

theorem State.takeVerdict_of_mem (ok : s.tableOk) (hr : r ∈ s.records) (htag : r.tag = v.tag) (hfar : r.farSlot = p) :
    s.takeVerdict p v = s.judged r v.kind := by
  rw [State.takeVerdict, State.findTowards_of_mem ok hr htag hfar]
  rfl

/-- A verdict that finds none is counted as stale. -/
theorem State.takeVerdict_stale (stale : ∀ r ∈ s.records, r.tag = v.tag → r.farSlot ≠ p) :
    s.takeVerdict p v = { s with line := { s.line with stale := satSucc 255 s.line.stale } } := by
  rw [State.takeVerdict, State.findTowards_of_missing stale]

/-! ### What it does (R32 to R35) -/

theorem State.verdictRefuse_of_not (h : r.refusable c = false) : s.verdictRefuse c r = s := by simp [State.verdictRefuse, h]

theorem Circuit.refusable_iff : r.refusable c = true ↔ r.state ≠ .clashed ∧ r.state ≠ .refused c := by
  simp [Circuit.refusable]

theorem State.verdictAccept_of_none {l : Nat} (h : r.laneNamed l = none) :
    s.verdictAccept l r = s.verdictRefuse .mismatch r := by
  rw [State.verdictAccept, h]

theorem State.verdictAccept_of_some {l : Nat} (h : r.laneNamed l = some lane) (hr : r.state ≠ .clashed) :
    s.verdictAccept l r = (s.agree lane r).settleChange (attemptCause r.state (r.agreed lane)) := by
  rw [State.verdictAccept, h]
  exact if_neg hr

/-- A CLASHED record stays as it is, whatever the verdict. -/
theorem State.judged_clashed (hr : r.state = .clashed) (k : VerdictKind) : s.judged r k = s := by
  have refused (c : Cause) : s.verdictRefuse c r = s := State.verdictRefuse_of_not (by simp [Circuit.refusable, hr])
  cases k with
  | accept l =>
    simp only [State.judged, State.verdictAccept]
    split
    · exact refused .mismatch
    · exact if_pos hr
  | unknown => exact refused .unknown
  | mismatch => exact refused .mismatch
  | wait => simp [State.judged, State.verdictWait, hr, Relink.unsettled]
  | clash => exact if_pos hr

/-- One cause takes the record to another state, and the attempt and the judgement follow (R24, R26, R94). -/
theorem State.takes_settled (ok : s.tableOk) (hr : r ∈ s.records) {new : Relink} (hne : new ≠ .clashed)
    (hnc : new ≠ .confirmed) (e : EventFlag) (k : NoticeKind) (cause : Bool) :
    let t := (s.takes e r new k).settleChange cause
    (∃ y ∈ t.records, y.retained = r.retained ∧ y.state = new) ∧ t.events.has e = true ∧
      (s.notices.length < 32 → t.notices = s.notices ++ [{ tag := r.tag, kind := k, cls := r.cls }]) := by
  obtain ⟨x, hx, became⟩ := (State.becomes_takes ok.places hr hne e k).of_mem hr
  obtain rfl := became.self.eq hnc
  have ok' : (s.takes e r new k).tableOk := ((State.Tends.refl s).raise.moveTo (Nat.zero_le 4)).post.tableOk ok
  refine ⟨⟨_, State.mem_settleChange ok'.places hx hnc cause, rfl, rfl⟩, State.has_settleChange (State.takes_flag ..),
    fun room => ?_⟩
  rw [State.settleChange_notices, State.takes_notices room]

/-- A verdict that puts the record on a lane (R33). -/
theorem State.agree_settled (ok : s.tableOk) (hr : r ∈ s.records) (hc : r.state ≠ .clashed)
    (hl : r.inRange → lane = .standby → r.standby.isSome) (cause : Bool) :
    let t := (s.agree lane r).settleChange cause
    (∃ y ∈ t.records, y.retained = r.retained ∧ y.inUse = lane ∧
      if lane = r.inUse ∧ (r.state.isProbing = true ∨ r.state.isOpen = true) then y.state = r.state
      else y.state = .confirmed ∨ y.state.isProbing = true) ∧
    (lane ≠ r.inUse → s.notices.length < 32 →
      t.notices = s.notices ++ [{ tag := r.tag, kind := .laneMoved, cls := r.cls }]) ∧
    (lane = r.inUse → t.notices = s.notices) := by
  have ok' : (s.agree lane r).tableOk := ((State.Tends.refl s).agree hr hl).tableOk ok
  have became := (State.becomes_agree ok.places hr lane).becomes_stays (State.turns_settleChange ok'.places cause)
  obtain ⟨y, hy, becomes⟩ := became.of_mem hr
  obtain ⟨retained, _⟩ := Circuit.kept_iff.mp becomes.self.kept_eq
  obtain ⟨same, moved⟩ := s.agree_notices lane r
  have notices := State.settleChange_notices cause (s.agree lane r)
  exact ⟨⟨y, hy, retained.trans (r.onLane_fields lane).1, Circuit.stays_onLane hc becomes.self⟩,
    fun hne room => notices.trans (moved hne room), fun e => notices.trans (same e)⟩

/-- A CLASH verdict acted on in RELINK or SERVICE, where the clash mark is a table edit at once (R15, R35). -/
theorem State.clash_settled (ok : s.tableOk) (hr : r ∈ s.records) (hst : s.ctl.st ≠ .quiesce) (cause : Bool) :
    let t := (s.clash r).settleChange cause
    t.sumZero = true ∧
    (∃ y ∈ t.records, y.retained = (r.place, r.toFixed, true) ∧ y.state = .clashed ∧ y.scopeMark = false) ∧
    t.events.has .clash = true ∧
    (s.notices.length < 32 → t.notices = s.notices ++ [{ tag := r.tag, kind := .clashed, cls := r.cls }]) := by
  have hst' : ((s.raise .clash).cancelProbe r).ctl.st ≠ .quiesce := by simpa using hst
  have hr' : r ∈ ((s.raise .clash).cancelProbe r).records := by simpa using hr
  have mem : r.clashed false ∈ (s.clash r).records := by
    have entered := State.mem_enter_clashed hr'
    rw [beq_eq_false_iff_ne.mpr hst'] at entered
    simpa [State.clash, State.moveTo] using entered
  have ok' : (s.clash r).tableOk := (State.Tends.refl s).clash.tableOk ok
  have sum : (s.clash r).sumZero = true :=
    (State.Tends.refl _).post.sum (State.enter_clashed_sumZero hst' r.place)
  refine ⟨(State.Tends.refl _).settleChange.sum sum, ⟨_, State.mem_settleChange ok'.places mem ?_ cause, ?_, rfl, ?_⟩,
    State.has_settleChange (State.takes_flag ..), fun room => ?_⟩
  · simp [Circuit.clashed, Circuit.enter]
  · simp [Circuit.retained, Circuit.clashed, Circuit.enter]
  · simp [Circuit.clashed, Circuit.enter]
  · rw [State.settleChange_notices, State.clash_eq, State.takes_notices room]

/-! ### Several verdicts -/

theorem State.ne_starting_of_running (h : s.running = true) : s.ctl.st ≠ .starting := by
  rcases s.running_iff.mp h with e | e <;> simp [e]

/-- An ANSWER of several verdicts, one verdict at a time. -/
theorem exec_answerReceived_cons {vs : List Verdict} (ok : s.tableOk) (h : s.hears f) (hrun : s.running = true)
    (hdst : f.dst = s.ctl.slot) (hne : f.dst ≠ 31) (some : vs ≠ []) (few : vs.length < 8) (fits : ∀ x ∈ v :: vs, x.fits)
    (first : exec (.answerReceived { f with payload := answerPayload [v] }) s = .next u) :
    exec (.answerReceived { f with payload := answerPayload (v :: vs) }) s =
      exec (.answerReceived { f with payload := answerPayload vs }) u := by
  obtain ⟨fitsV, fitsVs⟩ := List.forall_mem_cons.mp fits
  obtain ⟨_, _, _, _, present, _⟩ := id h
  have length : 1 ≤ vs.length := List.length_pos_of_ne_nil some
  have hearsAgain := State.hears_refreshed ok h (State.awake_of_running hrun)
  have heeds : (s.refreshed f).Heeds ((s.refreshed f).takeVerdict f.src v) :=
    State.heeds_takeVerdict (s := s.refreshed f) ok f.src v
  have hu : u = (s.refreshed f).takeVerdict f.src v := by
    rw [exec_answerReceived (f := { f with payload := answerPayload [v] }) h hrun hdst hne
      (readAnswer_answerPayload (by simpa using fitsV) le_rfl (by simp))] at first
    cases first
    rfl
  rw [← hu] at heeds
  have run : u.running = true := heeds.running.trans hrun
  have slot : u.ctl.slot = s.ctl.slot := heeds.ctl_congr Station.slot fun _ _ => rfl
  have hears : u.hears f := heeds.hears hearsAgain (State.ne_starting_of_running hrun)
  have again : u.refreshed f = u := heeds.refreshed present
  rw [exec_answerReceived (f := { f with payload := answerPayload (v :: vs) }) h hrun hdst hne
      (readAnswer_answerPayload fits (by simp) (by simpa using few)),
    exec_answerReceived (f := { f with payload := answerPayload vs }) hears run (slot ▸ hdst) hne
      (readAnswer_answerPayload fitsVs length few.le)]
  have same : u.refreshed { f with payload := answerPayload vs } = u := again
  rw [same, hu]
  rfl

end Sys2Proof.Machine

open Sys2Proof Sys2Proof.Machine

/-- Settles O48: one verdict by its kind, and several by what one verdict leaves of the hearing of its header. -/
theorem answerProcessed : Obligations.AnswerProcessed := by
  refine ⟨fun f v vs s u ok h hrun hdst hne some few fits first =>
    exec_answerReceived_cons ok h hrun hdst hne some few fits first, ?_⟩
  intro f v s ok h hrun hdst hne fits payload
  have read : readAnswer f.payload = some [v] := by
    rw [payload]
    exact readAnswer_answerPayload (by simpa using fits) le_rfl (by simp)
  have taken : exec (.answerReceived f) s = .next ((s.refreshed f).takeVerdict f.src v) :=
    exec_answerReceived h hrun hdst hne read
  have ok' : (s.refreshed f).tableOk := ok
  refine ⟨fun stale => taken.trans (congrArg Host.Outcome.next (State.takeVerdict_stale (s := s.refreshed f) stale)), ?_⟩
  intro r hr htag hfar named refusal unchanged noted
  have hr' : r ∈ (s.refreshed f).records := hr
  rw [State.takeVerdict_of_mem ok' hr' htag hfar] at taken
  have names (l : Nat) (kind : v.kind = .accept l) : named = r.laneNamed l := by
    simp only [named, kind]
    rfl
  have refused (c : Cause) (hc : refusal = some c) :
      (s.refreshed f).judged r v.kind = (s.refreshed f).verdictRefuse c r := by
    cases kind : v.kind with
    | accept l =>
      simp only [refusal, kind, names l kind, Option.isNone_iff_eq_none, Option.ite_none_right_eq_some] at hc
      obtain ⟨unnamed, ⟨⟩⟩ := hc
      exact State.verdictAccept_of_none unnamed
    | unknown | mismatch =>
      simp only [refusal, kind, Option.some.injEq] at hc
      rw [← hc]
      rfl
    | wait | clash => simp [refusal, kind] at hc
  have agreed (lane : InUse) (hl : named = some lane) (live : r.state ≠ .clashed) :
      (r.inRange → lane = .standby → r.standby.isSome) ∧ (s.refreshed f).judged r v.kind =
        ((s.refreshed f).agree lane r).settleChange (attemptCause r.state (r.agreed lane)) := by
    cases kind : v.kind with
    | accept l =>
      rw [names l kind] at hl
      exact ⟨fun _ e => Circuit.laneNamed_standby (e ▸ hl), State.verdictAccept_of_some hl live⟩
    | unknown | mismatch | wait | clash => simp [named, kind] at hl
  refine ⟨fun clashed => ?_, fun c hc already => ?_, fun c hc live hnew => ?_, fun lane hl live => ?_, fun kind hp ho => ?_,
    fun kind hst => ?_, fun kind live => ?_⟩
  · exact taken.trans (congrArg Host.Outcome.next (State.judged_clashed clashed v.kind))
  · rw [refused c hc, State.verdictRefuse_of_not (by simp [Circuit.refusable, already])] at taken
    exact taken
  · rw [refused c hc, State.verdictRefuse, if_pos (Circuit.refusable_iff.mpr ⟨live, hnew⟩), State.refuse_eq] at taken
    exact ⟨_, taken, State.takes_settled ok' hr' (by simp) (by simp) ..⟩
  · obtain ⟨hrange, e⟩ := agreed lane hl live
    exact ⟨_, e ▸ taken, State.agree_settled ok' hr' live hrange _⟩
  · rw [kind] at taken
    refine taken.trans (congrArg Host.Outcome.next (if_neg ?_))
    simp [Relink.unsettled, hp, ho]
  · rw [kind, State.judged, State.verdictWait, if_pos (by simpa [Relink.unsettled] using hst)] at taken
    exact ⟨_, taken, State.takes_settled ok' hr' (by simp) (by simp) ..⟩
  · rw [kind, State.judged, State.verdictClash, if_neg live] at taken
    have quiet : (s.refreshed f).ctl.st ≠ .quiesce := by
      rcases s.running_iff.mp hrun with e | e <;> simp [State.refreshed, e]
    exact ⟨_, taken, State.clash_settled ok' hr' quiet _⟩
end

section
/-! PROOF. The orphan sweep of a roll that completes (R40, R78): what becomes of the records, the notices in class order,
and REFUSAL. -/

namespace Sys2Proof.Machine

variable {s t u : State} {r x y z : Circuit} {p : Nat}

/-! ### One record -/

/-- The sweep takes the record to REFUSED (R40). -/
def Circuit.orphaned (r : Circuit) : Bool := r.scopeMark && r.refusable .orphan

/-- What the sweep leaves of a scope-marked record: refused as ORPHAN, or CLASHED as before. -/
def Circuit.Orphans (r x : Circuit) : Prop :=
  x.retained = r.retained ∧ x.scopeMark = false ∧ x.state = if r.state = .clashed then .clashed else .refused .orphan

/-- The record is swept where it is hit, and stays elsewhere. -/
def Circuit.OrphansIf (hit : Prop) (r x : Circuit) : Prop := (hit → r.Orphans x) ∧ (¬ hit → r.Stays x)

theorem Circuit.OrphansIf.congr {hit hit' : Prop} (h : r.OrphansIf hit x) (e : hit' ↔ hit) : r.OrphansIf hit' x :=
  propext e ▸ h

theorem Circuit.Orphans.ne_confirmed (h : r.Orphans x) : x.state ≠ .confirmed := by
  obtain ⟨_, _, state⟩ := h
  rw [state]
  split <;> simp

theorem Circuit.Stays.clashed_iff (h : r.Stays x) : x.state = .clashed ↔ r.state = .clashed := by
  obtain rfl | ⟨hr, hx, _⟩ := h
  · rfl
  · obtain ⟨k, hk⟩ := Relink.eq_probing hx
    simp [hr, hk]

theorem Circuit.Stays.orphaned_eq (h : r.Stays x) : x.orphaned = r.orphaned := by
  obtain rfl | ⟨hr, hx, hkept⟩ := h
  · rfl
  · obtain ⟨_, _, _, scope⟩ := Circuit.kept_iff.mp hkept
    obtain ⟨k, hk⟩ := Relink.eq_probing hx
    simp only [Circuit.orphaned, Circuit.refusable, hr, hk, scope]
    rfl

theorem Circuit.OrphansIf.retained_eq {hit : Prop} (h : r.OrphansIf hit x) : x.retained = r.retained := by
  by_cases c : hit
  · exact (h.1 c).1
  · exact (Circuit.kept_iff.mp (h.2 c).kept_eq).1

theorem Circuit.OrphansIf.trans {a b : Prop} (h : r.OrphansIf a x) (k : x.OrphansIf b y) (hab : a → ¬ b) :
    r.OrphansIf (a ∨ b) y := by
  by_cases ha : a
  · have swept := h.1 ha
    obtain rfl := (k.2 (hab ha)).eq swept.ne_confirmed
    exact ⟨fun _ => swept, fun n => absurd (.inl ha) n⟩
  · have stayed := h.2 ha
    refine ⟨fun hb => ?_, fun n => stayed.trans (k.2 fun hb => n (.inr hb))⟩
    obtain ⟨retained, scope, state⟩ := k.1 (hb.resolve_left ha)
    exact ⟨retained.trans (Circuit.kept_iff.mp stayed.kept_eq).1, scope, by simpa only [stayed.clashed_iff] using state⟩

/-! ### One place -/

theorem State.turns_orphanPlace (ok : s.tableOk) (h : Nat) :
    s.Turns (fun r x => r.OrphansIf (r.place = h ∧ r.scopeMark = true) x) (s.orphanPlace h) := by
  unfold State.orphanPlace
  split
  case h_1 none =>
    refine (State.Turns.refl s).mono fun y hy x hx => ⟨fun ⟨e, _⟩ => ?_, fun _ => hx⟩
    rw [← e, State.findPlace_eq_some ok hy] at none
    cases none
  case h_2 z found =>
    obtain ⟨hz, rfl⟩ := State.mem_of_findPlace found
    split
    case isFalse off =>
      exact (State.Turns.refl s).mono fun y hy x hx =>
        ⟨fun ⟨e, on⟩ => absurd ((ok.place_eq_iff hy hz).mp e ▸ on) off, fun _ => hx⟩
    case isTrue on =>
      have swept {w : Circuit} {t : State} (turns : s.Turns (z.Becomes w) t) (hw : z.Orphans w) :
          s.Turns (fun r x => r.OrphansIf (r.place = z.place ∧ r.scopeMark = true) x) t :=
        turns.mono fun y hy x became => ⟨fun ⟨e, _⟩ => by
          obtain rfl := (ok.place_eq_iff hy hz).mp e
          obtain rfl := became.self.eq hw.ne_confirmed
          exact hw, fun n => became.other fun e => n ⟨e, (ok.place_eq_iff hy hz).mp e ▸ on⟩⟩
      have cleared := State.turns_put (f := fun x => { x with scopeMark := false }) ok.places hz
      have ok' : (s.mapRec z.place fun x => { x with scopeMark := false }).tableOk :=
        (State.Tends.refl s).clearScopeMark.tableOk ok
      dsimp only
      split
      case isTrue refusable =>
        obtain ⟨live, _⟩ := Circuit.refusable_iff.mp refusable
        have refused := (State.becomes_moveTo ok'.places (State.mem_mapRec (fun x => { x with scopeMark := false }) hz)
          (new := .refused .orphan) (by simp) false 0).becomes_stays (State.turns_post (.refused .orphan) z _)
        have ok'' := ((State.Tends.refl (s.mapRec z.place fun x => { x with scopeMark := false })).moveTo (r := z)
          (new := .refused .orphan) (due := false) (Nat.zero_le 4)).post (k := .refused .orphan) (r := z) |>.tableOk ok'
        refine swept (cleared.becomes_put rfl (refused.becomes_stays (State.turns_settleChange ok''.places _))) ?_
        exact ⟨rfl, by simp [Circuit.enter], by simp [Circuit.enter, live]⟩
      case isFalse settled =>
        refine swept (w := { z with scopeMark := false }) (cleared.mono fun y _ x e => e ▸ Circuit.Stays.refl _) ⟨rfl, rfl, ?_⟩
        by_cases live : z.state = .clashed
        · simp [live]
        · have was : z.state = .refused .orphan := by
            by_contra hne
            exact settled (Circuit.refusable_iff.mpr ⟨live, hne⟩)
          simp [was]

theorem State.tableOk_orphanPlace (ok : s.tableOk) (h : Nat) : (s.orphanPlace h).tableOk :=
  (State.Tends.refl s).orphanPlace.tableOk ok

/-- One notice, where the sweep takes the record and there is room (R40, R184). -/
theorem State.orphanPlace_notices (ok : s.tableOk) (hx : x ∈ s.records) (room : x.orphaned = true → s.notices.length < 32) :
    (s.orphanPlace x.place).notices = s.notices ++ noticesOf (.refused .orphan) ([x].filter Circuit.orphaned) := by
  simp only [State.orphanPlace, State.findPlace_eq_some ok hx]
  by_cases marked : x.scopeMark = true
  case neg => simp [marked, Circuit.orphaned, noticesOf]
  by_cases refusable : x.refusable .orphan = true
  case neg => simp [marked, refusable, Circuit.orphaned, noticesOf]
  have orphaned : x.orphaned = true := Bool.and_eq_true_iff.mpr ⟨marked, refusable⟩
  simp only [marked, refusable, if_true, State.settleChange_keeps]
  rw [State.post_notices (by simpa using room orphaned)]
  simp [noticesOf, orphaned]

/-- Where the sweep takes no record it says nothing. -/
theorem State.orphanPlace_silent {h : Nat} (none : ∀ r ∈ s.records, r.place = h → r.orphaned = false) :
    (s.orphanPlace h).notices = s.notices ∧ (s.orphanPlace h).events = s.events ∧
      ∀ x ∈ (s.orphanPlace h).records, ∃ r ∈ s.records, x.place = r.place ∧ (r.orphaned = false → x.orphaned = false) := by
  have same : ∀ x ∈ s.records, ∃ r ∈ s.records, x.place = r.place ∧ (r.orphaned = false → x.orphaned = false) :=
    fun x hx => ⟨x, hx, rfl, id⟩
  unfold State.orphanPlace
  split
  · exact ⟨rfl, rfl, same⟩
  rename_i z found
  obtain ⟨hz, rfl⟩ := State.mem_of_findPlace found
  split
  case isFalse => exact ⟨rfl, rfl, same⟩
  case isTrue marked =>
    have kept : z.refusable .orphan = false := by simpa [Circuit.orphaned, marked] using none z hz rfl
    rw [if_neg (by simp [kept])]
    refine ⟨rfl, rfl, fun x hx => ?_⟩
    obtain ⟨r, hr, rfl⟩ := List.mem_map.mp hx
    refine ⟨r, hr, ?_⟩
    split
    · exact ⟨rfl, fun _ => rfl⟩
    · exact ⟨rfl, id⟩

/-! ### The walk -/

theorem State.turns_orphans (ok : s.tableOk) (hs : List Nat) :
    s.Turns (fun r x => r.OrphansIf (r.place ∈ hs ∧ r.scopeMark = true) x) (s.each hs State.orphanPlace) := by
  induction hs generalizing s with
  | nil => exact (State.Turns.refl s).mono fun r _ x hx => ⟨fun ⟨h, _⟩ => absurd h List.not_mem_nil, fun _ => hx⟩
  | cons h hs ih =>
    refine (State.turns_orphanPlace ok h).trans (ih (State.tableOk_orphanPlace ok h)) fun r x y hx hy => ?_
    have apart : r.place = h ∧ r.scopeMark = true → ¬ (x.place ∈ hs ∧ x.scopeMark = true) := fun hit ⟨_, on⟩ => by
      obtain ⟨_, scope, _⟩ := hx.1 hit
      rw [scope] at on
      cases on
    refine (hx.trans hy apart).congr ?_
    by_cases hit : r.place = h ∧ r.scopeMark = true
    · exact ⟨fun _ => .inl hit, fun _ => ⟨by simp [hit.1], hit.2⟩⟩
    · obtain ⟨retained, _, _, scope⟩ := Circuit.kept_iff.mp (hx.2 hit).kept_eq
      obtain ⟨hplace, _⟩ := Circuit.retained_iff.mp retained
      rw [hplace, scope, List.mem_cons, or_and_right]

theorem State.orphans_notices {rs : List Circuit} (nodup : (rs.map (·.place)).Nodup) (ok : s.tableOk)
    (stand : ∀ r ∈ rs, ∃ x ∈ s.records, r.Stays x)
    (room : s.notices.length + (rs.filter Circuit.orphaned).length ≤ 32) :
    (s.each (rs.map Circuit.place) State.orphanPlace).notices =
      s.notices ++ noticesOf (.refused .orphan) (rs.filter Circuit.orphaned) := by
  induction rs generalizing s with
  | nil => simp [State.each, noticesOf]
  | cons r rs ih =>
    obtain ⟨away, nodup⟩ := List.nodup_cons.mp nodup
    obtain ⟨x, hx, hrx⟩ := stand r (by simp)
    have same := hrx.orphaned_eq
    have told : noticesOf (.refused .orphan) ([x].filter Circuit.orphaned) =
        noticesOf (.refused .orphan) ([r].filter Circuit.orphaned) := by
      have fixed := Circuit.fixed_of_kept hrx.kept_eq
      by_cases on : r.orphaned = true <;> simp [on, same, noticesOf, fixed]
    have first : (s.orphanPlace r.place).notices =
        s.notices ++ noticesOf (.refused .orphan) ([r].filter Circuit.orphaned) := by
      rw [← Circuit.place_of_kept hrx.kept_eq, State.orphanPlace_notices ok hx, told]
      intro on
      rw [List.filter_cons_of_pos (same ▸ on), List.length_cons] at room
      omega
    have parts : (r :: rs).filter Circuit.orphaned = [r].filter Circuit.orphaned ++ rs.filter Circuit.orphaned := by
      rw [← List.filter_append]
      rfl
    have rest := ih nodup (State.tableOk_orphanPlace ok r.place) (fun z hz => ?_) ?_
    · show ((s.orphanPlace r.place).each _ _).notices = _
      rw [rest, first, parts]
      simp [noticesOf]
    · obtain ⟨w, hw, hzw⟩ := stand z (by simp [hz])
      obtain ⟨v, hv, hwv⟩ := (State.turns_orphanPlace ok r.place).of_mem hw
      refine ⟨v, hv, hzw.trans (hwv.2 fun ⟨e, _⟩ => away (List.mem_map.mpr ⟨z, hz, ?_⟩))⟩
      exact (Circuit.place_of_kept hzw.kept_eq).symm.trans e
    · rw [first]
      rw [parts] at room
      simp only [List.length_append, noticesOf, List.length_map] at room ⊢
      omega

theorem State.orphans_silent {hs : List Nat} (none : ∀ r ∈ s.records, r.place ∈ hs → r.orphaned = false) :
    (s.each hs State.orphanPlace).notices = s.notices ∧ (s.each hs State.orphanPlace).events = s.events := by
  induction hs generalizing s with
  | nil => exact ⟨rfl, rfl⟩
  | cons h hs ih =>
    obtain ⟨notices, events, records⟩ := State.orphanPlace_silent (h := h) fun r hr e => none r hr (by simp [e])
    obtain ⟨notices', events'⟩ := ih (s := s.orphanPlace h) fun x hx hin => by
      obtain ⟨r, hr, hplace, hnot⟩ := records x hx
      exact hnot (none r hr (by simp [← hplace, hin]))
    exact ⟨notices'.trans notices, events'.trans events⟩

/-! ### A roll that completes -/

/-- The records towards a slot that the sweep takes to REFUSED, in class order. -/
def State.orphans (p : Nat) (s : State) : List Circuit := s.inClassOrder (fun r => r.farSlot == p && r.orphaned)

theorem State.towards_orphans (p : Nat) (s : State) : (s.towards p).filter Circuit.orphaned = s.orphans p :=
  s.towards_filter p _

/-- The roll from a peer is over, and REFUSAL raised where the sweep takes a record (R26, R78). -/
def State.rolled (p : Nat) (s : State) : State :=
  (s.updPeer p fun x => { x with channel := .idle }).raiseIf
    ((s.towards p).any fun r => r.scopeMark && r.refusable .orphan) .refusal

theorem State.completeRoll_eq (p : Nat) (s : State) :
    s.completeRoll p = (s.rolled p).each ((s.towards p).map Circuit.place) State.orphanPlace := rfl

theorem State.rolled_records (p : Nat) (s : State) : (s.rolled p).records = s.records := (State.raiseIf_keeps _ _ _).1

theorem State.rolled_peers (p : Nat) (s : State) :
    (s.rolled p).peers = (s.updPeer p fun x => { x with channel := .idle }).peers := by
  simp [State.rolled]

theorem State.tableOk_rolled (ok : s.tableOk) (p : Nat) : (s.rolled p).tableOk :=
  (State.Tends.refl s).updPeer.raiseIf.tableOk ok

/-- A roll that completes: which records, ... -/
theorem State.turns_completeRoll (ok : s.tableOk) (p : Nat) :
    (s.rolled p).Turns (fun r x => r.OrphansIf (r.farSlot = p ∧ r.scopeMark = true) x) (s.completeRoll p) :=
  (State.turns_orphans (State.tableOk_rolled ok p) _).mono fun r hr _ h =>
    h.congr (by rw [State.mem_towards_iff ok (s.rolled_records p ▸ hr)])

theorem State.peer_completeRoll (ok : s.tableOk) (p q : Nat) : (s.completeRoll p).peer q =
    (s.updPeer p fun x => { x with channel := .idle }).peer q :=
  State.peer_congr ((State.turns_completeRoll ok p).peers.trans (s.rolled_peers p)) q

/-- ... with which notices, ... -/
theorem State.completeRoll_notices (ok : s.tableOk) (p : Nat) (room : s.notices.length + (s.orphans p).length ≤ 32) :
    (s.completeRoll p).notices = s.notices ++ noticesOf (.refused .orphan) (s.orphans p) := by
  have notices : (s.rolled p).notices = s.notices := by simp [State.rolled]
  have walked := State.orphans_notices (s := s.rolled p) (ok.nodup_towards p) (State.tableOk_rolled ok p)
    (fun r hr => ⟨r, ?_, .refl r⟩) (by rwa [notices, s.towards_orphans])
  · rw [State.completeRoll_eq, walked, notices, s.towards_orphans]
  · rw [s.rolled_records]
    exact State.mem_of_mem_classOrder (List.mem_of_mem_filter hr)

theorem State.any_orphaned (p : Nat) (s : State) :
    ((s.towards p).any fun r => r.scopeMark && r.refusable .orphan) = true ↔ s.orphans p ≠ [] := by
  rw [← s.towards_orphans, ne_eq, List.filter_eq_nil_iff, List.any_eq_true]
  push Not
  rfl

/-- ... with the flag where a record is taken, ... -/
theorem State.completeRoll_flag (ok : s.tableOk) (h : s.orphans p ≠ []) :
    (s.completeRoll p).events.has .refusal = true := by
  refine (State.turns_completeRoll ok p).flags _ ?_
  rw [State.rolled, State.raiseIf, if_pos ((s.any_orphaned p).mpr h)]
  exact EventUnit.has_raise_self _ _

/-- ... and with neither where none is. -/
theorem State.completeRoll_silent (ok : s.tableOk) (h : s.orphans p = []) :
    (s.completeRoll p).notices = s.notices ∧ (s.completeRoll p).events = s.events := by
  have raised : s.rolled p = s.updPeer p fun x => { x with channel := .idle } :=
    if_neg fun some => (s.any_orphaned p).mp some h
  have none : ∀ r ∈ (s.rolled p).records, r.place ∈ (s.towards p).map Circuit.place → r.orphaned = false := by
    intro r hr hplace
    rw [s.rolled_records] at hr
    have far := (State.mem_towards_iff ok hr).mp hplace
    obtain ⟨_, _, _, _, _, hcls, _⟩ := ok.inRange hr
    have away := List.filter_eq_nil_iff.mp ((s.towards_orphans p).trans h) r (State.mem_towards hr hcls far)
    simpa using away
  obtain ⟨notices, events⟩ := State.orphans_silent none
  rw [State.completeRoll_eq]
  exact ⟨notices.trans (by rw [raised]; rfl), events.trans (by rw [raised]; rfl)⟩

end Sys2Proof.Machine
end

section
/-! PROOF. A ROLL acted on (O46). -/

namespace Sys2Proof.Machine

variable {s t u : State} {r x y z : Circuit} {p n : Nat} {f : LineFrame}

/-- The channel is open, and the records are scope-marked (R76). -/
def State.scopeMarked (p n : Nat) (s : State) : State :=
  (s.updPeer p fun x => { x with channel := .receiving n 0 0 }).mapTowards p fun r => { r with scopeMark := r.state != .clashed }

theorem State.takeRoll_eq (p n : Nat) (s : State) :
    s.takeRoll p n = if n = 0 then (s.scopeMarked p n).completeRoll p else s.scopeMarked p n := rfl

theorem State.Turns.map_eq {β : Type} {R : Circuit → Circuit → Prop} (h : s.Turns R t) (k : Circuit → β)
    (hR : ∀ r x, R r x → k x = k r) : t.records.map k = s.records.map k := by
  obtain ⟨g, hg, hgR⟩ := h.records
  rw [hg, List.map_map]
  exact List.map_congr_left fun r hr => hR r _ (hgR r hr)

theorem State.tableOk_scopeMarked (ok : s.tableOk) (p n : Nat) : (s.scopeMarked p n).tableOk := by
  have tends : s.Tends (s.scopeMarked p n) :=
    State.Tends.mapTowards (State.Tends.updPeer (.refl s)) (fun _ => rfl) fun _ hr => hr
  exact tends.tableOk ok

theorem State.scopeMarked_records (p n : Nat) (s : State) : (s.scopeMarked p n).records =
    s.records.map (fun r => if r.farSlot = p then { r with scopeMark := r.state != .clashed } else r) := rfl

/-- A roll that declares nothing sweeps every record towards the peer but the CLASHED ones. -/
theorem State.orphans_scopeMarked (p n : Nat) (s : State) : (s.scopeMarked p n).orphans p =
    (s.inClassOrder fun r => r.farSlot == p && r.state != .clashed && r.state != .refused .orphan).map
      (fun r => if r.farSlot = p then { r with scopeMark := r.state != .clashed } else r) := by
  refine State.inClassOrder_map (State.scopeMarked_records p n s) (fun r => ?_) fun r => ?_
  · split <;> rfl
  · by_cases far : r.farSlot = p
    · by_cases live : r.state = .clashed <;> simp [far, live, Circuit.orphaned, Circuit.refusable]
    · simp [far, beq_eq_false_iff_ne.mpr far]

/-- What such a roll leaves of the records towards the peer (R40, R78). -/
theorem State.emptyRoll_records (ok : s.tableOk) (p : Nat) : ∀ r ∈ ((s.scopeMarked p n).completeRoll p).records,
    r.farSlot = p → r.scopeMark = false ∧ (r.state = .clashed ∨ r.state = .refused .orphan) := by
  intro x hx far
  obtain ⟨y, hy, swept⟩ := (State.turns_completeRoll (State.tableOk_scopeMarked ok p n) p).mem hx
  rw [State.rolled_records, State.scopeMarked_records] at hy
  obtain ⟨r, _, rfl⟩ := List.mem_map.mp hy
  obtain ⟨_, fixed, _⟩ := Circuit.retained_iff.mp swept.retained_eq
  have hfar : r.farSlot = p := by
    by_contra hne
    rw [if_neg hne] at fixed
    exact hne ((congrArg Fixed.farSlot fixed).symm.trans far)
  rw [if_pos hfar] at swept
  by_cases live : r.state = .clashed
  · rw [swept.2 (by simp [live]) |>.eq (by simp [live])]
    simp [live]
  · obtain ⟨_, scope, state⟩ := swept.1 ⟨hfar, by simpa using live⟩
    exact ⟨scope, .inr (by simpa [live] using state)⟩

end Sys2Proof.Machine

open Sys2Proof Sys2Proof.Machine

/-- Settles O46: the marks of the roll, and for one that declares nothing the sweep of what they mark. -/
theorem rollReceivedMarks : Obligations.RollReceivedMarks := by
  intro f s h hrun hdst hne
  obtain ⟨_, _, _, _, present, _⟩ := id h
  have hlt := State.lt_of_present present
  refine ⟨fun n hlo hhi payload => ?_, fun ok payload => ?_⟩
  · rw [exec_rollReceived h hrun hdst hne (payload ▸ readRoll_wordBytes hhi), State.takeRoll_eq, if_neg (by omega)]
    have peer : (s.refreshed f).peer f.src = { s.peer f.src with sinceHeard := 0 } := State.peer_refreshed_src present
    have peers : (s.refreshed f).peers.set f.src { (s.refreshed f).peer f.src with channel := .receiving n 0 0 } =
        s.peers.set f.src { s.peer f.src with sinceHeard := 0, channel := .receiving n 0 0 } := by
      rw [peer]
      exact List.set_set ..
    exact congrArg (fun ps => Host.Outcome.next { (s.refreshed f).scopeMarked f.src n with peers := ps }) peers
  · have ok' : (s.refreshed f).tableOk := ok
    have marked := State.tableOk_scopeMarked ok' f.src 0
    have turns := State.turns_completeRoll marked f.src
    have told := State.orphans_scopeMarked f.src 0 (s.refreshed f)
    have here (test : Circuit → Bool) : (s.refreshed f).inClassOrder test = s.inClassOrder test := rfl
    rw [here] at told
    refine ⟨_, (exec_rollReceived h hrun hdst hne (payload ▸ readRoll_wordBytes (n := 0) (by omega))).trans
      (congrArg Host.Outcome.next ((State.takeRoll_eq _ _ _).trans (if_pos rfl))), ?_, State.emptyRoll_records ok' f.src,
      ⟨fun room => ?_, fun some => ?_, fun none => ?_⟩, ?_, ?_⟩
    · have seat : f.src < ((s.refreshed f).scopeMarked f.src 0).peers.length := by
        simpa [State.scopeMarked, State.length_updPeer, State.refreshed] using hlt
      rw [State.peer_completeRoll marked, State.peer_updPeer, if_pos ⟨rfl, seat⟩]
    · have walked := State.completeRoll_notices marked f.src (by rw [told, List.length_map]; exact room)
      rw [walked, told, noticesOf_map]
      · rfl
      · intro r
        split <;> rfl
    · exact State.completeRoll_flag marked (by rw [told]; simpa using some)
    · obtain ⟨notices, events⟩ := State.completeRoll_silent marked (p := f.src) (by rw [told, none]; rfl)
      exact ⟨notices, by rw [events]; rfl⟩
    · rw [turns.map_eq Circuit.retained fun r x h => h.retained_eq, State.rolled_records, State.scopeMarked_records, List.map_map]
      refine List.map_congr_left fun r _ => ?_
      simp only [Function.comp]
      split <;> rfl
    · rw [turns.store]
      simp [State.rolled]
      rfl
end

section
/-! PROOF. One claim of an OFFER: the verdict on it, what becomes of the record it finds, and the notices (R29 to R31,
R81, R83). -/

namespace Sys2Proof.Machine

variable {s t u : State} {r x y z : Circuit} {p q : Nat} {c : Claim} {v : Verdict}

/-! ### Appending a verdict (R83) -/

theorem State.peer_appendVerdict (hp : p < s.peers.length) (v : Verdict) : ∃ w, (s.appendVerdict p v).peer p =
    { s.peer p with verdicts := (s.peer p).verdicts ++ [v], wants := w } := by
  obtain ⟨w, hw⟩ := State.peer_request (.answer p) p (s.updPeer p fun x => { x with verdicts := x.verdicts ++ [v] })
  refine ⟨w, ?_⟩
  rw [State.appendVerdict, hw, State.peer_updPeer, if_pos ⟨rfl, hp⟩]

theorem State.length_appendVerdict (p : Nat) (v : Verdict) (s : State) :
    (s.appendVerdict p v).peers.length = s.peers.length := by
  have request (req : Request) (u : State) : (u.request req).peers.length = u.peers.length := by
    rcases u.request_cases req with ⟨_, e⟩ | ⟨_, _, e⟩ | ⟨_, _, e⟩ <;> rw [e]
    · rfl
    · cases hp : req.peer with
      | none => rw [Request.eq_beacon hp]; rfl
      | some k => rw [State.setWant_of_peer hp, State.length_updPeer]
  rw [State.appendVerdict, request, State.length_updPeer]

theorem State.owes_appendVerdict (hp : p < s.peers.length) (v : Verdict) : (s.appendVerdict p v).owes (.answer p) :=
  State.owes_request_self fun q hq => by
    cases hq
    rwa [State.length_updPeer]

/-- An appending changes the peer record and the queue alone. -/
theorem State.appendVerdict_frame (p : Nat) (v : Verdict) (s : State) : (s.appendVerdict p v).records = s.records ∧
    (s.appendVerdict p v).store = s.store ∧ (s.appendVerdict p v).ctl = s.ctl ∧ (s.appendVerdict p v).events = s.events ∧
    (s.appendVerdict p v).notices = s.notices := by
  simp [State.appendVerdict]

/-! ### The record that a claim finds -/

/-- What the claim leaves of the record with its tag towards its source (R30, R31, R77). -/
def Circuit.answered (c : Claim) (r : Circuit) : Circuit :=
  let z : Circuit := { r with scopeMark := false }
  if claimDiffers c r then if r.refusable .mismatch then z.enter (.refused .mismatch) false 0 else z
  else if r.state = .clashed then z else z.onLane (converge c r)

/-- The notices it posts (R26, R30, R31). -/
def Circuit.answerNotices (c : Claim) (r : Circuit) : List Notice :=
  if claimDiffers c r then if r.refusable .mismatch then [{ tag := r.tag, kind := .refused .mismatch, cls := r.cls }] else []
  else if r.state = .clashed ∨ converge c r = r.inUse then [] else [{ tag := r.tag, kind := .laneMoved, cls := r.cls }]

/-- The verdict (R81, cases 4 and 5). -/
def Circuit.verdictOn (c : Claim) (r : Circuit) : VerdictKind :=
  if claimDiffers c r then .mismatch
  else if r.state = .clashed then .clash else .accept { r with inUse := converge c r }.lane

theorem Circuit.answered_kept (c : Claim) (r : Circuit) :
    (r.answered c).retained = r.retained ∧ (r.answered c).scopeMark = false := by
  unfold Circuit.answered
  dsimp only
  split
  · split
    · exact ⟨rfl, by simp [Circuit.enter]⟩
    · exact ⟨rfl, rfl⟩
  · split
    · exact ⟨rfl, rfl⟩
    · obtain ⟨retained, _, scope, _⟩ := ({ r with scopeMark := false } : Circuit).onLane_fields (converge c r)
      exact ⟨retained, scope⟩

/-! ### What the answering of one claim comes to -/

/-- The verdict stands at the tail of the list with an ANSWER owed, the record found is as it was answered, any other stays,
and the notices have been posted; no flag is lost, and nothing else in the peer record has changed. -/
structure State.Answers (p : Nat) (v : Verdict) (R : Circuit → Circuit → Prop) (own : List Notice) (s t : State) : Prop where
  peer : ∃ w, t.peer p = { s.peer p with verdicts := (s.peer p).verdicts ++ [v], wants := w }
  length : t.peers.length = s.peers.length
  owes : t.owes (.answer p)
  records : ∃ g, t.records = s.records.map g ∧ ∀ r ∈ s.records, R r (g r)
  notices : s.notices.length + own.length ≤ 32 → t.notices = s.notices ++ own
  flags : ∀ e, s.events.has e = true → t.events.has e = true

theorem State.Turns.answers {R : Circuit → Circuit → Prop} {own : List Notice} (h : s.Turns R t) (hp : p < s.peers.length)
    (notices : s.notices.length + own.length ≤ 32 → t.notices = s.notices ++ own) (v : Verdict) :
    s.Answers p v R own (t.appendVerdict p v) where
  peer := by
    obtain ⟨w, hw⟩ := State.peer_appendVerdict (s := t) (p := p) (by rwa [h.peers]) v
    exact ⟨w, by rw [hw, State.peer_congr h.peers]⟩
  length := by rw [State.length_appendVerdict, h.peers]
  owes := State.owes_appendVerdict (by rwa [h.peers]) v
  records := by rw [(State.appendVerdict_frame p v t).1]; exact h.records
  notices := fun room => by
    obtain ⟨_, _, _, _, same⟩ := State.appendVerdict_frame p v t
    rw [same, notices room]
  flags := fun e he => by
    obtain ⟨_, _, _, same, _⟩ := State.appendVerdict_frame p v t
    rw [same]
    exact h.flags e he

/-- The attempt and the judgement that follow (R94, R156). -/
theorem State.Answers.settled {R : Circuit → Circuit → Prop} {own : List Notice} (h : s.Answers p v R own t)
    (places : (t.records.map (·.place)).Nodup) (hR : ∀ r x y, R r x → x.Stays y → R r y) (cause : Bool) :
    s.Answers p v R own (t.settleChange cause) where
  peer := by
    obtain ⟨w, hw⟩ := h.peer
    exact ⟨w, by rw [State.peer_congr (State.settleChange_peers _ _), hw]⟩
  length := by rw [State.settleChange_peers, h.length]
  owes := State.settleChange_owes h.owes
  records := by
    obtain ⟨g, hg, hgR⟩ := h.records
    obtain ⟨g', hg', stays⟩ := (State.turns_settleChange places cause).records
    refine ⟨g' ∘ g, by rw [hg', hg, List.map_map], fun r hr => hR _ _ _ (hgR r hr) (stays _ ?_)⟩
    rw [hg]
    exact List.mem_map_of_mem hr
  notices := fun room => (State.settleChange_notices cause t).trans (h.notices room)
  flags := fun e he => State.has_settleChange (h.flags e he)

/-- A claim that finds a record towards another slot changes none (R81, case 3). -/
theorem State.answerClaim_of_far (ok : s.tableOk) (hr : r ∈ s.records) (htag : r.tag = c.tag) (hfar : r.farSlot ≠ p) :
    s.answerClaim p c = s.appendVerdict p { tag := c.tag, kind := .mismatch } := by
  rw [State.answerClaim, ← htag, State.findTag_eq_some ok hr]
  exact if_pos hfar

/-- One that finds a record towards its source is compared with it, its scope mark taken off (R77). -/
theorem State.answerClaim_of_found (ok : s.tableOk) (hr : r ∈ s.records) (htag : r.tag = c.tag) (hfar : r.farSlot = p) :
    let s1 := s.mapRec r.place fun x => { x with scopeMark := false }
    let z : Circuit := { r with scopeMark := false }
    s.answerClaim p c = if claimDiffers c r then s1.claimMismatched p c z else s1.claimMatched p c z := by
  rw [State.answerClaim, ← htag, State.findTag_eq_some ok hr]
  exact if_neg (not_not.mpr hfar)

/-- A claim compared with the record as the table holds it after its scope mark has been taken off. -/
theorem State.Answers.of_put {own : List Notice} (h : s.Turns (fun y x => x = r.put z y) t) (hnotices : t.notices = s.notices)
    (hz : z.place = r.place) (k : t.Answers p v (z.Becomes x) own u) : s.Answers p v (r.Becomes x) own u where
  peer := by
    obtain ⟨w, hw⟩ := k.peer
    exact ⟨w, by rw [hw, State.peer_congr h.peers]⟩
  length := by rw [k.length, h.peers]
  owes := k.owes
  records := by
    obtain ⟨g, hg, put⟩ := h.records
    obtain ⟨g', hg', became⟩ := k.records
    refine ⟨g' ∘ g, by rw [hg', hg, List.map_map], fun y hy => .of_put hz ?_⟩
    rw [← put y hy]
    refine became _ ?_
    rw [hg]
    exact List.mem_map_of_mem hy
  notices := hnotices ▸ k.notices
  flags := fun e he => k.flags e (h.flags e he)

/-- A record that no cause takes. -/
theorem State.becomes_refl (ok : s.tableOk) (hr : r ∈ s.records) : s.Turns (r.Becomes r) s :=
  (State.Turns.refl s).mono fun y hy x hx => by
    by_cases e : y.place = r.place
    · obtain rfl := (ok.place_eq_iff hy hr).mp e
      rwa [Circuit.Becomes, Circuit.put_self]
    · rwa [Circuit.Becomes, Circuit.put_of_ne e]

/-- A claim that differs from its record (R31). -/
theorem State.answers_mismatched (ok : s.tableOk) (hr : r ∈ s.records) (hp : p < s.peers.length) (c : Claim) :
    s.Answers p { tag := c.tag, kind := .mismatch }
      (r.Becomes (if r.refusable .mismatch then r.enter (.refused .mismatch) false 0 else r))
      (if r.refusable .mismatch then [{ tag := r.tag, kind := .refused .mismatch, cls := r.cls }] else [])
      (s.claimMismatched p c r) ∧
    (r.refusable .mismatch = true → (s.claimMismatched p c r).events.has .refusal = true) := by
  unfold State.claimMismatched
  split
  case isTrue refusable =>
    have refused := State.becomes_takes ok.places hr (new := .refused .mismatch) (by simp) .refusal (.refused .mismatch)
    have answers := refused.answers hp (fun room => State.takes_notices (by simpa using room) ..)
      { tag := c.tag, kind := .mismatch }
    have tends : s.Tends (s.refuse .mismatch r) := (State.Tends.refl s).refuse
    have ok' := (tends.appendVerdict (p := p) (v := { tag := c.tag, kind := .mismatch })).tableOk ok
    refine ⟨answers.settled ok'.places (fun _ _ _ => .trans) _, fun _ => State.has_settleChange ?_⟩
    obtain ⟨_, _, _, same, _⟩ := State.appendVerdict_frame p { tag := c.tag, kind := .mismatch } (s.refuse .mismatch r)
    rw [same]
    exact State.takes_flag ..
  case isFalse settled =>
    exact ⟨(State.becomes_refl ok hr).answers hp (fun _ => (List.append_nil _).symm) _,
      fun refusable => absurd refusable settled⟩

/-- A claim that matches it (R30). -/
theorem State.answers_matched (ok : s.tableOk) (hr : r ∈ s.records) (hp : p < s.peers.length) (c : Claim) :
    s.Answers p { tag := c.tag, kind := if r.state = .clashed then .clash else .accept { r with inUse := converge c r }.lane }
      (r.Becomes (if r.state = .clashed then r else r.onLane (converge c r)))
      (if r.state = .clashed ∨ converge c r = r.inUse then [] else [{ tag := r.tag, kind := .laneMoved, cls := r.cls }])
      (s.claimMatched p c r) := by
  unfold State.claimMatched
  split
  case isTrue clashed =>
    simp only [clashed, true_or, if_true]
    exact (State.becomes_refl ok hr).answers hp (fun _ => (List.append_nil _).symm) _
  case isFalse live =>
    simp only [live, false_or]
    have answers := (State.becomes_agree ok.places hr (converge c r)).answers hp (own := if converge c r = r.inUse then []
      else [{ tag := r.tag, kind := .laneMoved, cls := r.cls }]) (fun room => ?_)
      { tag := c.tag, kind := .accept { r with inUse := converge c r }.lane }
    · have agreed : s.Tends (s.agree (converge c r) r) := (State.Tends.refl s).agree hr fun hrange => converge_standby hrange
      have ok' := (agreed.appendVerdict (p := p)
        (v := { tag := c.tag, kind := .accept { r with inUse := converge c r }.lane })).tableOk ok
      exact answers.settled ok'.places (fun _ _ _ => .trans) _
    · obtain ⟨same, moved⟩ := s.agree_notices (converge c r) r
      by_cases e : converge c r = r.inUse
      · rw [same e, if_pos e, List.append_nil]
      · rw [if_neg e] at room ⊢
        exact moved e (by simpa using room)

/-- The claim answered: its record as `Circuit.answered` has it. -/
theorem State.answers_found (ok : s.tableOk) (hr : r ∈ s.records) (htag : r.tag = c.tag) (hfar : r.farSlot = p)
    (hp : p < s.peers.length) : s.Answers p { tag := c.tag, kind := r.verdictOn c } (r.Becomes (r.answered c))
      (r.answerNotices c) (s.answerClaim p c) ∧
    (claimDiffers c r = true → r.refusable .mismatch = true → (s.answerClaim p c).events.has .refusal = true) := by
  have found := State.answerClaim_of_found ok hr htag hfar
  have cleared := State.turns_put (f := fun x => { x with scopeMark := false }) ok.places hr
  have ok1 : (s.mapRec r.place fun x => { x with scopeMark := false }).tableOk :=
    (State.Tends.refl s).clearScopeMark.tableOk ok
  have hz := State.mem_mapRec (fun x => { x with scopeMark := false }) hr
  unfold Circuit.answered Circuit.answerNotices Circuit.verdictOn
  by_cases differs : claimDiffers c r = true
  · simp only [differs, if_true] at found ⊢
    rw [found]
    obtain ⟨answers, flag⟩ := State.answers_mismatched (p := p) ok1 hz hp c
    exact ⟨.of_put cleared rfl rfl answers, fun _ => flag⟩
  · simp only [differs] at found ⊢
    rw [found]
    exact ⟨.of_put cleared rfl rfl (State.answers_matched (p := p) ok1 hz hp c), fun h => absurd h Bool.false_ne_true⟩

/-! ### Whatever the claim finds -/

/-- The record that the claim finds is as it was answered; an opening may have taken any. -/
def Claim.Leaves (c : Claim) (p : Nat) (r x : Circuit) : Prop :=
  (if r.tag = c.tag ∧ r.farSlot = p then r.answered c else r).Stays x

/-- The verdict of R81, cases 2 to 5. -/
def State.verdictOn (p : Nat) (c : Claim) (s : State) : VerdictKind :=
  match s.findTowards c.tag p with
  | some r => r.verdictOn c
  | none => if (s.findTag c.tag).isSome then .mismatch else .unknown

/-- The notices of the answer. -/
def State.answerNotices (p : Nat) (c : Claim) (s : State) : List Notice :=
  match s.findTowards c.tag p with
  | some r => r.answerNotices c
  | none => []

/-- A claim that finds no record towards its source is answered with the table as it was. -/
theorem State.answerClaim_of_missing (ok : s.tableOk) (missing : ∀ r ∈ s.records, r.tag = c.tag → r.farSlot ≠ p) :
    s.answerClaim p c = s.appendVerdict p { tag := c.tag, kind := s.verdictOn p c } ∧ s.answerNotices p c = [] := by
  rw [State.verdictOn, State.answerNotices, State.findTowards_of_missing missing]
  refine ⟨?_, rfl⟩
  cases e : s.findTag c.tag with
  | none =>
    rw [State.answerClaim, e]
    rfl
  | some r =>
    obtain ⟨hr, htag⟩ := State.mem_of_findTag e
    exact State.answerClaim_of_far ok hr htag (missing r hr htag)

theorem State.answers_claim (ok : s.tableOk) (hp : p < s.peers.length) (c : Claim) :
    s.Answers p { tag := c.tag, kind := s.verdictOn p c } (c.Leaves p) (s.answerNotices p c) (s.answerClaim p c) := by
  by_cases finds : ∃ r ∈ s.records, r.tag = c.tag ∧ r.farSlot = p
  · obtain ⟨r, hr, htag, hfar⟩ := finds
    have towards := State.findTowards_of_mem ok hr htag hfar
    obtain ⟨answers, _⟩ := State.answers_found ok hr htag hfar hp
    rw [State.verdictOn, State.answerNotices, towards]
    refine { answers with records := ?_ }
    obtain ⟨g, hg, became⟩ := answers.records
    refine ⟨g, hg, fun y hy => ?_⟩
    have put : r.put (r.answered c) y = if y.tag = c.tag ∧ y.farSlot = p then y.answered c else y := by
      by_cases e : y = r
      · rw [e, Circuit.put_self, if_pos ⟨htag, hfar⟩]
      · rw [Circuit.put_of_ne fun h => e ((ok.place_eq_iff hy hr).mp h),
          if_neg fun ⟨h, _⟩ => e ((ok.tag_eq_iff hy hr).mp (h.trans htag.symm))]
    rw [Claim.Leaves, ← put]
    exact became y hy
  · have missing : ∀ r ∈ s.records, r.tag = c.tag → r.farSlot ≠ p := fun r hr htag hfar => finds ⟨r, hr, htag, hfar⟩
    obtain ⟨answered, none⟩ := State.answerClaim_of_missing ok missing
    rw [answered, none]
    refine ((State.Turns.refl s).mono fun r hr x hx => ?_).answers hp (fun _ => (List.append_nil _).symm) _
    rwa [Claim.Leaves, if_neg fun ⟨htag, hfar⟩ => missing r hr htag hfar]

end Sys2Proof.Machine
end

section
/-! PROOF. A claim counted into the roll of its source (R77), and what the sweep of a roll that it completes finds (R40). -/

namespace Sys2Proof.Machine

variable {s t u : State} {r x y z : Circuit} {p q : Nat} {c : Claim} {v : Verdict} {roll : Bool}

/-! ### The count of a roll -/

/-- The claim is the last of its roll. -/
def Channel.completes (roll : Bool) (ch : Channel) : Bool :=
  roll && match ch with
    | .receiving d n _ => n + 1 == d
    | .idle => false

/-- The channel after a claim. -/
def Channel.counted (roll : Bool) (ch : Channel) : Channel :=
  match ch with
  | .receiving d n g => if roll = true then (if n + 1 = d then .idle else .receiving d (n + 1) 0) else .receiving d n g
  | .idle => .idle

theorem Channel.counted_of_completes {ch : Channel} (h : ch.completes roll = true) : ch.counted roll = .idle := by
  cases ch with
  | idle => rfl
  | receiving d n g =>
    simp only [Channel.completes, Bool.and_eq_true, beq_iff_eq] at h
    simp [Channel.counted, h]

/-- A claim answered, counted where it is roll-flagged. -/
def State.countIf (roll : Bool) (p : Nat) (s : State) : State := if roll then s.countClaim p else s

/-- A peer record written as it stands. -/
theorem State.updPeer_of_fixed {f : Peer → Peer} (h : f (s.peer p) = s.peer p) : s.updPeer p f = s := by
  have peers : s.peers.set p (s.peer p) = s.peers := by
    by_cases hp : p < s.peers.length
    · rw [State.peer_eq_getElem hp, List.set_getElem_self]
    · exact List.set_eq_of_length_le (not_lt.mp hp)
  rw [State.updPeer, h, State.setPeer, peers]

theorem State.countIf_of_last (h : (s.peer p).channel.completes roll = true) : s.countIf roll p = s.completeRoll p := by
  cases hch : (s.peer p).channel with
  | idle => simp [Channel.completes, hch] at h
  | receiving d n g =>
    simp only [Channel.completes, hch, Bool.and_eq_true, beq_iff_eq] at h
    obtain ⟨rfl, hd⟩ := h
    rw [State.countIf, if_pos rfl, State.countClaim, hch]
    exact (if_pos hd).trans (State.completeRoll_updChannel _ p s)

theorem State.countIf_of_not_last (h : (s.peer p).channel.completes roll = false) :
    s.countIf roll p = s.updPeer p fun x => { x with channel := (s.peer p).channel.counted roll } := by
  have still (e : (s.peer p).channel.counted roll = (s.peer p).channel) :
      s.updPeer p (fun x => { x with channel := (s.peer p).channel.counted roll }) = s :=
    State.updPeer_of_fixed (by rw [e])
  cases roll with
  | false => exact (still (by cases (s.peer p).channel <;> rfl)).symm
  | true =>
    cases hch : (s.peer p).channel with
    | idle =>
      rw [← hch, still (by rw [hch]; rfl), State.countIf, if_pos rfl, State.countClaim, hch]
    | receiving d n g =>
      have hd : n + 1 ≠ d := by simpa [Channel.completes, hch] using h
      rw [State.countIf, if_pos rfl, State.countClaim, hch]
      simp only [Channel.counted, if_true, if_neg hd]

/-! ### What counting a claim comes to -/

/-- The records that the sweep takes to REFUSED, where the claim completes its roll. -/
def State.swept (p : Nat) (last : Bool) (s : State) : List Circuit :=
  s.inClassOrder (fun r => last && (r.farSlot == p && r.orphaned))

theorem State.swept_of_last (p : Nat) (s : State) : s.swept p true = s.orphans p := by simp [State.swept, State.orphans]

theorem State.swept_of_not_last (p : Nat) (s : State) : s.swept p false = [] := by simp [State.swept, State.inClassOrder]

/-- The channel is counted on, and a roll that is complete swept; the lists of the peer and what is owed to it stay. -/
structure State.Counts (p : Nat) (roll : Bool) (s t : State) : Prop where
  peer : t.peer p = { s.peer p with channel := (s.peer p).channel.counted roll }
  owes : s.owes (.answer p) → t.owes (.answer p)
  records : ∃ g, t.records = s.records.map g ∧ ∀ r ∈ s.records,
    r.OrphansIf ((s.peer p).channel.completes roll = true ∧ r.farSlot = p ∧ r.scopeMark = true) (g r)
  notices : s.notices.length + (s.swept p ((s.peer p).channel.completes roll)).length ≤ 32 →
    t.notices = s.notices ++ noticesOf (.refused .orphan) (s.swept p ((s.peer p).channel.completes roll))
  flag : s.swept p ((s.peer p).channel.completes roll) ≠ [] → t.events.has .refusal = true
  flags : ∀ e, s.events.has e = true → t.events.has e = true
  same : (s.peer p).channel.completes roll = false → t.records = s.records ∧ t.notices = s.notices

theorem State.owes_answer (hq : ∀ req ∈ s.line.queue, req ∈ t.line.queue) (hw : (t.peer p).wants = (s.peer p).wants)
    (h : s.owes (.answer p)) : t.owes (.answer p) :=
  h.imp (hq _) fun wanted => by rw [State.wanted, hw]; exact wanted

theorem State.counts_last (ok : s.tableOk) (hp : p < s.peers.length) (h : (s.peer p).channel.completes roll = true) :
    s.Counts p roll (s.completeRoll p) := by
  have turns := State.turns_completeRoll ok p
  have idle := Channel.counted_of_completes h
  have peer : (s.completeRoll p).peer p = { s.peer p with channel := .idle } := by
    rw [State.peer_completeRoll ok, State.peer_updPeer, if_pos ⟨rfl, hp⟩]
  have flags (e : EventFlag) (he : s.events.has e = true) : (s.rolled p).events.has e = true := by
    rw [State.rolled]
    exact (State.turns_raiseIf _ _ _).flags e he
  have queue : (s.rolled p).line = s.line := by simp [State.rolled]
  refine ⟨by rw [idle, peer], State.owes_answer (queue ▸ turns.queued) (by rw [peer]), ?_, ?_, ?_,
    fun e he => turns.flags e (flags e he), fun off => ?_⟩
  · obtain ⟨g, hg, swept⟩ := turns.records
    rw [s.rolled_records] at hg swept
    exact ⟨g, hg, fun r hr => (swept r hr).congr (by simp [h])⟩
  · rw [h, s.swept_of_last]
    exact State.completeRoll_notices ok p
  · rw [h, s.swept_of_last]
    exact State.completeRoll_flag ok
  · rw [h] at off
    cases off

theorem State.counts_not_last (hp : p < s.peers.length) (h : (s.peer p).channel.completes roll = false) :
    s.Counts p roll (s.updPeer p fun x => { x with channel := (s.peer p).channel.counted roll }) := by
  have peer : (s.updPeer p fun x => { x with channel := (s.peer p).channel.counted roll }).peer p =
      { s.peer p with channel := (s.peer p).channel.counted roll } := by
    rw [State.peer_updPeer, if_pos ⟨rfl, hp⟩]
  refine ⟨peer, State.owes_answer (fun _ h => h) (by rw [peer]), ⟨id, by rw [List.map_id]; rfl, fun r _ => ⟨fun ⟨on, _⟩ => ?_,
    fun _ => .refl r⟩⟩, fun _ => ?_, fun some => ?_, fun _ he => he, fun _ => ⟨rfl, rfl⟩⟩
  · rw [h] at on
    cases on
  · rw [h, s.swept_of_not_last]
    exact (List.append_nil _).symm
  · rw [h, s.swept_of_not_last] at some
    exact absurd rfl some

theorem State.counts (ok : s.tableOk) (hp : p < s.peers.length) (roll : Bool) : s.Counts p roll (s.countIf roll p) := by
  cases h : (s.peer p).channel.completes roll with
  | true => exact State.countIf_of_last h ▸ State.counts_last ok hp h
  | false => exact State.countIf_of_not_last h ▸ State.counts_not_last hp h

end Sys2Proof.Machine
end

section
/-! PROOF. An OFFER acted on (O47). -/

namespace Sys2Proof.Machine

variable {s t u : State} {r x y z : Circuit} {p q : Nat} {c : Claim} {v : Verdict} {roll : Bool} {f : LineFrame}

/-! ### The sweep after the answer -/

/-- The records towards the source that a completed roll leaves as orphans, the claim's own record apart. -/
def State.leftOver (p : Nat) (c : Claim) (last : Bool) (s : State) : List Circuit :=
  s.inClassOrder (fun r => last && r.farSlot == p && r.scopeMark && r.tag != c.tag &&
    r.state != .clashed && r.state != .refused .orphan)

theorem State.inClassOrder_map_of_mem {g : Circuit → Circuit} {test test' : Circuit → Bool} (h : t.records = s.records.map g)
    (hcls : ∀ r ∈ s.records, (g r).cls = r.cls) (htest : ∀ r ∈ s.records, test (g r) = test' r) :
    t.inClassOrder test = (s.inClassOrder test').map g := by
  simp only [State.inClassOrder, List.map_flatMap, h, List.filter_map]
  refine congrArg (List.flatMap · _) (funext fun k => congrArg (List.map g) (List.filter_congr fun r hr => ?_))
  simp only [Function.comp, hcls r hr, htest r hr]

theorem noticesOf_map_of_mem {g : Circuit → Circuit} {rs : List Circuit} (hg : ∀ r ∈ rs, (g r).toFixed = r.toFixed)
    (k : NoticeKind) : noticesOf k (rs.map g) = noticesOf k rs := by
  simp only [noticesOf, List.map_map]
  exact List.map_congr_left fun r hr => by simp only [Function.comp, hg r hr]

theorem State.mem_of_mem_inClassOrder {test : Circuit → Bool} (h : r ∈ s.inClassOrder test) : r ∈ s.records := by
  obtain ⟨_, _, h⟩ := List.mem_flatMap.mp h
  exact List.mem_of_mem_filter h

theorem Claim.Leaves.retained_eq (h : c.Leaves p r x) : x.retained = r.retained := by
  unfold Claim.Leaves at h
  obtain ⟨retained, _⟩ := Circuit.kept_iff.mp h.kept_eq
  split at retained
  · exact retained.trans (r.answered_kept c).1
  · exact retained

theorem Claim.Leaves.fixed_eq (h : c.Leaves p r x) : x.toFixed = r.toFixed := by
  obtain ⟨_, fixed, _⟩ := Circuit.retained_iff.mp h.retained_eq
  exact fixed

theorem Claim.Leaves.found (h : c.Leaves p r x) (htag : r.tag = c.tag) (hfar : r.farSlot = p) : (r.answered c).Stays x := by
  rwa [Claim.Leaves, if_pos ⟨htag, hfar⟩] at h

theorem Claim.Leaves.other (h : c.Leaves p r x) (hne : ¬ (r.tag = c.tag ∧ r.farSlot = p)) : r.Stays x := by
  rwa [Claim.Leaves, if_neg hne] at h

/-- What the answer leaves for the sweep. -/
theorem Claim.Leaves.swept_eq (h : c.Leaves p r x) (last : Bool) : (last && (x.farSlot == p && x.orphaned)) =
    (last && r.farSlot == p && r.scopeMark && r.tag != c.tag && r.state != .clashed && r.state != .refused .orphan) := by
  rw [h.fixed_eq]
  by_cases finds : r.tag = c.tag ∧ r.farSlot = p
  · obtain ⟨_, _, _, scope⟩ := Circuit.kept_iff.mp (h.found finds.1 finds.2).kept_eq
    simp [Circuit.orphaned, scope, (r.answered_kept c).2, finds.1]
  · rw [(h.other finds).orphaned_eq]
    by_cases far : r.farSlot = p
    · have tag : (r.tag != c.tag) = true := bne_iff_ne.mpr fun e => finds ⟨e, far⟩
      simp [Circuit.orphaned, Circuit.refusable, far, tag, Bool.and_assoc]
    · simp [beq_eq_false_iff_ne.mpr far]

/-- The notices of the sweep, in the order of the records as they stood before the claim. -/
theorem State.Answers.swept {own : List Notice} (h : s.Answers p v (c.Leaves p) own t) (last : Bool) :
    ∃ g : Circuit → Circuit, t.swept p last = (s.leftOver p c last).map g ∧
      noticesOf (.refused .orphan) (t.swept p last) = noticesOf (.refused .orphan) (s.leftOver p c last) := by
  obtain ⟨g, hg, leaves⟩ := h.records
  have fixed (r : Circuit) (hr : r ∈ s.records) : (g r).toFixed = r.toFixed := (leaves r hr).fixed_eq
  have swept : t.swept p last = (s.leftOver p c last).map g :=
    State.inClassOrder_map_of_mem hg (fun r hr => congrArg Fixed.cls (fixed r hr)) fun r hr => (leaves r hr).swept_eq last
  exact ⟨g, swept, by
    rw [swept]
    exact noticesOf_map_of_mem (fun r hr => fixed r (State.mem_of_mem_inClassOrder hr)) _⟩

/-! ### One claim, answered and counted -/

/-- The answer and the count together (R77, R81, R83). -/
structure State.Takes (p : Nat) (c : Claim) (roll : Bool) (s t : State) : Prop where
  owes : t.owes (.answer p)
  verdicts : (t.peer p).verdicts = (s.peer p).verdicts ++ [{ tag := c.tag, kind := s.verdictOn p c }]
  channel : (t.peer p).channel = (s.peer p).channel.counted roll
  notices : s.notices.length + (s.answerNotices p c).length +
      (s.leftOver p c ((s.peer p).channel.completes roll)).length ≤ 32 → t.notices = s.notices ++ s.answerNotices p c ++
      noticesOf (.refused .orphan) (s.leftOver p c ((s.peer p).channel.completes roll))
  flag : s.leftOver p c ((s.peer p).channel.completes roll) ≠ [] → t.events.has .refusal = true
  unmarked : (s.peer p).channel.completes roll = true → ∀ r ∈ t.records, r.farSlot = p → r.scopeMark = false
  orphaned : (s.peer p).channel.completes roll = true → ∀ r ∈ s.records, r.farSlot = p → r.scopeMark = true →
    r.tag ≠ c.tag → r.state ≠ .clashed → ∃ y ∈ t.records, y.retained = r.retained ∧ y.state = .refused .orphan
  found : ∀ r ∈ s.records, r.tag = c.tag → r.farSlot = p → ∃ y ∈ t.records, (r.answered c).Stays y
  refused : ∀ r ∈ s.records, r.tag = c.tag → r.farSlot = p → claimDiffers c r = true → r.refusable .mismatch = true →
    t.events.has .refusal = true
  missing : (∀ r ∈ s.records, r.tag = c.tag → r.farSlot ≠ p) → (s.peer p).channel.completes roll = false →
    t.records = s.records ∧ t.notices = s.notices

theorem State.takes_claim (ok : s.tableOk) (hp : p < s.peers.length) (c : Claim) (roll : Bool) :
    s.Takes p c roll ((s.answerClaim p c).countIf roll p) := by
  have answers := State.answers_claim ok hp c
  have ok' : (s.answerClaim p c).tableOk := (State.Tends.refl s).answerClaim.tableOk ok
  have counts := State.counts ok' (answers.length ▸ hp) roll
  obtain ⟨w, peer⟩ := answers.peer
  have channel : ((s.answerClaim p c).peer p).channel = (s.peer p).channel := by rw [peer]
  have answered := State.answerClaim_of_missing (p := p) (c := c) ok
  have differs {r : Circuit} (hr : r ∈ s.records) (htag : r.tag = c.tag) (hfar : r.farSlot = p) :=
    (State.answers_found ok hr htag hfar hp).2
  generalize s.answerClaim p c = a at *
  generalize a.countIf roll p = t at *
  obtain ⟨tpeer, owes, records, notices, flag, flags, same⟩ := counts
  rw [channel] at tpeer records notices flag same
  obtain ⟨_, swept, told⟩ := answers.swept ((s.peer p).channel.completes roll)
  obtain ⟨g, hg, leaves⟩ := answers.records
  obtain ⟨g', hg', sweeps⟩ := records
  have mem {r : Circuit} (hr : r ∈ s.records) : g r ∈ a.records := hg ▸ List.mem_map_of_mem hr
  have mem' {x : Circuit} (hx : x ∈ a.records) : g' x ∈ t.records := hg' ▸ List.mem_map_of_mem hx
  refine ⟨owes answers.owes, by rw [tpeer, peer], by rw [tpeer], fun room => ?_, fun some => flag ?_, fun last x hx far => ?_,
    fun last r hr far scope tag live => ?_, fun r hr htag hfar => ?_,
    fun r hr htag hfar hd hm => flags _ (differs hr htag hfar hd hm), fun none unfinished => ?_⟩
  · rw [swept, List.length_map, answers.notices (by omega), List.length_append] at notices
    rw [notices room, ← swept, told]
  · rw [swept]
    simpa using some
  · obtain ⟨y, hy, rfl⟩ := List.mem_map.mp (hg' ▸ hx)
    obtain ⟨_, fixed, _⟩ := Circuit.retained_iff.mp (sweeps y hy).retained_eq
    rw [fixed] at far
    by_cases marked : y.scopeMark = true
    · obtain ⟨_, scope, _⟩ := (sweeps y hy).1 ⟨last, far, marked⟩
      exact scope
    · obtain ⟨_, _, _, scope⟩ := Circuit.kept_iff.mp ((sweeps y hy).2 fun ⟨_, _, on⟩ => marked on).kept_eq
      rw [scope]
      simpa using marked
  · have stays := (leaves r hr).other fun h => tag h.1
    obtain ⟨retained, _, _, kept⟩ := Circuit.kept_iff.mp stays.kept_eq
    have fixed := (leaves r hr).fixed_eq
    obtain ⟨retained', _, state⟩ := (sweeps _ (mem hr)).1 ⟨last, by rw [fixed]; exact far, kept.trans scope⟩
    refine ⟨_, mem' (mem hr), retained'.trans retained, ?_⟩
    rw [state, if_neg (mt stays.clashed_iff.mp live)]
  · have stays := (leaves r hr).found htag hfar
    obtain ⟨_, _, _, kept⟩ := Circuit.kept_iff.mp stays.kept_eq
    refine ⟨_, mem' (mem hr), stays.trans ((sweeps _ (mem hr)).2 fun ⟨_, _, marked⟩ => ?_)⟩
    rw [kept, (r.answered_kept c).2] at marked
    cases marked
  · obtain ⟨eq, _⟩ := answered none
    obtain ⟨records, _, _, _, notices⟩ := State.appendVerdict_frame p { tag := c.tag, kind := s.verdictOn p c } s
    obtain ⟨records', notices'⟩ := same unfinished
    rw [eq] at records' notices'
    exact ⟨records'.trans records, notices'.trans notices⟩

/-! ### The verdict, case by case (R81) -/

theorem State.verdictOn_of_none (none : ∀ r ∈ s.records, r.tag ≠ c.tag) : s.verdictOn p c = .unknown := by
  simp [State.verdictOn, State.findTowards, State.findTag_eq_none none]

theorem State.verdictOn_of_far (ok : s.tableOk) (hr : r ∈ s.records) (htag : r.tag = c.tag) (hfar : r.farSlot ≠ p) :
    s.verdictOn p c = .mismatch := by
  have found : s.findTag c.tag = some r := htag ▸ State.findTag_eq_some ok hr
  simp [State.verdictOn, State.findTowards, found, hfar]

theorem State.verdictOn_of_found (ok : s.tableOk) (hr : r ∈ s.records) (htag : r.tag = c.tag) (hfar : r.farSlot = p) :
    s.verdictOn p c = r.verdictOn c ∧ s.answerNotices p c = r.answerNotices c := by
  rw [State.verdictOn, State.answerNotices, State.findTowards_of_mem ok hr htag hfar]
  exact ⟨rfl, rfl⟩

theorem claimDiffers_iff (c : Claim) (r : Circuit) : claimDiffers c r = true ↔
    c.claimerPort ≠ r.farPort ∨ c.addresseePort ≠ r.localPort ∨ c.lane ∉ r.lanes := by
  have lanes : r.holdsLane c.lane = true ↔ c.lane ∈ r.lanes := by
    rw [Circuit.holdsLane, Circuit.lanes, List.mem_cons, Option.mem_toList, Bool.or_eq_true, beq_iff_eq, beq_iff_eq,
      @eq_comm _ r.primary]
  rw [← lanes]
  simp [claimDiffers, or_assoc]

/-- The lane of an ACCEPT: STANDBY is chosen only where there is a standby lane (R29). -/
theorem Circuit.lane_converge (hr : r.inRange) (c : Claim) : ({ r with inUse := converge c r } : Circuit).lane =
    if converge c r = .primary then r.primary else r.standby.getD 0 := by
  cases e : converge c r with
  | primary => rfl
  | standby =>
    obtain ⟨l, hl⟩ := Option.isSome_iff_exists.mp (converge_standby hr e)
    simp [Circuit.lane, hl]

/-- The record that a claim differs from (R31). -/
theorem Circuit.stays_answered_differs (hd : claimDiffers c r = true) (h : (r.answered c).Stays y) :
    y.retained = r.retained ∧ y.scopeMark = false ∧ (r.state = .clashed → y.state = .clashed) ∧
      (r.state ≠ .clashed → y.state = .refused .mismatch) := by
  have state : (r.answered c).state = if r.state = .clashed then .clashed else .refused .mismatch := by
    rw [Circuit.answered, if_pos hd]
    split
    case isTrue refusable => rw [if_neg (Circuit.refusable_iff.mp refusable).1]; rfl
    case isFalse settled =>
      split
      · assumption
      · by_contra hne
        exact settled (Circuit.refusable_iff.mpr ⟨‹_›, hne⟩)
  have away : (r.answered c).state ≠ .confirmed := by
    rw [state]
    split <;> simp
  obtain rfl := h.eq away
  obtain ⟨retained, scope⟩ := r.answered_kept c
  exact ⟨retained, scope, fun e => by rw [state, if_pos e], fun e => by rw [state, if_neg e]⟩

/-- The record that it matches (R30). -/
theorem Circuit.stays_answered_matches (hd : ¬ claimDiffers c r = true) (h : (r.answered c).Stays y) :
    y.retained = r.retained ∧ y.scopeMark = false ∧ (r.state = .clashed → y.state = .clashed ∧ y.inUse = r.inUse) ∧
      (r.state ≠ .clashed → y.inUse = converge c r ∧
        if converge c r = r.inUse ∧ (r.state.isProbing = true ∨ r.state.isOpen = true) then y.state = r.state
        else y.state = .confirmed ∨ y.state.isProbing = true) := by
  obtain ⟨retained, _, _, scope⟩ := Circuit.kept_iff.mp h.kept_eq
  refine ⟨retained.trans (r.answered_kept c).1, scope.trans (r.answered_kept c).2, fun clashed => ?_, fun live => ?_⟩
  · rw [Circuit.answered, if_neg hd, if_pos clashed] at h
    rw [h.eq (by simp [clashed])]
    exact ⟨clashed, rfl⟩
  · rw [Circuit.answered, if_neg hd, if_neg live] at h
    exact Circuit.stays_onLane (r := { r with scopeMark := false }) live h

/-! ### Several claims (R80) -/

theorem State.takeOffer_of_room {cs : List Claim} (room : s.backlog p + cs.length ≤ 16) :
    s.takeOffer p roll cs = s.each cs (fun c s => s.takeClaim p roll c) := if_pos room

theorem State.takeOffer_of_full {cs : List Claim} (full : 16 < s.backlog p + cs.length) :
    s.takeOffer p roll cs = s.overrun p := if_neg (not_le.mpr full)

theorem satSucc_eq_min (top n : Nat) : satSucc top n = min top (n + 1) := by
  unfold satSucc
  split <;> omega

theorem State.takeClaim_of_running (hrun : s.running = true) (c : Claim) (roll : Bool) (p : Nat) :
    s.takeClaim p roll c = (s.answerClaim p c).countIf roll p := by
  have here : s.ctl.st ≠ .setup := by rcases s.running_iff.mp hrun with e | e <;> simp [e]
  exact if_neg here

/-- In SETUP every claim is answered WAIT (R81, case 1). -/
theorem State.waits_each (hst : s.ctl.st = .setup) (hp : p < s.peers.length) (cs : List Claim) :
    let t := s.each cs (fun c s => s.takeClaim p roll c)
    (t.peer p).verdicts = (s.peer p).verdicts ++ cs.map (fun c => ({ tag := c.tag, kind := .wait } : Verdict)) ∧
      (cs ≠ [] ∨ s.owes (.answer p) → t.owes (.answer p)) ∧ t.records = s.records ∧ t.store = s.store ∧
      t.notices = s.notices ∧ t.events = s.events := by
  induction cs generalizing s with
  | nil => exact ⟨(List.append_nil _).symm, fun h => h.resolve_left (· rfl), rfl, rfl, rfl, rfl⟩
  | cons c cs ih =>
    have first : s.takeClaim p roll c = s.appendVerdict p { tag := c.tag, kind := .wait } := if_pos hst
    obtain ⟨records, store, ctl, events, notices⟩ := State.appendVerdict_frame p { tag := c.tag, kind := .wait } s
    obtain ⟨w, peer⟩ := State.peer_appendVerdict hp { tag := c.tag, kind := .wait }
    have owes := State.owes_appendVerdict hp { tag := c.tag, kind := .wait }
    obtain ⟨verdicts, owes', records', store', notices', events'⟩ := ih (s := s.appendVerdict p { tag := c.tag, kind := .wait })
      (ctl ▸ hst) (by rwa [State.length_appendVerdict])
    have all : s.each (c :: cs) (fun c s => s.takeClaim p roll c) =
        (s.appendVerdict p { tag := c.tag, kind := .wait }).each cs (fun c s => s.takeClaim p roll c) := by
      rw [← first]
      rfl
    dsimp only
    rw [all]
    refine ⟨?_, fun _ => owes' (.inr owes), records'.trans records, store'.trans store, notices'.trans notices,
      events'.trans events⟩
    rw [verdicts, peer, List.map_cons, List.append_assoc]
    rfl

/-- An OFFER of several claims, one claim at a time. -/
theorem exec_offerReceived_cons {ds : List Claim} (ok : s.tableOk) (h : s.hears f) (hrun : s.running = true)
    (hdst : f.dst = s.ctl.slot) (hne : f.dst ≠ 31) (some : ds ≠ []) (few : (c :: ds).length ≤ 8)
    (fits : ∀ x ∈ c :: ds, x.fits) (room : (s.peer f.src).verdicts.length + (c :: ds).length ≤ 16)
    (first : exec (.offerReceived { f with payload := offerPayload roll [c] }) s = .next u) :
    exec (.offerReceived { f with payload := offerPayload roll (c :: ds) }) s =
      exec (.offerReceived { f with payload := offerPayload roll ds }) u := by
  obtain ⟨fitsC, fitsDs⟩ := List.forall_mem_cons.mp fits
  obtain ⟨_, _, _, _, present, _⟩ := id h
  rw [List.length_cons] at few room
  have length : 1 ≤ ds.length := List.length_pos_of_ne_nil some
  have backlog : (s.refreshed f).backlog f.src = (s.peer f.src).verdicts.length := by
    rw [State.backlog, State.peer_refreshed_src present]
  have hearsAgain := State.hears_refreshed ok h (State.awake_of_running hrun)
  have heeds : (s.refreshed f).Heeds ((s.refreshed f).takeClaim f.src roll c) :=
    State.heeds_takeClaim (s := s.refreshed f) ok f.src roll c
  have grows := State.backlog_takeClaim f.src roll c (s.refreshed f)
  have hu : u = (s.refreshed f).takeClaim f.src roll c := by
    have taken := exec_offerReceived (f := { f with payload := offerPayload roll [c] }) h (.inl hrun) hdst hne
      (readOffer_offerPayload roll (by simpa using fitsC) le_rfl (by simp))
    have one : ((s.refreshed f).takeOffer f.src roll [c]) = (s.refreshed f).takeClaim f.src roll c :=
      State.takeOffer_of_room (by rw [backlog]; simp; omega)
    exact Host.Outcome.next.inj (first.symm.trans (taken.trans (congrArg Host.Outcome.next one)))
  rw [← hu] at heeds grows
  have run : u.running = true := heeds.running.trans hrun
  have slot : u.ctl.slot = s.ctl.slot := heeds.ctl_congr Station.slot fun _ _ => rfl
  have hears : u.hears f := heeds.hears hearsAgain (State.ne_starting_of_running hrun)
  have again : u.refreshed f = u := heeds.refreshed present
  rw [exec_offerReceived (f := { f with payload := offerPayload roll (c :: ds) }) h (.inl hrun) hdst hne
      (readOffer_offerPayload roll fits (by simp) (by simpa using few)),
    exec_offerReceived (f := { f with payload := offerPayload roll ds }) hears (.inl run) (slot ▸ hdst) hne
      (readOffer_offerPayload roll fitsDs length (by omega))]
  have same : u.refreshed { f with payload := offerPayload roll ds } = u := again
  have all : (s.refreshed f).takeOffer f.src roll (c :: ds) =
      (s.refreshed f).each (c :: ds) (fun c s => s.takeClaim f.src roll c) :=
    State.takeOffer_of_room (by rw [backlog, List.length_cons]; exact room)
  have rest : u.takeOffer f.src roll ds = u.each ds (fun c s => s.takeClaim f.src roll c) :=
    State.takeOffer_of_room (by omega)
  rw [same]
  refine congrArg Host.Outcome.next (all.trans (Eq.trans ?_ rest.symm))
  rw [hu]
  rfl

end Sys2Proof.Machine

open Sys2Proof Sys2Proof.Machine

/-- Settles O47: the room check, the WAIT of SETUP, the claims one by one, and one claim answered and counted. -/
theorem offerAnswered : Obligations.OfferAnswered := by
  intro f roll cs s ok h hdst hne hlo hhi fits payload p x
  obtain ⟨_, _, _, _, present, _⟩ := id h
  have peer : (s.refreshed f).peer p = { x with sinceHeard := 0 } := State.peer_refreshed_src present
  have hp : p < (s.refreshed f).peers.length := by
    simpa [State.refreshed] using State.lt_of_present present
  have backlog : (s.refreshed f).backlog p = x.verdicts.length := by rw [State.backlog, peer]
  have read : readOffer f.payload = some (roll, cs) := payload ▸ readOffer_offerPayload roll fits hlo hhi
  have same : f = { f with payload := offerPayload roll cs } := by rw [← payload]
  refine ⟨fun edits full => ?_, fun hst room => ?_, fun c ds u hrun hcs some room first => ?_, ?_⟩
  · have takes : s.running = true ∨ s.ctl.st = .setup := edits.symm.imp s.running_iff.mpr id
    rw [exec_offerReceived h takes hdst hne read, State.takeOffer_of_full (by rwa [backlog])]
    have peers : (s.refreshed f).peers.set p
        { (s.refreshed f).peer p with overrun := satSucc 255 ((s.refreshed f).peer p).overrun } =
        s.peers.set p { x with sinceHeard := 0, overrun := min 255 (x.overrun + 1) } := by
      rw [peer, satSucc_eq_min]
      exact List.set_set ..
    exact congrArg (fun ps => Host.Outcome.next { s.refreshed f with peers := ps }) peers
  · rw [exec_offerReceived h (.inr hst) hdst hne read, State.takeOffer_of_room (by rwa [backlog])]
    obtain ⟨verdicts, owes, records, store, notices, events⟩ :=
      State.waits_each (s := s.refreshed f) (roll := roll) hst hp cs
    refine ⟨_, rfl, ?_, owes (.inl (List.ne_nil_of_length_pos hlo)), records, store, notices, events⟩
    rw [verdicts, peer]
  · subst hcs
    rw [same]
    exact exec_offerReceived_cons ok h hrun hdst hne some hhi fits room first
  intro c hrun room hcs completes orphans
  subst hcs
  have taken := exec_offerReceived h (.inl hrun) hdst hne read
  rw [State.takeOffer_of_room (by rw [backlog]; exact room)] at taken
  have claim : (s.refreshed f).each [c] (fun c s => s.takeClaim p roll c) =
      ((s.refreshed f).answerClaim p c).countIf roll p := State.takeClaim_of_running (s := s.refreshed f) hrun c roll p
  have ok' : (s.refreshed f).tableOk := ok
  have takes := State.takes_claim ok' hp c roll
  rw [← claim] at takes
  obtain ⟨owes, verdicts, channel, notices, flag, unmarked, orphaned, found, refused, missing⟩ := takes
  rw [peer] at verdicts channel notices flag unmarked orphaned missing
  have told {own : List Notice} (e : (s.refreshed f).answerNotices p c = own) :
      s.notices.length + own.length + orphans.length ≤ 32 → _ = s.notices ++ own ++ noticesOf (.refused .orphan) orphans :=
    e ▸ notices
  refine ⟨_, (s.refreshed f).verdictOn p c, taken, owes, verdicts, channel, fun last => ⟨unmarked last, orphaned last⟩, flag,
    fun none => ?_, fun r hr htag => ?_⟩
  · have away : ∀ r ∈ s.records, r.tag = c.tag → r.farSlot ≠ p := fun r hr e => absurd e (none r hr)
    exact ⟨State.verdictOn_of_none none, told (State.answerClaim_of_missing ok' away).2, missing away⟩
  intro differs u own
  refine ⟨fun hfar => ?_, fun hfar hd => ?_, fun hfar hd => ?_⟩
  · have away : ∀ y ∈ s.records, y.tag = c.tag → y.farSlot ≠ p := fun y hy e =>
      (ok.tag_eq_iff hy hr).mp (e.trans htag.symm) ▸ hfar
    exact ⟨State.verdictOn_of_far ok' hr htag hfar, told (State.answerClaim_of_missing ok' away).2, missing away⟩
  · have hd : claimDiffers c r = true := (claimDiffers_iff c r).mpr hd
    obtain ⟨verdict, list⟩ := State.verdictOn_of_found ok' hr htag hfar
    obtain ⟨y, hy, stays⟩ := found r hr htag hfar
    obtain ⟨retained, scope, clashed, refusal⟩ := Circuit.stays_answered_differs hd stays
    refine ⟨verdict.trans (if_pos hd), y, hy, retained, scope, clashed, refusal, fun live new => ?_, fun settled => told ?_⟩
    · have refusable : r.refusable .mismatch = true := Circuit.refusable_iff.mpr ⟨live, new⟩
      exact ⟨refused r hr htag hfar hd refusable, told (list.trans ((if_pos hd).trans (if_pos refusable)))⟩
    · refine list.trans ((if_pos hd).trans (if_neg fun refusable => ?_))
      obtain ⟨live, new⟩ := Circuit.refusable_iff.mp refusable
      exact settled.elim live new
  · have hd : ¬ claimDiffers c r = true := mt (claimDiffers_iff c r).mp hd
    obtain ⟨verdict, list⟩ := State.verdictOn_of_found ok' hr htag hfar
    obtain ⟨y, hy, stays⟩ := found r hr htag hfar
    obtain ⟨retained, scope, clashed, agreed⟩ := Circuit.stays_answered_matches hd stays
    refine ⟨y, hy, retained, scope, fun still => ?_, fun live => ?_⟩
    · obtain ⟨state, lane⟩ := clashed still
      exact ⟨verdict.trans ((if_neg hd).trans (if_pos still)), state, lane,
        told (list.trans ((if_neg hd).trans (if_pos (.inl still))))⟩
    · obtain ⟨lane, state⟩ := agreed live
      refine ⟨verdict.trans ((if_neg hd).trans ((if_neg live).trans ?_)), lane, state, told (list.trans ((if_neg hd).trans ?_))⟩
      · exact congrArg VerdictKind.accept (Circuit.lane_converge (ok.inRange hr) c)
      · simp only [live, false_or]
        rfl
end

section
/-! PROOF. The restore order and the pacing (O34, O35, O36, O18): the candidate, what an expiry grants and opens, and the
commands SET PACE and STEP. -/

namespace Sys2Proof.Machine

section Pacing

variable {s t : State} {r : Circuit}

/-! ### The class barrier and the candidate (R90, R91) -/

theorem Relink.holds_iff (x : Relink) : x.holds = true ↔ x = .parked ∨ x = .offered ∨ x = .confirmed := by
  cases x <;> simp [Relink.holds]

/-- The barrier is the lowest class with a record that holds it (R90). -/
theorem State.barrier_eq_some (classes : ∀ x ∈ s.records, x.cls ≤ 3) (c : Nat) : s.barrier = some c ↔
    (∃ x ∈ s.records, x.cls = c ∧ x.state.holds = true) ∧ ∀ x ∈ s.records, x.state.holds = true → c ≤ x.cls := by
  have held (d : Nat) : (s.classList d).any (fun x => x.state.holds) = true ↔
      ∃ x ∈ s.records, x.cls = d ∧ x.state.holds = true := by
    simp [State.classList]
  have lowest : s.barrier = (List.range 4).find? (fun d => (s.classList d).any (fun x => x.state.holds)) := rfl
  simp only [lowest, List.find?_range_eq_some, Bool.not_eq_true', ← Bool.not_eq_true, held, List.mem_range]
  constructor
  · rintro ⟨holder, _, below⟩
    exact ⟨holder, fun x hx hst => Nat.not_lt.mp fun lt => below x.cls lt ⟨x, hx, rfl, hst⟩⟩
  · rintro ⟨⟨x, hx, rfl, hst⟩, least⟩
    refine ⟨⟨x, hx, rfl, hst⟩, Nat.lt_succ_of_le (classes x hx), fun d lt ⟨y, hy, hcls, held⟩ => ?_⟩
    exact absurd (least y hy held) (Nat.not_le.mpr (hcls ▸ lt))

/-- The head-most CONFIRMED record of a class list, by its place in the order of provisioning (R5). -/
theorem State.first_confirmed_iff (c : Nat) : (s.classList c).find? (fun x => x.state == .confirmed) = some r ↔
    (r.cls = c ∧ r.state = .confirmed) ∧ ∃ before after, s.records = before ++ r :: after ∧
      ∀ x ∈ before, x.cls = c → x.state ≠ .confirmed := by
  rw [State.classList, List.find?_filter, List.find?_eq_some_iff_append]
  simp [imp_iff_not_or]

theorem State.candidate_iff : s.candidate = some r ↔
    s.barrier = some r.cls ∧ (s.classList r.cls).find? (fun x => x.state == .confirmed) = some r := by
  unfold State.candidate
  cases s.barrier with
  | none => simp
  | some c =>
    rw [Option.some_inj]
    refine ⟨fun first => ?_, fun ⟨hc, first⟩ => hc ▸ first⟩
    obtain ⟨⟨rfl, _⟩, _⟩ := (State.first_confirmed_iff c).mp first
    exact ⟨rfl, first⟩

/-- Where no record is CONFIRMED there is no candidate (R91). -/
theorem State.candidate_eq_none (h : ∀ x ∈ s.records, x.state ≠ .confirmed) : s.candidate = none :=
  Option.eq_none_iff_forall_ne_some.mpr fun _ hc => h _ (State.mem_of_candidate hc) (State.candidate_confirmed hc)

/-! ### The grant (R102 to R107) -/

/-- The grant, with a headroom of 0 at and below the floor (R102, R103). -/
theorem State.grant_eq (s : State) : s.grant =
    min s.store.settings.burst ((s.supply.sample - s.store.settings.floor) * s.store.settings.slope / 8) := by
  have headroom : headroomOf s.store.settings s.supply.sample = s.supply.sample - s.store.settings.floor := by
    unfold headroomOf
    split <;> omega
  rw [State.grant, headroom]

/-- What an expiry leaves before its attempt: the grant added, capped, and the timer restarted or stopped (R104, R106,
R107). -/
def State.granted (s : State) : State :=
  { s with seq := { s.seq with
      allowance := min (2 * s.store.settings.burst) (s.seq.allowance +
        min s.store.settings.burst ((s.supply.sample - s.store.settings.floor) * s.store.settings.slope / 8))
      timer := if s.seq.mode = .continuous then .running s.store.settings.reload else .stopped } }

/-- An expiry in a running station with a RUNNING timer (R104, R106, R107). -/
theorem State.expirePace_of_running {n : Nat} (hrun : s.running = true) (timer : s.seq.timer = .running n) :
    s.expirePace = s.granted.settleChange true := by
  rw [State.granted, ← State.grant_eq]
  cases mode : s.seq.mode <;>
    simp [State.expirePace, hrun, timer, PaceTimer.isRunning, mode, State.credit, State.cap, State.startCount,
      State.stopTimer]

/-- Elsewhere there is none (R104). -/
theorem State.expirePace_of_idle (h : s.running = false ∨ s.seq.timer = .stopped) : s.expirePace = s := by
  unfold State.expirePace
  rcases h with h | h <;> simp [h, PaceTimer.isRunning]

theorem exec_paceExpiry (calm : s.calm) : exec .paceExpiry s = .next s.expirePace :=
  congrArg (fun u => Host.Outcome.next (State.expirePace u)) (State.settle_of_calm calm)

/-- The grant keeps the agreement of the allowance with the probes (R97). -/
theorem State.Agrees.granted {P : Prop} {φ : Phase} (h : s.Agrees P φ none) (hrun : φ.Running) :
    s.granted.Agrees P φ none :=
  (h.credit hrun.not_fresh s.grant).frame (by
    rw [State.granted, ← State.grant_eq]
    rfl)

/-- With no candidate and RELINK not at its end, nothing follows (R92, R156). -/
theorem State.settleChange_of_no_candidate (hc : s.candidate = none) (unended : s.relinkDone = false) (cause : Bool) :
    s.settleChange cause = s := by
  have judged : s.judgeEnd = s := by simp [State.judgeEnd, unended]
  have turns : s.attemptTurns 4 = s := by simp [State.attemptTurns, hc]
  rcases s.settleChange_cases cause with e | e
  · rw [e, judged]
  · rw [e, turns, judged]

/-! ### What an attempt opens (R92, R93, R115) -/

/-- The probe window of a record at a slot: the talk half of its in-use lane, and sixteen frames (R115). -/
def Circuit.window (own k : Nat) (r : Circuit) : Probe :=
  { slot := k, place := r.place, lane := r.lane, half := talkHalf own r, remaining := 16, seen := false }

/-- The record was CONFIRMED in `s` and is PROBING in `t`, at a slot with a full window (R93, R115). -/
def State.Opened (s t : State) (r : Circuit) : Prop :=
  ∃ x ∈ s.records, x.state = .confirmed ∧ ∃ k, r = x.enter (.probing k) false 0 ∧ x.window s.ctl.slot k ∈ t.hw.probes

theorem State.startProbe_probes (r : Circuit) (k : Nat) (s : State) :
    (s.startProbe r k).hw.probes = s.hw.probes ++ [r.window s.ctl.slot k] := by
  simp [State.startProbe, Circuit.window]

/-- A probe that starts changes the record of its candidate, and no other (R92). -/
theorem State.mem_startProbe {k : Nat} (places : (s.records.map (·.place)).Nodup) (hc : s.candidate = some r) {y : Circuit}
    (hy : y ∈ (s.startProbe r k).records) : y ∈ s.records ∨ y = r.enter (.probing k) false 0 := by
  have started : (s.startProbe r k).records = s.records.map
      (fun x => if x.place = r.place then x.enter (.probing k) false 0 else x) :=
    (State.enter_of_ne (by simp) r.place).1
  obtain ⟨x, hx, rfl⟩ := List.mem_map.mp (started ▸ hy)
  split
  · rename_i e
    obtain rfl : x = r := List.inj_on_of_nodup_map places hx (State.mem_of_candidate hc) e
    exact .inr rfl
  · exact .inl hx

/-- An attempt frees no slot. -/
theorem State.attemptTurns_probes_subset (n : Nat) : s.hw.probes ⊆ (s.attemptTurns n).hw.probes := by
  induction n generalizing s with
  | zero => exact fun _ hp => hp
  | succ n ih =>
    unfold State.attemptTurns
    split
    · rename_i r k _ _
      split
      · refine fun p hp => ih ?_
        rw [State.startProbe_probes]
        exact List.mem_append_left _ hp
      · exact fun _ hp => hp
    · exact fun _ hp => hp

/-- Every record after an attempt is as it was, or was opened by it (R92, R93). -/
theorem State.mem_or_opened_attemptTurns (places : (s.records.map (·.place)).Nodup) (n : Nat) {y : Circuit}
    (hy : y ∈ (s.attemptTurns n).records) : y ∈ s.records ∨ s.Opened (s.attemptTurns n) y := by
  induction n generalizing s with
  | zero => exact .inl hy
  | succ n ih =>
    unfold State.attemptTurns at hy ⊢
    split at hy
    case h_2 => exact .inl hy
    case h_1 r k hc hk =>
      split at hy
      case isFalse => exact .inl hy
      case isTrue fits =>
        simp only [if_pos fits]
        rcases ih (State.startProbe_map (fun x => x.place) (fun _ _ => rfl) r k s ▸ places) hy with
          hy | ⟨x, hx, hst, j, rfl, hwindow⟩
        · refine (State.mem_startProbe places hc hy).imp id fun e => ?_
          refine ⟨r, State.mem_of_candidate hc, State.candidate_confirmed hc, k, e, ?_⟩
          exact State.attemptTurns_probes_subset n (by rw [State.startProbe_probes]; simp)
        · refine .inr ⟨x, (State.mem_startProbe places hc hx).resolve_right fun e => ?_, hst, j, rfl, ?_⟩
          · rw [e] at hst
            cases hst
          · simpa using hwindow

/-- What an attempt opens, the judgement of the end of RELINK leaves (R156). -/
theorem State.mem_or_opened_settleChange (places : (s.records.map (·.place)).Nodup) (cause : Bool) {y : Circuit}
    (hy : y ∈ (s.settleChange cause).records) : y ∈ s.records ∨ s.Opened (s.settleChange cause) y := by
  rcases s.settleChange_cases cause with e | e <;> rw [e, (State.judgeEnd_keeps _).1] at hy
  · exact .inl hy
  · rw [e]
    simpa only [State.Opened, State.judgeEnd_keeps] using State.mem_or_opened_attemptTurns places 4 hy

/-! ### SET PACE and STEP (R107 to R109, R177) -/

theorem stepGate_of_running (h : s.running = true) : CardCommand.stepPace.gate s.ctl.st = none := by
  rcases s.running_iff.mp h with h | h <;> rw [h] <;> rfl

/-- A SET PACE taken, in one piece (R108, R109). -/
theorem State.takeSetPace_eq (reload : Nat) (mode : PaceMode) (s : State) : s.takeSetPace reload mode =
    { s.writeSettings { s.store.settings with reload := clampReload reload } with
      seq := { s.seq with
        mode := mode
        timer := if s.seq.mode = .step ∧ mode = .continuous ∧ s.running = true ∧ s.seq.timer = .stopped
          then .running (clampReload reload) else s.seq.timer } } := by
  unfold State.takeSetPace
  split <;> rfl

theorem PaceTimer.isRunning_iff (x : PaceTimer) : x.isRunning = true ↔ x ≠ .stopped := by
  cases x <;> simp [PaceTimer.isRunning]

theorem State.doSetPace_range {reload mode : Nat} (h : 1023 < reload ∨ 1 < mode) :
    s.doSetPace reload mode = .refuse .range [] := if_pos h

theorem State.doSetPace_taken {reload mode : Nat} (hr : reload ≤ 1023) (hm : mode ≤ 1) : s.doSetPace reload mode =
    let t := s.takeSetPace reload (if mode = 1 then .step else .continuous)
    .take t (wordBytes (clampReload reload) ++ [byteOf mode, if t.seq.timer = .stopped then 0x00 else 0x01]) := by
  simp only [State.doSetPace, if_neg (show ¬ (1023 < reload ∨ 1 < mode) by omega), PaceTimer.isRunning_iff, ne_eq, ite_not]

theorem State.doStep_continuous (h : s.seq.mode = .continuous) : s.doStep = .refuse .state [] := by
  simp [State.doStep, h]

theorem State.doStep_stopped (h : s.seq.mode = .step) (timer : s.seq.timer = .stopped) :
    s.doStep = .take s.startCount [0x00] := by
  simp [State.doStep, h, timer, PaceTimer.isRunning]

theorem State.doStep_counting {n : Nat} (h : s.seq.mode = .step) (timer : s.seq.timer = .running n) :
    s.doStep = .take s [0x01] := by
  simp [State.doStep, h, timer, PaceTimer.isRunning]

end Pacing

end Sys2Proof.Machine

open Sys2Proof Sys2Proof.Machine

/-- Settles O34: the barrier is the class of the candidate, and in its list the candidate is the first. -/
theorem candidateIsFirst : Obligations.CandidateIsFirst := by
  intro s classes r
  simp only [State.candidate_iff, State.barrier_eq_some classes, State.first_confirmed_iff, ← Relink.holds_iff,
    true_and]
  constructor
  · rintro ⟨⟨_, least⟩, confirmed, before, after, parts, first⟩
    exact ⟨before, after, parts, confirmed, first, least⟩
  · rintro ⟨before, after, parts, confirmed, first, least⟩
    have hr : r ∈ s.records := by simp [parts]
    exact ⟨⟨⟨r, hr, rfl, by rw [confirmed]; rfl⟩, least⟩, confirmed, before, after, parts, first⟩

/-- Settles O36: the grant, then the attempt, which moves weight from the allowance to the probes. -/
theorem attemptLeavesNothingThatFits : Obligations.AttemptLeavesNothingThatFits := by
  intro n s safe calm hrun timer
  have places := safe.table.places
  have agrees : s.Agrees False s.phase none := (State.agrees_iff places).mpr ⟨safe.pace, safe.probes, False.elim⟩
  obtain ⟨exhausted, conserved⟩ := (agrees.granted (s.phase_running_iff.mpr hrun)).settleChange_attempt
    (State.phase_congr rfl) places hrun
  rw [exec_paceExpiry calm, State.expirePace_of_running hrun timer]
  refine ⟨_, rfl, exhausted, conserved, fun r hr => ?_, State.settleChange_map Circuit.retained fun _ _ => rfl,
    by simp [State.granted], State.settleChange_store true s.granted⟩
  refine (State.mem_or_opened_settleChange (s := s.granted) places true hr).imp id ?_
  rintro ⟨x, hx, confirmed, k, rfl, window⟩
  exact ⟨x, hx, confirmed, rfl, rfl, k, rfl, window⟩

/-- Settles O18: each refusal by its check, and what is taken on the state that the end of the transfer leaves. -/
theorem paceCommands : Obligations.PaceCommands := by
  intro k s ready
  refine ⟨fun reload mode hedits => ⟨fun bad => ?_, fun hr hm => ?_⟩, fun hrun => ⟨fun mode => ?_, fun mode timer => ?_,
    fun n mode timer => ?_⟩⟩
  · exact cardRow_refused ready (.setPace reload mode) k (editGate_of_edits hedits) (State.doSetPace_range bad)
  · have taken := cardRow_taken ready (.setPace reload mode) k (editGate_of_edits hedits) (State.doSetPace_taken hr hm)
    rw [State.takeSetPace_eq] at taken
    exact ⟨_, _, taken, State.closeEdit_sumZero _, rfl⟩
  · exact cardRow_refused ready .stepPace k (stepGate_of_running hrun) (State.doStep_continuous mode)
  · exact cardRow_taken ready .stepPace k (stepGate_of_running hrun) (State.doStep_stopped mode timer)
  · exact cardRow_taken ready .stepPace k (stepGate_of_running hrun) (State.doStep_counting mode timer)

/-- Settles O35: with nothing to open and RELINK not at its end, an expiry is its grant. -/
theorem paceExpiryGrants : Obligations.PaceExpiryGrants := by
  intro s calm
  rw [exec_paceExpiry calm]
  refine ⟨fun idle => by rw [State.expirePace_of_idle idle], fun n hrun timer unconfirmed unended => ?_⟩
  rw [State.expirePace_of_running hrun timer]
  exact congrArg Host.Outcome.next
    (State.settleChange_of_no_candidate (s := s.granted) (State.candidate_eq_none unconfirmed) unended true)

end

section
/-! PROOF. The highway frame (O39): the gates in class order, and the echo watch of one gate. -/

namespace Sys2Proof.Machine

section Highway

variable {s : State}

/-- Class order, cut down by a test, is the four class lists one after another (R5). -/
theorem State.classOrder_filter (test : Circuit → Bool) (s : State) : s.classOrder.filter test = s.inClassOrder test := by
  have list (c : Nat) : (s.classList c).filter test = s.records.filter (fun r => r.cls == c && test r) := by
    rw [State.classList, List.filter_filter]
    exact List.filter_congr fun r _ => Bool.and_comm ..
  have range : List.range 4 = [0, 1, 2, 3] := by decide
  rw [State.classOrder, State.inClassOrder, range]
  simp only [List.filter_append, list, List.flatMap_cons, List.flatMap_nil, List.append_nil, List.append_assoc]

theorem State.gates_eq (s : State) : s.gates = s.inClassOrder (fun r => r.state.isOpen) :=
  State.classOrder_filter (fun r => r.state.isOpen) s

/-- The echo watch of a record: only a gate has a run, and a half that no other card drives matches (R121). -/
theorem Circuit.watch_eq (own : Nat) (h : HighwayInput) (r : Circuit) : r.watch own h =
    match r.state with
    | .opened n =>
      let clash := match carriedOn h r.lane (talkHalf own r) with
        | some x => x != sentFrom h r.localPort
        | none => false
      { r with state := .opened (if clash = true then (if n < 3 then n + 1 else 3) else 0) }
    | _ => r := by
  unfold Circuit.watch
  cases r.state with
  | opened n => unfold mismatched; cases carriedOn h r.lane (talkHalf own r) <;> rfl
  | _ => rfl

theorem exec_highwayFrame (calm : s.calm) (h : HighwayInput) : exec (.highwayFrame h) s = .next (s.highwayFrame h) :=
  congrArg (fun t => Host.Outcome.next (State.highwayFrame h t)) (State.settle_of_calm calm)

end Highway

end Sys2Proof.Machine

open Sys2Proof Sys2Proof.Machine

/-- Settles O39: the gates are the OPEN records in class order, and each record is changed by its own echo watch. -/
theorem highwayFrameWatches : Obligations.HighwayFrameWatches := by
  intro h s calm carried sent talk listen gates
  have watch : Circuit.watch s.ctl.slot h = _ := funext (Circuit.watch_eq s.ctl.slot h)
  rw [exec_highwayFrame calm, State.highwayFrame, watch, State.gates_eq]
  rfl

end

section
/-! PROOF. UNMUTE (O20): the lamp is judged by nothing of the card port. -/

namespace Sys2Proof.Machine

theorem unmuteGate_of_started {s : State} (h : s.ctl.st ≠ .starting) : CardCommand.unmute.gate s.ctl.st = none := by
  cases hst : s.ctl.st with
  | starting => exact absurd hst h
  | strapFault | setup | relink | service | quiesce => rfl

/-- The lamp and a response do not meet: judging the one before or after the other is the same. -/
theorem State.respond_judgeLamp (n : Nat) (code : Byte) (r : ResultCode) (p : List Byte) (s : State) :
    (s.endTransfer n).judgeLamp.respond code r p = s.judgeLamp.answered n code r p := by
  have target : (s.endTransfer n).lampTarget = s.lampTarget := rfl
  unfold State.judgeLamp
  rw [target, State.endTransfer_lamp]
  split <;> rfl

/-- The response byte of UNMUTE: bit 0 the mute, bit 1 the retry mode (R191). -/
theorem unmuteByte_bits (muted retry : Bool) :
    (byteOf (boolBit muted 0 + boolBit retry 1)).getLsbD 0 = muted ∧
      (byteOf (boolBit muted 0 + boolBit retry 1)).getLsbD 1 = retry := by
  cases muted <;> cases retry <;> decide

end Sys2Proof.Machine

open Sys2Proof Sys2Proof.Machine

/-- Settles O20: the command is taken on the state that the end of the transfer leaves. -/
theorem unmuteClears : Obligations.UnmuteClears := by
  intro k s ready hst
  obtain ⟨muted, retry⟩ := unmuteByte_bits s.line.muted s.line.retry
  refine ⟨_, muted, retry, (cardRow_taken ready .unmute k (unmuteGate_of_started hst) rfl).trans ?_⟩
  exact congrArg Host.Outcome.next (State.respond_judgeLamp (2 + k) 0x51 .ok _
    { s with line := { s.line with muted := false, retry := false, consecutive := 0 } })

end

section
/-! PROOF. The frames of the shelf line (O60): a frame that was built is good, and the bits inserted on the line are taken
out again at a receiver (R126, R127, R188). -/

namespace Sys2Proof.Machine

/-! ### The frame (R188) -/

/-- The fifth header byte holds the station state and the payload length, each in its bits (R188). -/
theorem headerByte_fields {len : Nat} (h : len ≤ 48) (st : Announced) :
    (byteOf (announcedCode st * 64 + len)).toNat / 64 = announcedCode st ∧
      (byteOf (announcedCode st * 64 + len)).toNat % 64 = len := by
  have code : announcedCode st ≤ 3 := by cases st <;> decide
  rw [byteOf, BitVec.toNat_ofNat]
  omega

/-- What is built is good: it ends where its length says, with the CRC of what stands before (R127, R142). -/
theorem frameGood_frameBytes (kind epoch : Byte) (src dst : Nat) (st : Announced) {payload : List Byte}
    (h : payload.length ≤ 48) : frameGood (frameBytes kind src dst epoch st payload) = true := by
  obtain ⟨state, len⟩ := headerByte_fields h st
  have code : announcedCode st ≠ 0 := by cases st <;> decide
  generalize hcrc : wordBytes
    (crc16 (headerBytes kind src dst epoch st payload.length ++ payload)).toNat = crc
  have crcLength : crc.length = 2 := by rw [← hcrc]; rfl
  have frame : frameBytes kind src dst epoch st payload =
      headerBytes kind src dst epoch st payload.length ++ payload ++ crc := by rw [frameBytes, hcrc]
  have body : (headerBytes kind src dst epoch st payload.length ++ payload ++ crc).take (5 + payload.length) =
      headerBytes kind src dst epoch st payload.length ++ payload := by
    refine List.take_left' ?_
    rw [List.length_append]
    rfl
  rw [frame]
  show (decide (_ ≤ 48) && decide (_ ≠ 0) && decide ((payload ++ crc).length = _ + 2) && ((payload ++ crc).drop _ ==
    wordBytes (crc16 ((headerBytes kind src dst epoch st payload.length ++ payload ++ crc).take (5 + _))).toNat)) = true
  rw [state, len, body, hcrc, List.drop_left, List.length_append, crcLength]
  simp [h, code]

/-! ### Inserted bits (R126) -/

/-- What was inserted is dropped again. -/
theorem unstuffFrom_stuffFrom (last : Bool) {run : Nat} (hrun : run < 5) (bits : List Bool) :
    unstuffFrom last run (stuffFrom last run bits) = bits := by
  induction bits generalizing last run with
  | nil => rfl
  | cons b bits ih =>
    have counted : (if b = last then run + 1 else 1) ≤ 5 := by split <;> omega
    rw [stuffFrom]
    generalize hn : (if b = last then run + 1 else 1) = n at counted
    split
    · rw [unstuffFrom, if_neg (by omega), hn, unstuffFrom, if_pos ‹_›, ih (!b) (by omega)]
    · rw [unstuffFrom, if_neg (by omega), hn, ih b (by omega)]

/-- A run of less than `n` equal bits that another bit ends makes no `n` equal ones. -/
theorem not_replicate_in_run {n : Nat} {last b c : Bool} {rest : List Bool} (hne : b ≠ last)
    (h : ¬ List.replicate n c <:+: b :: rest) {run : Nat} (hrun : run < n) :
    ¬ List.replicate n c <:+: List.replicate run last ++ b :: rest := by
  induction run with
  | zero => exact h
  | succ run ih =>
    have line : List.replicate (run + 1) last ++ b :: rest = last :: (List.replicate run last ++ b :: rest) := rfl
    rw [line, List.infix_cons_iff, not_or]
    refine ⟨fun front => ?_, ih (by omega)⟩
    have reads {i : Nat} (hi : i < n) : (last :: (List.replicate run last ++ b :: rest))[i]? = some c := by
      rw [List.prefix_iff_getElem?.mp front i (by simpa using hi), List.getElem_replicate]
    have first : last = c := by simpa using reads (i := 0) (by omega)
    have other : b = c := by simpa using reads hrun
    exact hne (other.trans first.symm)

/-- After a bit that ends a run of less than five, what is sent makes no six equal ones with that run. -/
theorem not_six_in_stuffFrom (c last : Bool) {run : Nat} (hrun : run < 5) (bits : List Bool) :
    ¬ List.replicate 6 c <:+: List.replicate run last ++ stuffFrom last run bits := by
  induction bits generalizing last run with
  | nil =>
    intro h
    have := h.length_le
    simp [stuffFrom] at this
    omega
  | cons b bits ih =>
    rw [stuffFrom]
    by_cases same : b = last
    · subst same
      have run_succ (xs : List Bool) : List.replicate run b ++ b :: xs = List.replicate (run + 1) b ++ xs := by
        rw [List.replicate_succ', List.append_assoc]
        rfl
      simp only [if_true]
      split
      · rw [run_succ]
        exact not_replicate_in_run (by simp) (ih (!b) (run := 1) (by omega)) (by omega)
      · rw [run_succ]
        exact ih b (by omega)
    · simp only [same, if_false, Nat.reduceEqDiff]
      exact not_replicate_in_run same (ih b (run := 1) (by omega)) (by omega)

end Sys2Proof.Machine

open Sys2Proof Sys2Proof.Machine

/-- Settles O60: the payloads of each kind, the frame around them, and its bits on the line. -/
theorem framesReadBack : Obligations.FramesReadBack := by
  refine ⟨fun roll cs lo hi fits => readOffer_offerPayload roll fits lo hi,
    fun vs lo hi fits => readAnswer_answerPayload fits lo hi, fun ts lo hi fits => readRelease_releasePayload fits lo hi,
    fun n h => readRoll_wordBytes h, fun kind epoch src dst st payload h => frameGood_frameBytes kind epoch src dst st h,
    fun bytes b => ⟨?_, ?_⟩⟩
  · exact not_six_in_stuffFrom b false (run := 1) (by omega) _
  · exact unstuffFrom_stuffFrom false (run := 1) (by omega) _

end

section
/-! PROOF. Frames that are not taken (O50): the branches of the handing on that end at the header or in a line error, and
the payloads that do not fit their kind (R82, R142, R143). -/

namespace Sys2Proof.Machine

/-! ### Payloads that do not fit (R82) -/

theorem readRoll_of_length {payload : List Byte} (h : payload.length ≠ 2) : readRoll payload = none := by
  unfold readRoll
  split
  · exact absurd rfl h
  · rfl

/-- A ROLL declares at most 64 claims. -/
theorem readRoll_of_many {n : Nat} (lo : 64 < n) (hi : n < 65536) : readRoll (wordBytes n) = none := by
  rw [wordBytes, readRoll, wordOf_wordBytes hi, if_neg (by omega)]

/-- Claims are read from five bytes each. -/
theorem length_of_readClaims {bytes : List Byte} {cs : List Claim} (h : readClaims bytes = some cs) :
    bytes.length = 5 * cs.length := by
  induction bytes using readClaims.induct generalizing cs with
  | case1 =>
    obtain rfl : [] = cs := Option.some.inj h
    rfl
  | case2 b0 b1 b2 b3 b4 rest ih =>
    rw [readClaims] at h
    obtain ⟨tail, read, rfl⟩ := Option.map_eq_some_iff.mp h
    have := ih read
    simp only [List.length_cons]
    omega
  | case3 bytes _ _ => simp_all [readClaims]

theorem readOffer_of_length {payload : List Byte}
    (h : payload.length < 6 ∨ 41 < payload.length ∨ payload.length % 5 ≠ 1) : readOffer payload = none := by
  unfold readOffer
  split
  · rfl
  · split
    · rfl
    · rename_i cs read
      have := length_of_readClaims read
      simp only [List.length_cons] at h
      exact if_neg (by omega)

/-- A verdict of a kind that R189 gives has its code from 1 to 5. -/
theorem code_of_readVerdictKind {code : Byte} {lane : Nat} {k : VerdictKind} (h : readVerdictKind code lane = some k) :
    code ≠ 0 ∧ code.toNat ≤ 5 := by
  unfold readVerdictKind at h
  repeat' split at h
  case isFalse => cases h
  all_goals subst code; decide

/-- Verdicts are read from five bytes each, the third of which is a code from 1 to 5. -/
theorem length_of_readVerdicts {bytes : List Byte} {vs : List Verdict} (h : readVerdicts bytes = some vs) :
    bytes.length = 5 * vs.length ∧ ∀ i b, bytes[5 * i + 2]? = some b → b ≠ 0 ∧ b.toNat ≤ 5 := by
  induction bytes using readVerdicts.induct generalizing vs with
  | case1 =>
    obtain rfl : [] = vs := Option.some.inj h
    simp
  | case2 b0 b1 b2 b3 b4 rest k tail read kind ih =>
    rw [readVerdicts, kind, read] at h
    obtain rfl := Option.some.inj h
    obtain ⟨length, codes⟩ := ih read
    refine ⟨by simp only [List.length_cons]; omega, fun i b hb => ?_⟩
    cases i with
    | zero =>
      obtain rfl : b2 = b := by simpa using hb
      exact code_of_readVerdictKind kind
    | succ i => exact codes i b (by simpa [Nat.mul_succ] using hb)
  | case3 b0 b1 b2 b3 b4 rest unread ih =>
    rw [readVerdicts] at h
    split at h
    · exact (unread _ _ ‹_› ‹_›).elim
    · cases h
  | case4 bytes _ _ => simp_all [readVerdicts]

theorem readAnswer_of_unfit {payload : List Byte} (h : payload = [] ∨ 40 < payload.length ∨ payload.length % 5 ≠ 0 ∨
    ∃ i b, payload[5 * i + 2]? = some b ∧ (b = 0 ∨ 5 < b.toNat)) : readAnswer payload = none := by
  unfold readAnswer
  split
  · rfl
  · rename_i vs read
    obtain ⟨length, codes⟩ := length_of_readVerdicts read
    refine if_neg fun fits => ?_
    rcases h with rfl | h | h | ⟨i, b, hb, bad⟩
    · rw [List.length_nil] at length
      omega
    · omega
    · omega
    · obtain ⟨nonzero, small⟩ := codes i b hb
      exact bad.elim nonzero (by omega)

/-- Tags are read from two bytes each. -/
theorem length_of_readTags {bytes : List Byte} {ts : List Nat} (h : readTags bytes = some ts) :
    bytes.length = 2 * ts.length := by
  induction bytes using readTags.induct generalizing ts with
  | case1 =>
    obtain rfl : [] = ts := Option.some.inj h
    rfl
  | case2 b0 b1 rest ih =>
    rw [readTags] at h
    obtain ⟨tail, read, rfl⟩ := Option.map_eq_some_iff.mp h
    have := ih read
    simp only [List.length_cons]
    omega
  | case3 bytes _ _ => simp_all [readTags]

theorem readRelease_of_length {payload : List Byte}
    (h : payload = [] ∨ 16 < payload.length ∨ payload.length % 2 ≠ 0) : readRelease payload = none := by
  unfold readRelease
  split
  · rfl
  · rename_i ts read
    have := length_of_readTags read
    have h := h.imp_left fun e => congrArg List.length e
    rw [List.length_nil] at h
    exact if_neg (by omega)

/-! ### The handing on (R143) -/

section HandOn

variable {s : State} {f : LineFrame} {kind : Byte}

/-- A frame for another slot goes no further. -/
theorem State.handOn_elsewhere (h : f.dst ≠ s.ctl.slot) (hne : f.dst ≠ 31) : s.handOn kind f = s := if_pos ⟨h, hne⟩

theorem State.handOn_unknown (ours : f.dst = s.ctl.slot ∨ f.dst = 31) (h : kind = 0 ∨ 5 < kind.toNat) :
    s.handOn kind f = s.withLineError := by
  have passes : ¬ (f.dst ≠ s.ctl.slot ∧ f.dst ≠ 31) := by tauto
  have other (code : Byte) (hc : code ≠ 0 ∧ code.toNat ≤ 5) : kind ≠ code := by
    rintro rfl
    exact h.elim hc.1 (by omega)
  rw [State.handOn, if_neg passes, if_neg (other kindBeacon (by decide)), if_pos, State.lineError_eq]
  exact ⟨other _ (by decide), other _ (by decide), other _ (by decide), other _ (by decide)⟩

/-- Only a BEACON is a broadcast. -/
theorem State.handOn_broadcast (h : f.dst = 31) (hk : kind ≠ kindBeacon) : s.handOn kind f = s.withLineError := by
  rw [State.handOn, if_neg (fun elsewhere => elsewhere.2 h), if_neg hk, if_pos h, ite_self, State.lineError_eq]

variable (hdst : f.dst = s.ctl.slot) (hne : f.dst ≠ 31)

include hdst hne

/-- A frame of one of the four other kinds for the own slot comes to its station states and its payload. -/
theorem State.handOn_addressed (hk : kind = kindRoll ∨ kind = kindOffer ∨ kind = kindAnswer ∨ kind = kindRelease) :
    s.handOn kind f =
      if kind = kindOffer then
        if s.running ∨ s.ctl.st = .setup then
          s.actOn f.src (readOffer f.payload) (fun x s => s.takeOffer f.src x.1 x.2)
        else s
      else if s.running then
        if kind = kindRoll then s.actOn f.src (readRoll f.payload) (fun n s => s.takeRoll f.src n)
        else if kind = kindAnswer then
          s.actOn f.src (readAnswer f.payload) (fun vs s => s.each vs (State.takeVerdict f.src))
        else s.actOn f.src (readRelease f.payload) (fun ts s => s.each ts (State.takeRelease f.src))
      else s := by
  have beacon : kind ≠ kindBeacon := by rcases hk with rfl | rfl | rfl | rfl <;> decide
  rw [State.handOn, if_neg (fun elsewhere => elsewhere.1 hdst), if_neg beacon, if_neg (by tauto), if_neg hne]

/-- A ROLL, an ANSWER and a RELEASE are taken in RELINK and SERVICE alone (R23). -/
theorem State.handOn_idle (hrun : s.running = false) (hk : kind = kindRoll ∨ kind = kindAnswer ∨ kind = kindRelease) :
    s.handOn kind f = s := by
  rw [State.handOn_addressed hdst hne (by tauto), if_neg (by rcases hk with rfl | rfl | rfl <;> decide), if_neg (by simp [hrun])]

/-- An OFFER is taken in SETUP too. -/
theorem State.handOn_offer_idle (h : ¬ s.edits) : s.handOn kindOffer f = s := by
  rw [State.handOn_addressed hdst hne (by simp), if_pos rfl, if_neg]
  rw [State.running_iff]
  tauto

theorem State.handOn_offer_unread (h : s.edits) (hread : readOffer f.payload = none) :
    s.handOn kindOffer f = s.withLineError := by
  rw [State.handOn_addressed hdst hne (by simp), if_pos rfl, if_pos (by rw [State.running_iff]; tauto), hread,
    ← State.lineError_eq]
  rfl

theorem State.handOn_roll_unread (hrun : s.running = true) (hread : readRoll f.payload = none) :
    s.handOn kindRoll f = s.withLineError := by
  rw [State.handOn_addressed hdst hne (by simp), if_neg (by decide), if_pos hrun, if_pos rfl, hread, ← State.lineError_eq]
  rfl

theorem State.handOn_answer_unread (hrun : s.running = true) (hread : readAnswer f.payload = none) :
    s.handOn kindAnswer f = s.withLineError := by
  rw [State.handOn_addressed hdst hne (by simp), if_neg (by decide), if_pos hrun, if_neg (by decide), if_pos rfl, hread,
    ← State.lineError_eq]
  rfl

theorem State.handOn_release_unread (hrun : s.running = true) (hread : readRelease f.payload = none) :
    s.handOn kindRelease f = s.withLineError := by
  rw [State.handOn_addressed hdst hne (by simp), if_neg (by decide), if_pos hrun, if_neg (by decide), if_neg (by decide),
    hread, ← State.lineError_eq]
  rfl

end HandOn

end Sys2Proof.Machine

open Sys2Proof Sys2Proof.Machine

/-- Settles O50: hearing such a frame refreshes its source, and its handing on ends at the header or in a line error. -/
theorem framesNotTaken : Obligations.FramesNotTaken := by
  refine ⟨?_, fun raw cutOff s calm running bad => ?_, fun s calm => ?_⟩
  · intro f kind s hears ignored counted
    have row (k : Byte) {u : State} (h : (s.refreshed f).handOn k f = u) :
        Host.Outcome.next (φ := Fault) (ρ := Refusal) (s.settle.receive k f) = .next u :=
      congrArg _ ((State.receive_of_hears hears k).trans h)
    refine ⟨fun away hne => ?_, fun ours unknown => row _ (State.handOn_unknown ours unknown), fun all => ?_,
      fun ours hne => ?_⟩
    · have stays (k : Byte) := row k (State.handOn_elsewhere (s := s.refreshed f) away hne)
      exact ⟨stays _, stays _, stays _, stays _, stays _, stays _⟩
    · have errs {k : Byte} (hk : k ≠ kindBeacon) := row k (State.handOn_broadcast (s := s.refreshed f) all hk)
      exact ⟨errs (by decide), errs (by decide), errs (by decide), errs (by decide), errs⟩
    · have ours : f.dst = (s.refreshed f).ctl.slot := ours
      refine ⟨fun idle => ?_, fun idle => row _ (State.handOn_offer_idle ours hne idle),
        fun hrun bad => row _ (State.handOn_roll_unread ours hne hrun (readRoll_of_length bad)), ?_,
        fun edits bad => row _ (State.handOn_offer_unread ours hne edits (readOffer_of_length bad)),
        fun hrun bad => row _ (State.handOn_answer_unread ours hne hrun (readAnswer_of_unfit bad)),
        fun hrun bad => row _ (State.handOn_release_unread ours hne hrun (readRelease_of_length bad))⟩
      · have stays {k : Byte} (hk : k = kindRoll ∨ k = kindAnswer ∨ k = kindRelease) :=
          row k (State.handOn_idle (s := s.refreshed f) ours hne idle hk)
        exact ⟨stays (by simp), stays (by simp), stays (by simp)⟩
      · rintro hrun ⟨n, lo, hi, hn⟩
        exact row _ (State.handOn_roll_unread ours hne hrun (hn ▸ readRoll_of_many lo hi))
  · show Host.Outcome.next (s.settle.receiveBad raw cutOff) = _
    rw [State.settle_of_calm calm, State.receiveBad, running, ← State.lineError_eq]
    have counted : (cutOff || !frameGood raw) = true := by simpa using bad
    simp [counted]
  · exact congrArg _ (State.settle_of_calm calm)

end

section
/-! PROOF. The limits of O53: what they read of a state, and the rules by which the plain updates keep them. -/

namespace Sys2Proof.Machine

section Rules

variable {s t : State} {r : Circuit} {p : Nat}

/-! ### What the limits read -/

/-- The counts of the Line Controller that have a limit (R86, R139, R144). -/
def LineCtl.tallies (l : LineCtl) : Nat × Nat × Nat × Nat := (l.collisions, l.errors, l.stale, l.consecutive)

/-- What the limits read: the queue, the counts of the line, the notices, the supply and the listen count. -/
def State.gauges (s : State) : List Request × (Nat × Nat × Nat × Nat) × List Notice × Supply × Nat :=
  (s.line.queue, s.line.tallies, s.notices, s.supply, s.ctl.listenCount)

/-- Queue, counts, notices and supply are within their limits. -/
structure State.Limited (s : State) : Prop where
  queue : s.queueOk
  counts : s.line.countsOk
  notices : s.noticesOk
  supply : s.supplyOk

/-! ### Rules -/

theorem State.Limited.same (h : s.Limited) (hg : t.gauges = s.gauges) : t.Limited := by
  obtain ⟨queue, counts, notices, supply⟩ := h
  simp only [State.gauges, LineCtl.tallies, Prod.mk.injEq] at hg
  obtain ⟨hqueue, ⟨hcollisions, herrors, hstale, hconsecutive⟩, hnotices, hsupply, hlisten⟩ := hg
  refine ⟨?_, ?_, ?_, ?_⟩
  · rwa [State.queueOk, hqueue]
  · rwa [LineCtl.countsOk, hcollisions, herrors, hstale, hconsecutive]
  · rwa [State.noticesOk, hnotices]
  · rwa [State.supplyOk, hsupply, hlisten]

theorem State.Limited.ite {c : Prop} [Decidable c] (hs : s.Limited) (ht : t.Limited) : (if c then s else t).Limited := by
  split <;> assumption

theorem State.Limited.each {α : Type} (h : s.Limited) {xs : List α} {f : α → State → State}
    (hf : ∀ x (u : State), u.Limited → (f x u).Limited) : (s.each xs f).Limited := by
  induction xs generalizing s with
  | nil => exact h
  | cons x xs ih => exact ih (hf x s h)

/-- Another line, with its queue and its counts within their limits. -/
theorem State.Limited.withLine (h : s.Limited) {l : LineCtl} (queue : l.queue.length ≤ 24 ∧ l.queue.Nodup)
    (counts : l.countsOk) : State.Limited { s with line := l } := ⟨queue, counts, h.notices, h.supply⟩

/-- A counter that saturates stays within its limit (0.11). -/
theorem satSucc_le (top n : Nat) : satSucc top n ≤ top := (satSucc_eq_min top n).trans_le (Nat.min_le_left _ _)

/-- Requests leave the queue (R134). -/
theorem State.Limited.setQueue (h : s.Limited) {q : List Request} (hq : q.Sublist s.line.queue) :
    (s.setQueue q).Limited := by
  obtain ⟨length, nodup⟩ := h.queue
  exact h.withLine ⟨hq.length_le.trans length, nodup.sublist hq⟩ h.counts

theorem State.gauges_setWant (req : Request) (b : Bool) (s : State) : (s.setWant req b).gauges = s.gauges := by
  cases req <;> rfl

/-- A posting is absorbed, finds room, or leaves the queue as it is (R128, R129). -/
theorem State.Limited.request (h : s.Limited) {req : Request} : (s.request req).Limited := by
  obtain ⟨length, nodup⟩ := h.queue
  rcases s.request_cases req with ⟨_, e⟩ | ⟨hnew, room, e⟩ | ⟨_, _, e⟩ <;> rw [e]
  · exact h
  · refine h.withLine ⟨?_, nodup.append (List.nodup_singleton req) (by simpa using hnew)⟩ h.counts
    rw [List.length_append, List.length_singleton]
    omega
  · exact h.same (s.gauges_setWant req true)

/-- A notice is appended where there is room for it (R184). -/
theorem State.Limited.post (h : s.Limited) {k : NoticeKind} : (s.post k r).Limited := by
  rcases s.post_cases k r with ⟨room, e⟩ | ⟨_, e⟩ <;> rw [e]
  · refine ⟨h.queue, h.counts, ?_, h.supply⟩
    rw [State.noticesOk, List.length_append, List.length_singleton]
    omega
  · exact h.same rfl

theorem State.Limited.lineError (h : s.Limited) : s.lineError.Limited := by
  obtain ⟨collisions, _, stale, consecutive⟩ := h.counts
  have counted : State.Limited { s with line := { s.line with errors := satSucc 255 s.line.errors } } :=
    h.withLine h.queue ⟨collisions, satSucc_le _ _, stale, consecutive⟩
  exact counted.same rfl

/-- A verdict that finds no record is counted (R86). -/
theorem State.Limited.countStale (h : s.Limited) :
    State.Limited { s with line := { s.line with stale := satSucc 255 s.line.stale } } := by
  obtain ⟨collisions, errors, _, consecutive⟩ := h.counts
  exact h.withLine h.queue ⟨collisions, errors, satSucc_le _ _, consecutive⟩

theorem LineCtl.collide_countsOk {l : LineCtl} (h : l.countsOk) : l.collide.countsOk := by
  obtain ⟨_, errors, stale, _⟩ := h
  unfold LineCtl.collide
  split
  · exact ⟨satSucc_le _ _, errors, stale, satSucc_le _ _⟩
  · exact ⟨satSucc_le _ _, errors, stale, Nat.zero_le _⟩

theorem LineCtl.collide_queue (l : LineCtl) : l.collide.queue = l.queue := by
  unfold LineCtl.collide
  split <;> rfl

/-- The retry collisions begin again at 0 (R134, R140). -/
theorem State.Limited.endRetry (h : s.Limited) {l : LineCtl} (hqueue : l.queue = s.line.queue)
    (hcounts : l.tallies = { s.line with consecutive := 0 }.tallies) : State.Limited { s with line := l } := by
  obtain ⟨collisions, errors, stale, _⟩ := h.counts
  simp only [LineCtl.tallies, Prod.mk.injEq] at hcounts
  obtain ⟨hcollisions, herrors, hstale, hconsecutive⟩ := hcounts
  refine h.withLine (by rw [hqueue]; exact h.queue) ?_
  rw [LineCtl.countsOk, hcollisions, herrors, hstale, hconsecutive]
  exact ⟨collisions, errors, stale, Nat.zero_le _⟩

/-- A result of the Supply Monitor (R145 to R147). -/
theorem State.Limited.sample (h : s.Limited) {threshold millivolts : Nat} :
    State.Limited { s with supply := s.supply.take threshold (sampleOf millivolts) } := by
  obtain ⟨_, _, _, listen⟩ := h.supply
  refine ⟨h.queue, h.counts, h.notices, Nat.min_le_left _ _, ?_, ?_, listen⟩ <;> simp only [Supply.take] <;> split
  exacts [satSucc_le _ _, Nat.zero_le _, satSucc_le _ _, Nat.zero_le _]

/-- The listen count rises to its limit, or begins again (R155). -/
theorem State.Limited.listen (h : s.Limited) {c : Station} (hc : c.listenCount ≤ 8) :
    State.Limited { s with ctl := c } := by
  obtain ⟨sample, warn, recover, _⟩ := h.supply
  exact ⟨h.queue, h.counts, h.notices, sample, warn, recover, hc⟩

theorem State.gauges_mapFlying (g : InFlight → InFlight) (s : State) : (s.mapFlying g).gauges = s.gauges := by
  unfold State.mapFlying
  split <;> rfl

theorem State.gauges_judgeLamp (s : State) : s.judgeLamp.gauges = s.gauges := by
  unfold State.judgeLamp
  split <;> rfl

theorem State.gauges_setStation (x : StationState) (s : State) : (s.setStation x).gauges = s.gauges :=
  State.gauges_judgeLamp _

end Rules

end Sys2Proof.Machine
end

section
/-! PROOF. The operations of chapters 2 to 7 keep the limits of O53: one rule per operation. -/

namespace Sys2Proof.Machine

section Rules

variable {s t : State} {r : Circuit} {p : Nat}

/-! ### Requests and rolls (R66 to R73, R128) -/

theorem State.Limited.announce (h : s.Limited) : s.announce.Limited := by
  have reset : State.Limited { s with sweep := { s.sweep with beaconCount := 0 } } := h.same rfl
  exact reset.request

theorem State.Limited.pass (h : s.Limited) : (s.pass p).Limited := h.request.ite h

theorem State.Limited.passAll (h : s.Limited) : s.passAll.Limited := h.each fun _ _ hu => hu.pass

theorem State.Limited.checkSingle (h : s.Limited) : (s.checkSingle p).Limited := h.request.ite h

theorem State.Limited.updPeer (h : s.Limited) {f : Peer → Peer} : (s.updPeer p f).Limited := h.same rfl

theorem State.Limited.setRollOut (h : s.Limited) {x : RollOut} : (s.setRollOut p x).Limited := h.updPeer

theorem State.Limited.mapTowards (h : s.Limited) {f : Circuit → Circuit} : (s.mapTowards p f).Limited := h.same rfl

theorem State.Limited.oweRoll (h : s.Limited) : (s.oweRoll p).Limited := (h.mapTowards.ite h).setRollOut

theorem State.Limited.restartRoll (h : s.Limited) : (s.restartRoll p).Limited := by
  have unmarked : (s.clearRollMarks p).Limited := h.mapTowards
  exact unmarked.setRollOut.pass.checkSingle.ite h

theorem State.Limited.judgeEnd (h : s.Limited) : s.judgeEnd.Limited := by
  have ended : (State.raise .relinkDone (s.setStation .service)).Limited := h.same (s.gauges_setStation .service)
  exact ended.announce.ite h

theorem State.Limited.settleChange (h : s.Limited) {cause : Bool} : (s.settleChange cause).Limited := by
  have attempted : (s.attemptTurns 4).Limited := h.same (by simp [State.gauges])
  rcases s.settleChange_cases cause with e | e <;> rw [e]
  · exact h.judgeEnd
  · exact attempted.judgeEnd

theorem State.Limited.emptyLists (h : s.Limited) : (s.emptyLists p).Limited := h.updPeer.same (State.gauges_mapFlying _ _)

theorem State.Limited.dropRequests (h : s.Limited) : (s.dropRequests p).Limited :=
  (h.setQueue List.filter_sublist).same (State.gauges_mapFlying _ _)

theorem State.Limited.appendVerdict (h : s.Limited) {v : Verdict} : (s.appendVerdict p v).Limited := h.updPeer.request

theorem State.Limited.appendRelease (h : s.Limited) {tag : Nat} : (s.appendRelease p tag).Limited := h.updPeer.request

theorem State.Limited.convertWant (h : s.Limited) {req : Request} : (s.convertWant req).Limited :=
  (h.same (s.gauges_setWant req false)).request.ite h

theorem State.Limited.convertWants (h : s.Limited) : s.convertWants.Limited := h.each fun _ _ hu => hu.convertWant

/-! ### Causes that act on one record (chapters 2 and 4) -/

theorem State.Limited.raise (h : s.Limited) {f : EventFlag} : (s.raise f).Limited := h.same rfl

theorem State.Limited.raiseIf (h : s.Limited) {c : Bool} {f : EventFlag} : (s.raiseIf c f).Limited := h.raise.ite h

theorem State.Limited.mapRec (h : s.Limited) {g : Nat} {f : Circuit → Circuit} : (s.mapRec g f).Limited := h.same rfl

theorem State.Limited.enter (h : s.Limited) {g : Nat} {new : Relink} {due : Bool} {sends : Nat} :
    (s.enter g new due sends).Limited := h.same (by simp [State.gauges])

theorem State.Limited.moveTo (h : s.Limited) {new : Relink} {due : Bool} {sends : Nat} :
    (s.moveTo r new due sends).Limited := h.same (by simp [State.gauges])

theorem State.Limited.removeRecord (h : s.Limited) : (s.removeRecord r).Limited := by
  have left : State.Limited { s.cancelProbe r with
      records := (s.cancelProbe r).records.filter (fun x => x.place != r.place) } := h.same (by simp [State.gauges])
  have flown := left.same (State.gauges_mapFlying (fun f => { f with carried := f.carried.filter (fun h => h != r.place) }) _)
  exact flown.same (State.gauges_judgeLamp _)

theorem State.Limited.deferMany (h : s.Limited) {cond : Relink → Bool} {rs : List Circuit} :
    (s.deferMany cond rs).Limited := by
  refine h.raiseIf.each fun g u hu => ?_
  unfold State.deferPlace
  split
  · exact hu
  · exact hu.moveTo.post.settleChange.ite hu

theorem State.Limited.claimSent (h : s.Limited) {roll : Bool} : (s.claimSent roll p).Limited := by
  unfold State.claimSent
  split
  · exact h
  · dsimp only
    split
    case h_1 | h_2 | h_3 => exact h.mapRec.enter.settleChange
    case h_4 => exact h.mapRec.mapRec
    case h_5 | h_6 | h_7 | h_8 => exact h.mapRec

theorem State.Limited.agree (h : s.Limited) {lane : InUse} : (s.agree lane r).Limited :=
  have moved := (h.mapRec (g := r.place) (f := fun x => { x with inUse := lane })).ite h.mapRec.moveTo
  moved.post.ite moved

theorem State.Limited.refuse (h : s.Limited) {c : Cause} : (s.refuse c r).Limited := h.raise.moveTo.post

theorem State.Limited.clash (h : s.Limited) : (s.clash r).Limited := h.raise.moveTo.post

theorem State.Limited.unsolicitedClash (h : s.Limited) : (s.unsolicitedClash r).Limited :=
  (h.appendVerdict.ite h.updPeer).ite h

theorem State.Limited.laneFault (h : s.Limited) : (s.laneFault r).Limited :=
  (h.mapRec.post.enter.checkSingle.ite h.mapRec.post.enter.raise).ite h.enter.raise.post.unsolicitedClash

theorem State.Limited.completeProbe (h : s.Limited) {pr : Probe} : (s.completeProbe pr).Limited := by
  have freed : (s.freeProbe pr.place).Limited := h.same rfl
  unfold State.completeProbe
  dsimp only
  split
  · exact freed
  · rename_i r _
    have refunded : ((s.freeProbe pr.place).credit r.weight).Limited := freed.same rfl
    exact refunded.laneFault.settleChange.ite freed.enter.post.settleChange

/-! ### Claims, rolls, verdicts and releases received -/

theorem State.Limited.completeRoll (h : s.Limited) : (s.completeRoll p).Limited := by
  refine h.updPeer.raiseIf.each fun g u hu => ?_
  unfold State.orphanPlace
  split
  · exact hu
  · exact (hu.mapRec.moveTo.post.settleChange.ite hu.mapRec).ite hu

theorem State.Limited.countClaim (h : s.Limited) : (s.countClaim p).Limited := by
  unfold State.countClaim
  split
  · exact h
  · exact h.updPeer.completeRoll.ite h.updPeer

theorem State.Limited.answerClaim (h : s.Limited) {c : Claim} : (s.answerClaim p c).Limited := by
  unfold State.answerClaim
  split
  · exact h.appendVerdict
  · rename_i r _
    have cleared : (s.mapRec r.place (fun x => { x with scopeMark := false })).Limited := h.mapRec
    refine h.appendVerdict.ite (.ite (.ite ?_ cleared.appendVerdict) (.ite cleared.appendVerdict ?_))
    · exact cleared.refuse.appendVerdict.settleChange
    · exact cleared.agree.appendVerdict.settleChange

theorem State.Limited.takeOffer (h : s.Limited) {roll : Bool} {cs : List Claim} : (s.takeOffer p roll cs).Limited :=
  (h.each fun _ _ hu => hu.appendVerdict.ite (hu.answerClaim.countClaim.ite hu.answerClaim)).ite h.updPeer

theorem State.Limited.takeRoll (h : s.Limited) {n : Nat} : (s.takeRoll p n).Limited :=
  h.updPeer.mapTowards.completeRoll.ite h.updPeer.mapTowards

theorem State.Limited.verdictRefuse (h : s.Limited) {c : Cause} : (s.verdictRefuse c r).Limited :=
  h.refuse.settleChange.ite h

theorem State.Limited.takeVerdict (h : s.Limited) {v : Verdict} : (s.takeVerdict p v).Limited := by
  unfold State.takeVerdict
  split
  · exact h.countStale
  · rename_i r _
    split
    · unfold State.verdictAccept
      split
      · exact h.verdictRefuse
      · exact h.ite h.agree.settleChange
    · exact h.verdictRefuse
    · exact h.verdictRefuse
    · exact h.raise.moveTo.post.settleChange.ite h
    · exact h.ite h.clash.settleChange

theorem State.Limited.takeRelease (h : s.Limited) {tag : Nat} : (s.takeRelease p tag).Limited := by
  unfold State.takeRelease
  split
  · exact h
  · exact h.removeRecord.post.restartRoll.settleChange

/-! ### Peers heard and peers silent (chapter 3) -/

theorem State.Limited.coldRestart (h : s.Limited) : (s.coldRestart p).Limited := by
  have unmarked : (if (s.peer p).rollOut = .sending then s.clearRollMarks p else s).Limited := h.mapTowards.ite h
  have restarted : (s.restarted p).Limited := State.Limited.raise unmarked.updPeer.emptyLists.mapTowards
  exact restarted.deferMany.ite restarted

theorem State.Limited.warmRestart (h : s.Limited) {st : Announced} : (s.warmRestart p st).Limited := by
  have owed : (if st = .setup then s else s.oweRoll p).Limited := h.ite h.oweRoll
  unfold State.warmRestart State.cutChannel
  split
  · exact owed.raise
  · exact (State.Limited.mapTowards owed.updPeer).raise

theorem State.Limited.recognise (h : s.Limited) {epoch : Byte} {st : Announced} : (s.recognise p epoch st).Limited := by
  unfold State.recognise
  split
  · exact h
  · exact h.warmRestart
  · exact h.warmRestart
  · exact h.coldRestart
  · exact h.setRollOut

theorem State.Limited.heard (h : s.Limited) {epoch : Byte} {st : Announced} : (s.heard p epoch st).Limited := by
  have met : (State.updPeer p
      (fun x => { x with presence := .present, sinceHeard := 0, epoch := some epoch, st := some st })
      (if s.awake then s.recognise p epoch st else s)).Limited := (h.recognise.ite h).updPeer
  exact (met.pass.checkSingle.ite met).judgeEnd.ite h

theorem State.Limited.goSilent (h : s.Limited) : (s.goSilent p).Limited := by
  have owed : (if (s.peer p).rollOut = .sending then s.oweRoll p else s).Limited := h.oweRoll.ite h
  have silenced : (s.silenced p).Limited := owed.updPeer.emptyLists.dropRequests.mapTowards
  exact (silenced.deferMany.ite silenced).judgeEnd

end Rules

end Sys2Proof.Machine
end

section
/-! PROOF. The due steps, the shelf line, the station and the rows keep the limits of O53. -/

namespace Sys2Proof.Machine

section Rules

variable {s t : State} {r : Circuit} {p : Nat}

/-! ### The sweep and the due steps (chapters 3 and 6) -/

theorem State.Limited.takeSweep (h : s.Limited) : s.takeSweep.Limited := by
  obtain ⟨_, _, _, listen⟩ := h.supply
  have counted : (if s.ctl.st = .relink then satSucc 8 s.ctl.listenCount else s.ctl.listenCount) ≤ 8 := by
    split
    · exact satSucc_le _ _
    · exact listen
  have swept : s.sweepEvent.Limited := (h.listen (c := s.sweepEvent.ctl) counted).same rfl
  exact swept.ite h

theorem State.Limited.takeSilence (h : s.Limited) : (s.takeSilence p).Limited := h.goSilent.ite h

theorem State.Limited.takeBeacon (h : s.Limited) : s.takeBeacon.Limited := h.announce.ite h

theorem State.Limited.takeResend (h : s.Limited) : (s.takeResend p).Limited := by
  unfold State.takeResend
  split
  · exact h
  · exact (h.mapRec.checkSingle.ite h.raise.moveTo.post.settleChange).ite h

theorem State.Limited.takeAbandon (h : s.Limited) : (s.takeAbandon p).Limited :=
  (State.Limited.mapTowards h.updPeer).raise.ite h

theorem State.Limited.takeListenEnd (h : s.Limited) : s.takeListenEnd.Limited := by
  have ended : State.Limited { s with ctl := { s.ctl with listenOver := true } } := h.same rfl
  exact ended.passAll.deferMany.judgeEnd.ite h

theorem State.Limited.takeCompletion (h : s.Limited) : s.takeCompletion.Limited := by
  refine .ite ?_ h
  split
  · exact h
  · exact h.completeProbe

theorem State.Limited.takeEcho (h : s.Limited) : s.takeEcho.Limited := by
  refine .ite ?_ h
  split
  · exact h
  · exact h.laneFault.settleChange

theorem State.Limited.settleDue (h : s.Limited) : s.settleDue.Limited := by
  have silent := (h.each (xs := List.range 24) fun p _ hu => hu.takeSilence (p := p)).takeBeacon
  have resent {ps : List Nat} := silent.each (xs := ps) fun p _ hu => hu.takeResend (p := p)
  have abandoned {ps : List Nat} := (resent (ps := ps)).each (xs := List.range 24) fun p _ hu => hu.takeAbandon (p := p)
  exact (abandoned.takeListenEnd.each fun _ _ hu => hu.takeCompletion).each fun _ _ hu => hu.takeEcho

theorem State.Limited.resendTag (h : s.Limited) {tag : Nat} : (s.resendTag tag).Limited := by
  unfold State.resendTag
  split
  · exact h
  · exact h.takeResend

theorem State.Limited.expirePace (h : s.Limited) : s.expirePace.Limited := by
  unfold State.expirePace
  dsimp only
  refine .ite (State.Limited.settleChange ?_) h
  split <;> exact h.same rfl

/-! ### The shelf line (chapter 7) -/

theorem State.Limited.passedOver (h : s.Limited) {req : Request} : (s.passedOver req).Limited := by
  cases req with
  | rollOffer p => exact h.setRollOut.judgeEnd.ite h
  | beacon | roll | singleOffer | answer | release => exact h

theorem State.Limited.build (h : s.Limited) {req : Request} : (s.build req).Limited := by
  cases req <;> exact h.same rfl

theorem State.Limited.takeTurns (h : s.Limited) (n : Nat) : (s.takeTurns n).Limited := by
  induction n generalizing s with
  | zero => exact h
  | succ n ih =>
    unfold State.takeTurns
    split
    · have free : State.Limited { s with line := { s.line with out := .released } } := h.same rfl
      exact free.convertWants
    · rename_i req rest hq
      exact (ih (h.setQueue (by rw [hq]; exact List.sublist_cons_self req rest)).passedOver).ite h.build

theorem State.Limited.claimsSent (h : s.Limited) {roll : Bool} {places : List Nat} : (s.claimsSent roll places).Limited :=
  (h.each fun _ _ hu => hu.claimSent).ite h

theorem State.Limited.sentEffects (h : s.Limited) {f : InFlight} : (s.sentEffects f).Limited := by
  unfold State.sentEffects
  cases f.req with
  | beacon => exact h
  | roll p =>
    dsimp only
    split
    · exact h.request.ite h.setRollOut.judgeEnd
    · exact h.pass
    · exact h
  | rollOffer p => exact (h.claimsSent.request.ite h.claimsSent.setRollOut.judgeEnd).ite h.claimsSent
  | singleOffer p => exact h.claimsSent.checkSingle
  | answer p | release p => exact h.updPeer.ite h.updPeer.request

theorem State.Limited.takeSentWhole (h : s.Limited) : s.takeSentWhole.Limited := by
  unfold State.takeSentWhole
  split
  · exact h
  · rename_i f _
    have free : State.Limited { s with line := { s.line with out := .released } } := h.same rfl
    have left := (free.setQueue (List.drop_sublist 1 _)).ite (c := f.queued = true) free
    have ended (u : State) (hu : u.Limited) : State.Limited
        { u with line := { u.line with lastSender := u.ctl.slot, retry := false, consecutive := 0 } } := hu.endRetry rfl rfl
    exact (ended _ left.sentEffects).convertWants.passAll

theorem State.Limited.jamFrame (h : s.Limited) : s.jamFrame.Limited := by
  unfold State.jamFrame
  split
  · exact h
  · rename_i f _
    have jammed : State.Limited { s with line := { s.line with out := .jam } } := h.same rfl
    cases hreq : f.req with
    | roll p => exact (State.Limited.pass (jammed.oweRoll.ite jammed)).ite (jammed.oweRoll.ite jammed)
    | beacon | rollOffer | singleOffer | answer | release => exact jammed

theorem State.Limited.takeCollision (h : s.Limited) : s.takeCollision.Limited := by
  have collided : State.Limited { s with line := s.line.collide } :=
    h.withLine (by rw [LineCtl.collide_queue]; exact h.queue) (LineCtl.collide_countsOk h.counts)
  exact (collided.jamFrame.raiseIf.same (State.gauges_judgeLamp _)).ite h

theorem State.Limited.actOn {α : Type} (h : s.Limited) {src : Nat} {read : Option α} {act : α → State → State}
    (ha : ∀ x, (act x s).Limited) : (s.actOn src read act).Limited := by
  unfold State.actOn
  split
  · exact h.lineError
  · exact (ha _).ite h

theorem State.Limited.handOn (h : s.Limited) {kind : Byte} {f : LineFrame} : (s.handOn kind f).Limited := by
  -- the branches in the order of R143: misaddressed, BEACON, unknown kind, broadcast, OFFER, the rest
  refine h.ite (.ite (h.ite h.lineError) (h.lineError.ite (h.lineError.ite (.ite (.ite ?_ h) (.ite ?_ h)))))
  · exact h.actOn fun _ => h.takeOffer
  · exact .ite (h.actOn fun _ => h.takeRoll) (.ite (h.actOn fun _ => h.each fun _ _ hu => hu.takeVerdict)
      (h.actOn fun _ => h.each fun _ _ hu => hu.takeRelease))

theorem State.Limited.receive (h : s.Limited) {kind : Byte} {f : LineFrame} : (s.receive kind f).Limited := by
  have named : State.Limited { s with line := { s.line with lastSender := f.src } } := h.same rfl
  exact h.ite named.heard.handOn

/-! ### QUIESCE and recovery (R158, R160) -/

theorem State.Limited.enterQuiesce (h : s.Limited) {a : Announced} : (s.enterQuiesce a).Limited := by
  have left : (State.setStation .quiesce { s with ctl := { s.ctl with ret := some a } }).Limited :=
    h.same (State.gauges_setStation .quiesce _)
  refine State.Limited.same (left.jamFrame.each fun g u hu => ?_) rfl
  unfold State.unprobe
  split
  · exact hu
  · exact hu.moveTo.settleChange.ite hu

theorem State.Limited.letGo (h : s.Limited) : s.letGo.Limited := by
  have posted : (s.passAll.each s.slotOrder State.checkSingle).Limited := h.passAll.each fun _ _ hu => hu.checkSingle
  exact (posted.same (by simp [State.gauges])).ite h

theorem State.Limited.recover (h : s.Limited) {a : Announced} : (s.recover a).Limited := by
  have returned : (State.setStation (stationOf a) { s with ctl := { s.ctl with ret := none } }).Limited :=
    h.same (State.gauges_setStation _ _)
  have resumed (u : State) (hu : u.Limited) : u.writePending.resumeTimer.Limited := hu.same (by simp [State.gauges])
  exact (resumed _ returned.raise).announce.letGo.judgeEnd

theorem State.Limited.convert (h : s.Limited) (millivolts : Nat) : (s.convert millivolts).Limited := by
  have counted := h.sample (threshold := s.threshold) (millivolts := millivolts)
  refine h.ite (.ite ?_ (.ite ?_ counted))
  · split
    · exact counted.enterQuiesce
    · exact counted
  · split
    · exact counted.recover
    · exact counted

/-! ### Starts, GO and PURGE (R149 to R154, R161) -/

/-- The start values: an empty queue, no notice, and every count and run at 0 (R149, R161). -/
theorem State.limited_blank (hqueue : t.line.queue = []) (htallies : t.line.tallies = (0, 0, 0, 0))
    (hnotices : t.notices = []) (hsample : t.supply.sample ≤ 255)
    (hruns : t.supply.warnRun = 0 ∧ t.supply.recoverRun = 0 ∧ t.ctl.listenCount = 0) : t.Limited := by
  obtain ⟨hwarn, hrecover, hlisten⟩ := hruns
  simp only [LineCtl.tallies, Prod.mk.injEq] at htallies
  obtain ⟨hcollisions, herrors, hstale, hconsecutive⟩ := htallies
  refine ⟨?_, ?_, ?_, ?_⟩
  · simp [State.queueOk, hqueue]
  · simp [LineCtl.countsOk, hcollisions, herrors, hstale, hconsecutive]
  · simp [State.noticesOk, hnotices]
  · simp [State.supplyOk, hsample, hwarn, hrecover, hlisten]

theorem State.Limited.enterRelink (h : s.Limited) : s.enterRelink.Limited := by
  have listening : State.Limited { s with ctl := { s.ctl with listenCount := 0, listenOver := false } } :=
    h.listen (Nat.zero_le _)
  have entered := listening.same (State.gauges_setStation .relink _)
  have owed (u : State) (hu : u.Limited) : u.oweAll.Limited := hu.same rfl
  have timed (u : State) (hu : u.Limited) : u.relinkTimer.Limited := hu.same (by simp [State.gauges])
  exact timed _ (owed _ entered).announce

theorem State.Limited.enterSetup (h : s.Limited) : s.enterSetup.Limited := by
  have entered : (s.setStation .setup).Limited := h.same (s.gauges_setStation .setup)
  exact entered.announce.raise

theorem State.Limited.endWarm (h : s.Limited) : s.endWarm.Limited := by
  have fresh : (State.freshInterval (State.freshLinks
      (State.closeEdit { s with store := { s.store with epoch := s.store.epoch + 1 } }))).Limited := h.same rfl
  exact fresh.enterRelink.raise

theorem State.Limited.endCold (h : s.Limited) : s.endCold.Limited := by
  have rewritten : s.coldRewrite.freshInterval.Limited := h.same rfl
  exact rewritten.enterSetup

theorem State.Limited.takePurge (h : s.Limited) : s.takePurge.Limited := by
  obtain ⟨sample, _⟩ := h.supply
  exact State.Limited.enterSetup (State.limited_blank rfl rfl rfl sample ⟨rfl, rfl, rfl⟩)

/-! ### Settling -/

theorem State.Limited.settle (h : s.Limited) : s.settle.Limited := by
  unfold State.settle
  rw [State.settleAll_eq]
  exact (State.Limited.settleDue ((h.endWarm.ite h.endCold).ite h)).ite h

theorem State.Limited.tick (h : s.Limited) : s.tick.Limited := by
  have lamp : s.settle.tickLamp.Limited := h.settle.same (by simp [State.gauges])
  have pace : s.settle.tickLamp.tickPace.Limited := by
    unfold State.tickPace
    split
    · exact lamp
    · exact lamp.expirePace.ite (lamp.same rfl)
  show (s.settle.tickLamp.tickPace.tickSweep).Limited
  unfold State.tickSweep
  split
  · exact pace
  · exact pace.takeSweep.ite (pace.same rfl)

/-! ### Commands at the card port -/

theorem State.Limited.takeProvision (h : s.Limited) (f : ProvisionFields) (g : Nat) : (s.takeProvision f g).Limited := by
  have entered : (State.closeEdit { s with records := s.records ++ [s.newRecord f g] }).Limited := h.same rfl
  exact entered.checkSingle.restartRoll.settleChange.ite entered

theorem State.Limited.takeDrop (h : s.Limited) : (s.takeDrop r).Limited :=
  (State.Limited.restartRoll (h.removeRecord.appendRelease.ite h.removeRecord)).settleChange

theorem State.Limited.takeRearm (h : s.Limited) : (s.takeRearm r).Limited := by
  have unclashed : (s.unclash r).Limited := h.same rfl
  exact unclashed.enter.checkSingle.settleChange.ite unclashed.enter.enter.settleChange

/-- READ NOTICES takes notices off the queue (R185). -/
theorem State.Limited.dropNotices (h : s.Limited) (n : Nat) : State.Limited { s with notices := s.notices.drop n } := by
  refine ⟨h.queue, h.counts, ?_, h.supply⟩
  have notices := h.notices
  rw [State.noticesOk] at notices ⊢
  rw [List.length_drop]
  omega

/-- Every command that is taken keeps the limits. -/
theorem CardCommand.judge_limited {c : CardCommand} (h : s.Limited) {b : List Byte} (hj : c.judge s = .take t b) :
    t.Limited := by
  unfold CardCommand.judge at hj
  split at hj
  · cases hj
  rename_i hgate
  clear hgate
  cases c <;> simp only [CardCommand.run] at hj
  case nop => cases hj
  case status => cases hj; exact h
  case configure c =>
    unfold State.doConfigure at hj
    split at hj <;> cases hj
    exact h.same rfl
  case go => cases hj; exact h.enterRelink
  case provision f =>
    unfold State.doProvision at hj
    split at hj <;> cases hj
    exact h.takeProvision f _
  case drop tag =>
    unfold State.doDrop at hj
    split at hj
    · cases hj
    · split at hj <;> cases hj
      exact h.takeDrop
  case rearm tag =>
    unfold State.doRearm at hj
    split at hj
    · cases hj
    · split at hj <;> cases hj
      exact h.takeRearm
  case query tag => unfold State.doQuery at hj; split at hj <;> cases hj; exact h
  case readEntry cls index =>
    unfold State.doReadEntry at hj
    split at hj
    · cases hj
    · split at hj <;> cases hj
      exact h
  case readPeer slot => unfold State.doReadPeer at hj; split at hj <;> cases hj; exact h
  case readNotices => cases hj; exact h.dropNotices 4
  case readEvents | setEnables => cases hj; exact h.same rfl
  case setPace reload mode =>
    unfold State.doSetPace at hj
    split at hj <;> cases hj
    exact h.same (by simp [State.gauges])
  case stepPace =>
    unfold State.doStep at hj
    split at hj
    · cases hj
    · split at hj <;> cases hj <;> exact h.same rfl
  case purge => cases hj; exact h.takePurge
  case unmute =>
    cases hj
    have ended : State.Limited { s with line := { s.line with muted := false, retry := false, consecutive := 0 } } :=
      h.endRetry rfl rfl
    exact ended.same (State.gauges_judgeLamp _)

theorem State.Limited.transfer (h : s.Limited) (c : CardCommand) (k : Nat) : (s.transfer c k).Limited := by
  refine .ite (h.same rfl) ?_
  have ended : (s.endTransfer (c.record.length + k)).Limited := h.same rfl
  rcases (s.endTransfer (c.record.length + k)).takeCommand_cases c with ⟨r, p, _, e⟩ | ⟨t, p, hj, e⟩ | ⟨_, e⟩ <;> rw [e]
  · exact ended.same rfl
  · exact (CardCommand.judge_limited ended hj).same rfl
  · exact ended

theorem State.Limited.rejectTransfer (h : s.Limited) (bytes : List Byte) : (s.rejectTransfer bytes).Limited := by
  unfold State.rejectTransfer
  dsimp only
  repeat' split
  all_goals exact h.same rfl

/-! ### The rows -/

theorem State.Limited.readStraps (h : s.Limited) (slotPins sizePins : Nat) : (s.readStraps slotPins sizePins).Limited := by
  have read : State.Limited { s with
      ctl := { s.ctl with slot := slotPins, size := shelfSize sizePins, resetHeld := false }
      line := { s.line with lastSender := slotPins } } := h.same rfl
  exact .ite (.ite (read.same (State.gauges_setStation .strapFault _)) (read.same rfl)) h

/-- Every row keeps the limits. -/
theorem exec_limited (c : Instr) (h : s.Limited) (he : exec c s = .next t) : t.Limited := by
  have settled := h.settle
  cases c <;> cases he
  case nop | status | configure | go | provision | drop | rearm | query | readEntry | readPeer | readNotices |
      readEvents | setEnables | setPace | stepPace | purge | unmute =>
    exact settled.transfer _ _
  case rejectedRecord bytes => exact settled.rejectTransfer bytes
  case start cause cut => exact State.limited_blank rfl rfl rfl (Nat.zero_le _) ⟨rfl, rfl, rfl⟩
  case strapRead slotPins sizePins => exact settled.readStraps slotPins sizePins
  case warmStart => exact h.endWarm.ite h
  case coldStart => exact h.endCold.ite h
  case keepAliveClear => exact settled.same rfl
  case conversionResult millivolts => exact settled.convert millivolts
  case sweep => exact settled.takeSweep
  case peerSilent => exact h.takeSilence
  case beaconDue => exact h.takeBeacon
  case claimResend => exact h.resendTag
  case rollAbandon => exact h.takeAbandon
  case listenIntervalEnd => exact h.takeListenEnd
  case paceExpiry => exact settled.expirePace
  case probeCompletion => exact h.takeCompletion
  case echoFault => exact h.takeEcho
  case linePosition => exact .ite (settled.takeTurns _) settled
  case frameSentWhole => exact settled.takeSentWhole
  case collision => exact settled.takeCollision
  case beaconReceived | rollReceived | offerReceived | answerReceived | releaseReceived | otherFrameReceived =>
    exact settled.receive
  case badFrameReceived => exact settled.ite (settled.lineError.ite settled)
  case jamReceived => exact settled
  case lampPeriod => exact settled.same (by simp [State.gauges])
  case highwayFrame => exact settled.same rfl
  case chipSelectAsserted => exact settled.same (by simp [State.gauges])

end Rules

end Sys2Proof.Machine

open Sys2Proof Sys2Proof.Machine

/-- Settles O53: one millisecond and every row keep the limits. -/
theorem limitsKept : Obligations.LimitsKept := by
  intro s t queue counts notices supply hstep
  have limited : s.Limited := ⟨queue, counts, notices, supply⟩
  have after : t.Limited := by
    unfold step at hstep
    split at hstep
    · cases hstep
      exact limited.tick
    · rename_i c rest _
      exact exec_limited (s := { s with pending := rest }) c (limited.same rfl) hstep
  exact ⟨after.queue, after.counts, after.notices, after.supply⟩

end

section
/-! PROOF. Requests posted and none lost, while the rest of the line stays as it is (R128 to R130): the relation, and the rules
by which postings and the effects of a frame on the line keep it. -/

namespace Sys2Proof.Machine

variable {s t u : State} {req q : Request} {p : Nat}

/-! ### The relation -/

/-- The line apart from what a posting changes: the queue, its escalation and the want mark of the BEACON. -/
def LineCtl.access (l : LineCtl) : LineCtl := { l with queue := [], beaconWant := false, escalated := false }

/-- From `s` to `t` requests have been posted behind those that wait, and none that was owed is lost; the rest of the line, the
Retention Store and the counters are as they were, and the station but for the end of RELINK. -/
structure State.Posts (s t : State) : Prop extends State.Quiet s t where
  queue : s.line.queue <+: t.line.queue
  owes : ∀ req, s.owes req → t.owes req
  access : t.line.access = s.line.access
  store : t.store = s.store

theorem State.Posts.refl (s : State) : s.Posts s := ⟨.of_eq rfl rfl rfl rfl, List.prefix_rfl, fun _ => id, rfl, rfl⟩

theorem State.Posts.trans (h : s.Posts t) (k : t.Posts u) : s.Posts u :=
  ⟨h.toQuiet.trans k.toQuiet, h.queue.trans k.queue, fun req => k.owes req ∘ h.owes req, k.access.trans h.access,
    k.store.trans h.store⟩

theorem State.Posts.ite {c : Prop} [Decidable c] (h : s.Posts t) (k : s.Posts u) : s.Posts (if c then t else u) := by
  split <;> assumption

theorem State.Posts.each {α : Type} (h : s.Posts t) {xs : List α} {f : α → State → State}
    (hf : ∀ x (u : State), u.Posts (f x u)) : s.Posts (t.each xs f) := by
  induction xs generalizing t with
  | nil => exact h
  | cons x xs ih => exact ih (h.trans (hf x t))

/-- What posting changes of the line is no part of the rest of it. -/
theorem State.Posts.line_congr {β : Type} (h : s.Posts t) (g : LineCtl → β) (hg : ∀ l : LineCtl, g l.access = g l) :
    g t.line = g s.line := by rw [← hg, h.access, hg]

/-! ### Rules -/

/-- An operation on other blocks. -/
theorem State.Posts.same (h : s.Posts t) (hline : u.line = t.line) (hpeers : u.peers = t.peers) (hctl : u.ctl = t.ctl)
    (hsweep : u.sweep = t.sweep) (hhw : u.hw = t.hw) (hstore : u.store = t.store) : s.Posts u :=
  h.trans ⟨.of_eq hctl hsweep hhw (by rw [hline]), by rw [hline], fun _ => (State.owes_congr hline hpeers).mpr, by rw [hline],
    hstore⟩

/-- A change of a peer record in other fields than its want marks. -/
theorem State.Posts.updPeer (h : s.Posts t) {f : Peer → Peer} (hf : ∀ x, (f x).wants = x.wants) :
    s.Posts (t.updPeer p f) :=
  h.trans ⟨.of_eq rfl rfl rfl rfl, List.prefix_rfl,
    fun _ => Or.imp id (State.wanted_mono (s := t) id (State.within_updPeer fun x => hf x ▸ .refl x.wants)), rfl, rfl⟩

theorem State.Posts.setRollOut (h : s.Posts t) {x : RollOut} : s.Posts (t.setRollOut p x) := h.updPeer fun _ => rfl

theorem State.queue_request (req : Request) (s : State) : s.line.queue <+: (s.request req).line.queue := by
  rcases s.request_cases req with ⟨_, e⟩ | ⟨_, _, e⟩ | ⟨_, _, e⟩ <;> rw [e]
  · exact List.prefix_append _ _
  · rw [State.setWant_queue]

theorem State.access_setWant (req : Request) (b : Bool) (s : State) : (s.setWant req b).line.access = s.line.access := by
  cases req <;> rfl

theorem State.access_request (req : Request) (s : State) : (s.request req).line.access = s.line.access := by
  rcases s.request_cases req with ⟨_, e⟩ | ⟨_, _, e⟩ | ⟨_, _, e⟩ <;> rw [e]
  · rfl
  · exact State.access_setWant req true s

theorem State.Posts.request (h : s.Posts t) : s.Posts (t.request req) :=
  h.trans ⟨.of_eq (by simp) (by simp) (by simp) (by simp), t.queue_request req, fun _ => State.owes_request,
    t.access_request req, by simp⟩

theorem State.Posts.pass (h : s.Posts t) : s.Posts (t.pass p) := h.request.ite h

theorem State.Posts.passAll (h : s.Posts t) : s.Posts t.passAll := h.each fun _ u => (State.Posts.refl u).pass

theorem State.Posts.checkSingle (h : s.Posts t) : s.Posts (t.checkSingle p) := h.request.ite h

theorem State.announce_line (s : State) :
    s.line.queue <+: s.announce.line.queue ∧ s.announce.line.access = s.line.access :=
  ⟨State.queue_request .beacon { s with sweep := { s.sweep with beaconCount := 0 } }, State.access_request .beacon _⟩

/-- The end of RELINK posts its BEACON (R156, R62). -/
theorem State.Posts.judgeEnd (h : s.Posts t) : s.Posts t.judgeEnd := by
  have line : t.line.queue <+: t.judgeEnd.line.queue ∧ t.judgeEnd.line.access = t.line.access := by
    unfold State.judgeEnd
    split
    · have served : (State.raise .relinkDone (t.setStation .service)).line = t.line := by simp
      rw [← served]
      exact State.announce_line _
    · exact ⟨List.prefix_rfl, rfl⟩
  obtain ⟨queue, access⟩ := line
  exact h.trans ⟨t.quiet_judgeEnd, queue, fun _ => State.owes_judgeEnd, access, (State.judgeEnd_keeps t).2.1⟩

/-- A want mark that is converted is owed as a request (R130). -/
theorem State.Posts.convertWant (h : s.Posts t) : s.Posts (t.convertWant req) := by
  unfold State.convertWant
  split
  case isFalse => exact h
  case isTrue due =>
    simp only [Bool.and_eq_true] at due
    obtain ⟨_, wanted⟩ := due
    refine h.trans ⟨.of_eq (by simp) (by simp) (by simp) ?_, ?_, fun q owed => ?_, ?_, by simp⟩
    · rw [State.request_lastSender]
      cases req <;> rfl
    · have cleared := State.queue_request req (t.setWant req false)
      rwa [State.setWant_queue] at cleared
    · by_cases same : q = req
      · subst same
        refine State.owes_request_self fun p hp => ?_
        by_contra out
        rw [State.wanted_of_peer hp, State.peer_of_length_le ?_] at wanted
        · cases q <;> cases wanted
        · rw [State.setWant_of_peer hp, State.length_updPeer] at out
          exact not_lt.mp out
      · exact State.owes_request (owed.imp (by simp) fun wanted => by rwa [State.wanted_setWant_of_ne same])
    · exact (State.access_request _ _).trans (State.access_setWant req false t)

theorem State.Posts.convertWants (h : s.Posts t) : s.Posts t.convertWants :=
  h.each fun _ u => (State.Posts.refl u).convertWant

theorem State.Posts.enter (h : s.Posts t) {g : Nat} {new : Relink} (hne : new ≠ .clashed) {due : Bool} {sends : Nat} :
    s.Posts (t.enter g new due sends) :=
  h.same (by simp) (by simp) (by simp) (by simp) (by simp) (State.enter_of_ne hne g).2

end Sys2Proof.Machine
end

section
/-! PROOF. A collision (O43): the line after it, and what the abort of the frame changes beside the line. -/

namespace Sys2Proof.Machine

variable {s : State} {f : InFlight} {req : Request} {p : Nat}

/-- The line after a collision, with its jam, apart from the requests (R138, R139). -/
theorem LineCtl.access_collide (l : LineCtl) : { l.collide with out := .jam }.access =
    { l.access with
      out := .jam, collisions := min 255 (l.collisions + 1), retry := true
      consecutive := if l.retry = true then min 2 (l.consecutive + 1) else 0
      muted := l.muted || (l.retry && decide (1 ≤ l.consecutive)) } := by
  cases h : l.retry <;> simp [LineCtl.collide, LineCtl.access, h, satSucc_eq_min]

/-- The frame is off the line and the collision counted; its effects are still to be taken. -/
def State.collided (s : State) : State := { s with line := { s.line.collide with out := .jam } }

theorem LineCtl.flying_collide (l : LineCtl) : l.collide.flying = l.flying := by
  unfold LineCtl.collide
  split <;> rfl

theorem LineCtl.flying_of_sending {l : LineCtl} (h : l.out = .sending f) : l.flying = some f := by
  simp [LineCtl.flying, h]

/-- A collision in one piece (R138, R139). -/
theorem State.takeCollision_of_sending (h : s.line.out = .sending f) : s.takeCollision =
    ((s.collided.abortEffects f.req).raiseIf (s.line.retry && decide (2 ≤ s.line.consecutive + 1)) .slotConflict).judgeLamp := by
  have flying := LineCtl.flying_of_sending h
  have jammed : State.jamFrame { s with line := s.line.collide } = s.collided.abortEffects f.req := by
    rw [State.jamFrame, LineCtl.flying_collide, flying]
    rfl
  rw [State.takeCollision, flying, jammed]
  rfl

theorem exec_collision (calm : s.calm) : exec .collision s = .next s.takeCollision :=
  congrArg (fun t => Host.Outcome.next (State.takeCollision t)) (State.settle_of_calm calm)

/-! ### The abort (R69) -/

theorem State.posts_abortEffects (req : Request) (s : State) : s.Posts (s.abortEffects req) := by
  cases req with
  | roll p =>
    have owed : s.Posts (if (s.peer p).rollOut = .sending then s.oweRoll p else s) := by
      refine .ite (State.Posts.setRollOut (.ite ?_ (.refl s))) (.refl s)
      exact (State.Posts.refl s).same rfl rfl rfl rfl rfl rfl
    exact owed.pass.ite owed
  | beacon | rollOffer | singleOffer | answer | release => exact .refl s

/-- Only the abort of a ROLL changes anything beside the line. -/
theorem State.abortEffects_of_ne (h : ∀ p, req ≠ .roll p) (s : State) : s.abortEffects req = s := by
  cases req with
  | roll p => exact absurd rfl (h p)
  | beacon | rollOffer | singleOffer | answer | release => rfl

/-- A roll that is SENDING goes back to OWED, and the marks of its build are cleared (R69). -/
theorem State.abortEffects_of_sending (h : (s.peer p).rollOut = .sending) :
    ((s.abortEffects (.roll p)).peer p).rollOut = .owed ∧
      (s.abortEffects (.roll p)).records = s.records.map (Circuit.unmark p true false) := by
  have owed : ((s.oweRoll p).peer p).rollOut = .owed := by
    rw [State.peer_oweRoll (State.lt_of_sending h), if_pos rfl]
  have passed : s.abortEffects (.roll p) = (s.oweRoll p).pass p := by simp only [State.abortEffects, if_pos h, if_pos owed]
  rw [passed, (State.pass_keeps p _).1, State.oweRoll_records, h]
  obtain ⟨w, hw⟩ := (s.oweRoll p).peer_pass p p
  exact ⟨by rw [hw]; exact owed, rfl⟩

end Sys2Proof.Machine

open Sys2Proof Sys2Proof.Machine

/-- Settles O43: the line by the counting of the collision, the rest by what the abort changes. -/
theorem collisionBacksOff : Obligations.CollisionBacksOff := by
  intro s calm
  rw [exec_collision calm]
  refine ⟨fun idle => by simp [State.takeCollision, idle], fun f sending => ⟨_, rfl, ?_⟩⟩
  have posts := State.posts_abortEffects f.req s.collided
  have access := posts.access.trans s.line.access_collide
  have queue : s.collided.line.queue = s.line.queue := s.line.collide_queue
  have retried : (s.line.retry && decide (2 ≤ s.line.consecutive + 1)) = true ↔
      s.line.retry = true ∧ 1 ≤ s.line.consecutive := by
    rw [Bool.and_eq_true, decide_eq_true_iff]
    exact and_congr_right fun _ => by omega
  rw [State.takeCollision_of_sending sending]
  simp only [State.judgeLamp_keeps, State.raiseIf_keeps]
  refine ⟨congrArg LineCtl.out access, congrArg LineCtl.collisions access, congrArg LineCtl.retry access,
    congrArg LineCtl.consecutive access, congrArg LineCtl.muted access, (congrArg LineCtl.lastSender access :),
    queue ▸ posts.queue, ?_, posts.store, ?_, ?_, fun other => ?_, fun p roll was => ?_⟩
  · simp only [State.raiseIf, retried]
    split <;> simp [State.raise, State.collided]
  · simp [State.collided]
  · simp [State.collided]
  · rw [State.abortEffects_of_ne other]
    exact ⟨rfl, rfl, queue⟩
  · obtain ⟨owed, records⟩ := State.abortEffects_of_sending (s := s.collided) was
    rw [roll]
    refine ⟨?_, fun r hr far => ?_⟩
    · rw [State.peer_congr (s := s.collided.abortEffects (.roll p)) (by simp)]
      exact owed
    · rw [records] at hr
      obtain ⟨x, _, rfl⟩ := List.mem_map.mp hr
      have far : x.farSlot = p := by simpa using far
      simp [Circuit.unmark, far]

end

section
/-! PROOF. The claims of an OFFER sent (R27): what becomes of each record that it carried, and of nothing else. -/

namespace Sys2Proof.Machine

variable {s t : State} {r x : Circuit} {roll : Bool} {h : Nat}

/-! ### One record -/

/-- What a claim sent makes of its record (R27); `roll`: the frame was a roll OFFER. -/
def Circuit.sent (roll : Bool) (r : Circuit) : Circuit :=
  let x : Circuit := { r with claimDue := false, rollMark := if roll then false else r.rollMark }
  match r.state with
  | .parked | .deferred | .refused _ => x.enter .offered false 1
  | .offered => { x with sendCount := satSucc 4 x.sendCount, sweepsSinceSend := 0, resendDue := false }
  | .confirmed | .probing _ | .opened _ | .clashed => x

theorem Circuit.sent_kept (roll : Bool) (r : Circuit) : (r.sent roll).retained = r.retained ∧
    (r.sent roll).inUse = r.inUse ∧ (r.sent roll).claimDue = false ∧
    (r.sent roll).rollMark = if roll then false else r.rollMark := by
  unfold Circuit.sent
  dsimp only
  split <;> exact ⟨rfl, rfl, rfl, rfl⟩

theorem Circuit.sent_place (roll : Bool) (r : Circuit) : (r.sent roll).place = r.place := by
  obtain ⟨retained, _⟩ := r.sent_kept roll
  exact congrArg (·.1) retained

theorem Circuit.sent_of_waiting (h : r.state = .parked ∨ r.state = .deferred ∨ r.state.isRefused = true) :
    (r.sent roll).state = .offered ∧ (r.sent roll).sendCount = 1 ∧ (r.sent roll).sweepsSinceSend = 0 := by
  cases hst : r.state <;> simp [hst, Relink.isRefused, relinkByte] at h <;> simp [Circuit.sent, hst, Circuit.enter]

theorem Circuit.sent_of_offered (h : r.state = .offered) : (r.sent roll).state = .offered ∧
    (r.sent roll).sweepsSinceSend = 0 ∧ (r.sent roll).sendCount = if r.sendCount < 4 then r.sendCount + 1 else 4 := by
  simp [Circuit.sent, h, satSucc]

theorem Circuit.sent_of_settled
    (h : r.state = .confirmed ∨ r.state.isProbing = true ∨ r.state.isOpen = true ∨ r.state = .clashed) :
    (r.sent roll).state = r.state ∧ (r.sent roll).sendCount = r.sendCount := by
  cases hst : r.state <;> simp [hst, Relink.isProbing, Relink.isOpen, relinkByte] at h <;> simp [Circuit.sent, hst]

/-! ### One claim -/

/-- Two changes of the record in one place, one after the other. -/
theorem map_place_map_place {f : Circuit → Circuit} (hf : ∀ r, (f r).place = r.place) (g : Circuit → Circuit) (h : Nat)
    (rs : List Circuit) :
    (rs.map (fun r => if r.place = h then f r else r)).map (fun r => if r.place = h then g r else r) =
      rs.map (fun r => if r.place = h then g (f r) else r) := by
  rw [List.map_map]
  refine List.map_congr_left fun r _ => ?_
  by_cases e : r.place = h <;> simp [e, hf]

theorem State.claimSent_records (places : (s.records.map (·.place)).Nodup) (roll : Bool) (h : Nat) :
    (s.claimSent roll h).records = s.records.map (fun r => if r.place = h then r.sent roll else r) := by
  cases hfind : s.findPlace h with
  | none =>
    have absent (r : Circuit) (hr : r ∈ s.records) : ¬ r.place = h := by simpa using List.find?_eq_none.mp hfind r hr
    have stays : s.claimSent roll h = s := by rw [State.claimSent, hfind]
    rw [stays, List.map_congr_left fun r hr => if_neg (absent r hr), List.map_id']
  | some r =>
    obtain ⟨hr, rfl⟩ := State.mem_of_findPlace hfind
    -- a change of the records in the place is a change of this record
    have here {g : Circuit → Circuit} (hg : g r = r.sent roll) :
        s.records.map (fun x => if x.place = r.place then g x else x) =
          s.records.map (fun x => if x.place = r.place then x.sent roll else x) := by
      refine List.map_congr_left fun x hx => ?_
      split
      · obtain rfl := List.inj_on_of_nodup_map places hx hr ‹_›
        exact hg
      · rfl
    rw [State.claimSent, hfind]
    dsimp only
    cases hst : r.state with
    | parked | deferred | refused =>
      dsimp only
      rw [State.settleChange, (State.judgeEnd_keeps _).1]
      simp only [Bool.false_eq_true, if_false]
      rw [(State.enter_of_ne (by simp) r.place).1, State.mapRec_records, map_place_map_place fun _ => by rfl]
      exact here (by simp [Circuit.sent, hst])
    | offered =>
      dsimp only
      rw [State.mapRec_records, State.mapRec_records, map_place_map_place fun _ => by rfl]
      exact here (by simp [Circuit.sent, hst])
    | confirmed | probing | opened | clashed => exact here (by simp [Circuit.sent, hst])

theorem State.posts_claimSent (roll : Bool) (h : Nat) (s : State) : s.Posts (s.claimSent roll h) := by
  have mapped {t : State} (k : s.Posts t) (f : Circuit → Circuit) : s.Posts (t.mapRec h f) := k.same rfl rfl rfl rfl rfl rfl
  unfold State.claimSent
  split
  · exact .refl s
  · dsimp only
    split
    case h_1 | h_2 | h_3 => exact ((mapped (.refl s) _).enter (by simp)).judgeEnd
    case h_4 => exact mapped (mapped (.refl s) _) _
    case h_5 | h_6 | h_7 | h_8 => exact mapped (.refl s) _

theorem State.claimSent_peers (roll : Bool) (h : Nat) (s : State) : (s.claimSent roll h).peers = s.peers := by
  unfold State.claimSent
  split
  · rfl
  · dsimp only
    split <;> simp

/-! ### All of them -/

/-- Each record is sent as often as the list names its place. -/
theorem State.each_claimSent_records (places : (s.records.map (·.place)).Nodup) (roll : Bool) (hs : List Nat) :
    (s.each hs (State.claimSent roll)).records =
      s.records.map (fun r => (Circuit.sent roll)^[hs.count r.place] r) := by
  induction hs generalizing s with
  | nil => simp [State.each]
  | cons h hs ih =>
    have first : s.each (h :: hs) (State.claimSent roll) = (s.claimSent roll h).each hs (State.claimSent roll) := rfl
    have records := State.claimSent_records places roll h
    have places' : ((s.claimSent roll h).records.map (·.place)).Nodup := by
      rw [records, List.map_map]
      refine (congrArg List.Nodup (List.map_congr_left fun r _ => ?_)).mpr places
      simp only [Function.comp]
      split
      · exact r.sent_place roll
      · rfl
    rw [first, ih places', records, List.map_map]
    refine List.map_congr_left fun r _ => ?_
    simp only [Function.comp]
    by_cases e : r.place = h
    · rw [if_pos e, Circuit.sent_place, ← e, List.count_cons_self, Function.iterate_succ_apply]
    · rw [if_neg e, List.count_cons_of_ne (Ne.symm e)]

theorem State.posts_claimsSent (roll : Bool) (hs : List Nat) (s : State) : s.Posts (s.claimsSent roll hs) :=
  ((State.Posts.refl s).each fun h u => u.posts_claimSent roll h).ite (.refl s)

theorem State.claimsSent_peers (roll : Bool) (hs : List Nat) (s : State) : (s.claimsSent roll hs).peers = s.peers := by
  unfold State.claimsSent
  split
  · exact State.each_keeps (·.peers) _ _ (fun h u => u.claimSent_peers roll h) s
  · rfl

theorem State.claimsSent_records (ok : s.tableOk) (hrun : s.running = true) (roll : Bool) (hs : List Nat) :
    (s.claimsSent roll hs).records = s.records.map (fun r => (Circuit.sent roll)^[hs.count r.place] r) := by
  rw [State.claimsSent, if_pos hrun, State.each_claimSent_records ok.places]

/-- A record that the frame did not carry stays as it is. -/
theorem State.mem_claimsSent_of_not_mem (ok : s.tableOk) (hrun : s.running = true) {hs : List Nat} (hr : r ∈ s.records)
    (hnot : r.place ∉ hs) : r ∈ (s.claimsSent roll hs).records := by
  rw [State.claimsSent_records ok hrun]
  exact List.mem_map.mpr ⟨r, hr, by rw [List.count_eq_zero_of_not_mem hnot]; rfl⟩

/-- A record that the frame carried once has its claim sent. -/
theorem State.mem_claimsSent_of_mem (ok : s.tableOk) (hrun : s.running = true) {hs : List Nat} (once : hs.Nodup)
    (hr : r ∈ s.records) (hmem : r.place ∈ hs) : r.sent roll ∈ (s.claimsSent roll hs).records := by
  rw [State.claimsSent_records ok hrun]
  exact List.mem_map.mpr ⟨r, hr, by rw [List.count_eq_one_of_mem once hmem]; rfl⟩

/-- Where a roll OFFER carried every marked record towards a peer, none is left (R70). -/
theorem State.unmarked_claimsSent (ok : s.tableOk) (hrun : s.running = true) {p : Nat} {hs : List Nat}
    (all : ∀ r ∈ s.records, r.farSlot = p → r.rollMark = true → r.place ∈ hs) :
    ∀ x ∈ (s.claimsSent true hs).records, x.farSlot = p → x.rollMark = false := by
  intro x hx far
  rw [State.claimsSent_records ok hrun] at hx
  obtain ⟨r, hr, rfl⟩ := List.mem_map.mp hx
  cases hcount : hs.count r.place with
  | zero =>
    rw [hcount] at far
    exact Bool.eq_false_iff.mpr fun mark => List.count_eq_zero.mp hcount (all r hr far mark)
  | succ n =>
    rw [Function.iterate_succ_apply']
    obtain ⟨_, _, _, mark⟩ := ((Circuit.sent true)^[n] r).sent_kept true
    exact mark

end Sys2Proof.Machine
end

section
/-! PROOF. A frame sent whole (O42): its request leaves the queue, the effects of its kind, and what follows them (R134). -/

namespace Sys2Proof.Machine

variable {s t u : State} {f : InFlight} {r x : Circuit} {req q : Request} {p : Nat}

/-! ### The request leaves the queue -/

/-- The line with the frame off it, and its request off the queue where it still stood there (R134). -/
def LineCtl.landed (f : InFlight) (l : LineCtl) : LineCtl :=
  if f.queued then
    { l with out := .released, queue := l.queue.drop 1, escalated := escalation l.escalated (l.queue.drop 1).length }
  else { l with out := .released }

/-- The state in which the effects of the frame's kind are taken. -/
def State.landed (f : InFlight) (s : State) : State := { s with line := s.line.landed f }

theorem LineCtl.landed_queue (f : InFlight) (l : LineCtl) :
    (l.landed f).queue = if f.queued = true then l.queue.tail else l.queue := by
  unfold LineCtl.landed
  split
  · exact List.drop_one
  · rfl

theorem LineCtl.access_landed (f : InFlight) (l : LineCtl) : (l.landed f).access = { l.access with out := .released } := by
  unfold LineCtl.landed
  split <;> rfl

theorem State.wanted_landed (f : InFlight) (s : State) : (s.landed f).wanted req = s.wanted req := by
  cases req with
  | beacon =>
    show (s.line.landed f).beaconWant = s.line.beaconWant
    unfold LineCtl.landed
    split <;> rfl
  | roll | rollOffer | singleOffer | answer | release => rfl

/-! ### What follows the effects -/

/-- The last sender is the own slot and retry mode is over (R134). -/
def State.rested (s : State) : State :=
  { s with line := { s.line with lastSender := s.ctl.slot, retry := false, consecutive := 0 } }

/-- What follows the effects of the frame's kind: the conversion and the release pass among it (R130, R67). -/
def State.concluded (s : State) : State := s.rested.convertWants.passAll

theorem State.sentWhole_eq (f : InFlight) (s : State) : s.sentWhole f = ((s.landed f).sentEffects f).concluded := by
  unfold State.sentWhole State.landed LineCtl.landed
  split <;> rfl

theorem State.posts_concluded (s : State) : s.rested.Posts s.concluded := (State.Posts.refl s.rested).convertWants.passAll

theorem State.wanted_rested (s : State) : s.rested.wanted req = s.wanted req := by cases req <;> rfl

theorem State.owes_concluded (h : s.owes req) : s.concluded.owes req :=
  s.posts_concluded.owes req (h.imp id fun wanted => s.wanted_rested.trans wanted)

theorem State.concluded_records (s : State) : s.concluded.records = s.records := by
  simp [State.concluded, State.rested]

/-- What follows takes nothing of a peer record but its want marks. -/
theorem State.concluded_field {β : Type} (g : Peer → β) (hg : ∀ (x : Peer) (w : WantMarks), g { x with wants := w } = g x)
    (k : Nat) (s : State) : g (s.concluded.peer k) = g (s.peer k) := by
  have passed (u : State) : g (u.passAll.peer k) = g (u.peer k) := by
    refine State.each_keeps (fun u => g (u.peer k)) _ _ (fun p u => ?_) u
    obtain ⟨w, hw⟩ := u.peer_pass p k
    rw [hw, hg]
  exact (passed _).trans (State.convertWants_field g hg k s.rested)

/-! ### The effects of each kind -/

theorem State.posts_sentEffects (f : InFlight) (s : State) : s.Posts (s.sentEffects f) := by
  have start := State.Posts.refl s
  unfold State.sentEffects
  cases f.req with
  | beacon => exact start
  | roll p =>
    dsimp only
    split
    · exact start.request.ite start.setRollOut.judgeEnd
    · exact start.pass
    · exact start
  | rollOffer p =>
    have sent := s.posts_claimsSent true f.carried
    exact (sent.request.ite sent.setRollOut.judgeEnd).ite sent
  | singleOffer p => exact (s.posts_claimsSent false f.carried).checkSingle
  | answer p | release p =>
    dsimp only
    exact .ite (start.updPeer fun _ => rfl) (State.Posts.request (start.updPeer fun _ => rfl))

/-- What every frame sent whole leaves of the line, the notices and the Retention Store, and of the requests. -/
theorem State.sentWhole_line (f : InFlight) (s : State) : (s.sentWhole f).line.flying = none ∧
    (s.sentWhole f).line.lastSender = s.ctl.slot ∧ (s.sentWhole f).line.retry = false ∧
    (s.sentWhole f).line.consecutive = 0 ∧ (s.sentWhole f).line.collisions = s.line.collisions ∧
    (s.sentWhole f).notices = s.notices ∧ (s.sentWhole f).store = s.store ∧
    (f.queued = true → s.line.queue.tail <+: (s.sentWhole f).line.queue) ∧
    ∀ req, s.wanted req = true → (s.sentWhole f).owes req := by
  have effects := (s.landed f).posts_sentEffects f
  have rest := ((s.landed f).sentEffects f).posts_concluded
  have slot : ((s.landed f).sentEffects f).ctl.slot = s.ctl.slot := effects.ctl_congr Station.slot fun _ _ => rfl
  have landed := effects.access.trans (s.line.access_landed f)
  have out : (s.sentWhole f).line.out = .released := by
    rw [State.sentWhole_eq]
    exact (rest.line_congr LineCtl.out fun _ => rfl).trans (congrArg LineCtl.out landed)
  refine ⟨by rw [LineCtl.flying, out], ?_⟩
  rw [State.sentWhole_eq]
  refine ⟨(rest.line_congr LineCtl.lastSender fun _ => rfl).trans slot, rest.line_congr LineCtl.retry fun _ => rfl,
    rest.line_congr LineCtl.consecutive fun _ => rfl,
    (rest.line_congr LineCtl.collisions fun _ => rfl).trans (congrArg LineCtl.collisions landed :), ?_,
    rest.store.trans effects.store, fun queued => ?_, fun req wanted => ?_⟩
  · rw [← State.sentWhole_eq]
    simp
  · have queue := s.line.landed_queue f
    rw [if_pos queued] at queue
    rw [← queue]
    exact effects.queue.trans rest.queue
  · exact State.owes_concluded (effects.owes req (.inr ((s.wanted_landed f).trans wanted)))

/-! ### A BEACON sent, and the release pass (R67) -/

theorem State.mem_slotOrder (hslot : s.ctl.slot < s.ctl.size) (h : s.addressable p = true) : p ∈ s.slotOrder := by
  obtain ⟨hlt, hne⟩ : p < s.ctl.size ∧ p ≠ s.ctl.slot := by simpa [State.addressable] using h
  rcases Nat.lt_or_gt_of_ne hne with below | above
  · refine List.mem_map.mpr ⟨p + s.ctl.size - s.ctl.slot - 1, List.mem_range.mpr (by omega), ?_⟩
    have turn : s.ctl.slot + 1 + (p + s.ctl.size - s.ctl.slot - 1) = p + s.ctl.size := by omega
    rw [turn, Nat.add_mod_right, Nat.mod_eq_of_lt hlt]
  · refine List.mem_map.mpr ⟨p - s.ctl.slot - 1, List.mem_range.mpr (by omega), ?_⟩
    have turn : s.ctl.slot + 1 + (p - s.ctl.slot - 1) = p := by omega
    rw [turn, Nat.mod_eq_of_lt hlt]

/-- What a peer record tells of its roll's being releasable (R66). -/
def Peer.awaits (x : Peer) : RollOut × Bool := (x.rollOut, x.up)

theorem State.releasable_congr (hctl : t.ctl = s.ctl) (h : (t.peer p).awaits = (s.peer p).awaits) :
    t.releasable p = s.releasable p := by
  obtain ⟨roll, up⟩ := Prod.mk.inj h
  rw [State.releasable, State.releasable, roll, up, hctl]

theorem State.lt_of_releasable (h : s.releasable p = true) : p < s.peers.length := by
  refine State.lt_of_up ?_
  simp only [State.releasable, Bool.and_eq_true] at h
  obtain ⟨⟨_, up⟩, _⟩ := h
  exact up

/-- A release pass posts the ROLL of every releasable roll it comes to (R67). -/
theorem State.owes_each_pass {ps : List Nat} (hp : p ∈ ps) (h : s.releasable p = true) :
    (s.each ps State.pass).owes (.roll p) := by
  induction ps generalizing s with
  | nil => cases hp
  | cons k ps ih =>
    have first : s.each (k :: ps) State.pass = (s.pass k).each ps State.pass := rfl
    rw [first]
    by_cases same : k = p
    · subst same
      refine ((State.Posts.refl (s.pass k)).each fun q u => (State.Posts.refl u).pass).owes _ ?_
      rw [State.pass, if_pos h]
      exact State.owes_request_self fun q hq => by
        obtain rfl : k = q := by simpa [Request.peer] using hq
        exact State.lt_of_releasable h
    · refine ih ((List.mem_cons.mp hp).resolve_left (Ne.symm same)) ?_
      obtain ⟨w, hw⟩ := s.peer_pass k p
      rw [State.releasable_congr (s := s) (by simp) (by rw [hw]; rfl), h]

/-- ... whatever is converted before it. -/
theorem State.owes_roll_concluded (hp : p ∈ s.slotOrder) (h : s.releasable p = true) : s.concluded.owes (.roll p) := by
  have order : s.rested.convertWants.slotOrder = s.slotOrder := by simp [State.slotOrder, State.rested]
  refine State.owes_each_pass (order ▸ hp) ?_
  rw [State.releasable_congr (s := s) (by simp [State.rested]) ?_, h]
  exact State.convertWants_field Peer.awaits (fun _ _ => rfl) p s.rested

/-- A pass leaves the want marks of requests that are queued as they are, and clears none. -/
theorem State.pass_wants (p : Nat) (s : State) : (∀ req, s.wanted req = true → (s.pass p).wanted req = true) ∧
    ∀ req ∈ s.line.queue, s.wanted req = false → (s.pass p).wanted req = false := by
  unfold State.pass
  split
  case isFalse => exact ⟨fun _ => id, fun _ _ => id⟩
  case isTrue =>
    rcases s.request_cases (.roll p) with ⟨_, e⟩ | ⟨_, _, e⟩ | ⟨hnew, _, e⟩ <;> rw [e]
    · exact ⟨fun _ => id, fun _ _ => id⟩
    · exact ⟨fun req h => State.wanted_mono (s := s) id (fun _ => .refl _) h, fun req _ h => by cases req <;> exact h⟩
    · refine ⟨fun req h => State.wanted_setWant h, fun req hmem h => ?_⟩
      rwa [State.wanted_setWant_of_ne (ne_of_mem_of_not_mem hmem hnew)]

theorem State.passAll_wants (s : State) : (∀ req, s.wanted req = true → s.passAll.wanted req = true) ∧
    ∀ req ∈ s.line.queue, s.wanted req = false → s.passAll.wanted req = false := by
  have walk (ps : List Nat) (u : State) : (∀ req, u.wanted req = true → (u.each ps State.pass).wanted req = true) ∧
      ∀ req ∈ u.line.queue, u.wanted req = false → (u.each ps State.pass).wanted req = false := by
    induction ps generalizing u with
    | nil => exact ⟨fun _ => id, fun _ _ => id⟩
    | cons p ps ih =>
      obtain ⟨set, clear⟩ := u.pass_wants p
      obtain ⟨set', clear'⟩ := ih (u.pass p)
      refine ⟨fun req h => set' req (set req h), fun req hmem h => clear' req ?_ (clear req hmem h)⟩
      exact (State.Posts.refl u).pass.queue.subset hmem
  exact walk s.slotOrder s

/-- The want marks converted, and the release pass after it: none of them is set again (R130). -/
theorem State.concluded_converted (room : s.line.queue.length ≤ 24)
    (hnew : ∀ req ∈ s.wantedInOrder, req ∉ s.line.queue) :
    (s.line.queue ++ s.wantedInOrder).take 24 <+: s.concluded.line.queue ∧
      s.concluded.Converted s.line.queue.length s.wantedInOrder := by
  have order : s.rested.wantedInOrder = s.wantedInOrder := State.wantedInOrder_congr rfl fun _ => s.wanted_rested
  have nodup : s.wantedInOrder.Nodup := s.nodup_wantOrder.filter _
  obtain ⟨queue, marks⟩ := State.convert_walk (s := s.rested) s.rested.nodup_wantOrder fun req hreq wanted =>
    hnew req (order ▸ List.mem_filter.mpr ⟨hreq, wanted⟩)
  have moved : (s.rested.wantOrder.filter (fun req => s.rested.wanted req)).take (24 - s.rested.line.queue.length) =
      s.wantedInOrder.take (24 - s.line.queue.length) := congrArg _ order
  rw [moved] at queue marks
  obtain ⟨set, clear⟩ := s.rested.convertWants.passAll_wants
  refine ⟨?_, fun req hreq => ?_, fun req hreq => ?_⟩
  · rw [List.take_append, List.take_of_length_le room]
    exact queue ▸ (State.Posts.refl s.rested.convertWants).passAll.queue
  · refine clear req ?_ ((marks req).trans (if_pos hreq))
    have queued : req ∈ s.rested.line.queue ++ s.wantedInOrder.take (24 - s.line.queue.length) :=
      List.mem_append_right _ hreq
    rwa [← queue] at queued
  · refine set req ((marks req).trans ?_)
    rw [if_neg fun hin => List.disjoint_take_drop nodup le_rfl hin hreq, State.wanted_rested]
    obtain ⟨_, wanted⟩ := List.mem_filter.mp (List.mem_of_mem_drop hreq)
    exact wanted

/-! ### A ROLL and its OFFERs sent (R69, R70) -/

/-- Some record towards a slot passes a test. -/
theorem State.towards_any (ok : s.tableOk) (p : Nat) (test : Circuit → Bool) :
    (s.towards p).any test = true ↔ ∃ r ∈ s.records, r.farSlot = p ∧ test r = true := by
  rw [List.any_eq_true]
  constructor
  · rintro ⟨r, hr, on⟩
    obtain ⟨hr, far⟩ := List.mem_filter.mp hr
    exact ⟨r, State.mem_of_mem_classOrder hr, by simpa using far, on⟩
  · rintro ⟨r, hr, far, on⟩
    obtain ⟨_, _, _, _, _, hcls, _⟩ := ok.inRange hr
    exact ⟨r, State.mem_towards hr hcls far, on⟩

/-- A roll that is SENDING goes on with its next OFFER, or ends where it has no mark left (R69, R70). -/
def State.nextOffer (p : Nat) (s : State) : State :=
  if (s.towards p).any Circuit.rollMark then s.request (.rollOffer p) else (s.setRollOut p .none).judgeEnd

theorem State.nextOffer_records (p : Nat) (s : State) : (s.nextOffer p).records = s.records := by
  unfold State.nextOffer
  split <;> simp

/-- While a mark is left the roll goes on. -/
theorem State.nextOffer_of_marked (ok : s.tableOk) (sending : (s.peer p).rollOut = .sending)
    (h : ∃ r ∈ s.records, r.farSlot = p ∧ r.rollMark = true) :
    ((s.nextOffer p).peer p).rollOut = .sending ∧ (s.nextOffer p).owes (.rollOffer p) := by
  rw [State.nextOffer, if_pos ((State.towards_any ok p _).mpr h)]
  obtain ⟨w, hw⟩ := s.peer_request (.rollOffer p) p
  refine ⟨by rw [hw]; exact sending, State.owes_request_self fun q hq => ?_⟩
  obtain rfl : p = q := by simpa [Request.peer] using hq
  exact State.lt_of_sending sending

/-- Without one it ends. -/
theorem State.nextOffer_of_unmarked (ok : s.tableOk) (sending : (s.peer p).rollOut = .sending)
    (h : ∀ r ∈ s.records, r.farSlot = p → r.rollMark = false) : ((s.nextOffer p).peer p).rollOut = .none := by
  have unmarked : ¬ (s.towards p).any Circuit.rollMark = true := fun any => by
    obtain ⟨r, hr, far, mark⟩ := (State.towards_any ok p _).mp any
    exact Bool.eq_false_iff.mp (h r hr far) mark
  rw [State.nextOffer, if_neg unmarked, State.peer_congr (State.judgeEnd_peers _), State.peer_setRollOut]
  exact if_pos ⟨rfl, State.lt_of_sending sending⟩

theorem State.sentEffects_of_roll (hreq : f.req = .roll p) (sending : (s.peer p).rollOut = .sending) :
    s.sentEffects f = s.nextOffer p := by
  rw [State.sentEffects, hreq]
  dsimp only
  rw [sending]
  rfl

theorem State.sentEffects_of_rollOffer (hreq : f.req = .rollOffer p) (s : State) : s.sentEffects f =
    if (s.peer p).rollOut = .sending then (s.claimsSent true f.carried).nextOffer p else s.claimsSent true f.carried := by
  have peer : (s.claimsSent true f.carried).peer p = s.peer p := State.peer_congr (s.claimsSent_peers true f.carried) p
  rw [State.sentEffects, hreq]
  dsimp only
  rw [peer]
  rfl

theorem State.sentEffects_of_singleOffer (hreq : f.req = .singleOffer p) (s : State) :
    s.sentEffects f = (s.claimsSent false f.carried).checkSingle p := by
  rw [State.sentEffects, hreq]

/-- An OFFER sent changes of the records what its claims change. -/
theorem State.sentEffects_offer_records (hreq : f.req = .rollOffer p ∨ f.req = .singleOffer p) (s : State) :
    (s.sentEffects f).records = (s.claimsSent (f.req != .singleOffer p) f.carried).records := by
  rcases hreq with hreq | hreq
  · rw [State.sentEffects_of_rollOffer hreq, hreq]
    split
    · exact State.nextOffer_records p _
    · rfl
  · rw [State.sentEffects_of_singleOffer hreq, (State.checkSingle_keeps _ _).1, hreq]
    simp

theorem State.tableOk_claimsSent (ok : s.tableOk) (roll : Bool) (hs : List Nat) : (s.claimsSent roll hs).tableOk :=
  (State.Tends.refl s).claimsSent.tableOk ok

/-- The claims of a single OFFER sent, and a record that waits on: the next OFFER is posted (R74). -/
theorem State.owes_singleOffer (ok : s.tableOk) (hrun : s.running = true) (up : (s.peer p).up = true) {hs : List Nat}
    (h : ∃ x ∈ (s.claimsSent false hs).records, x.farSlot = p ∧ x.claimDue = true ∧ x.rollMark = false) :
    ((s.claimsSent false hs).checkSingle p).owes (.singleOffer p) := by
  obtain ⟨x, hx, far, due, mark⟩ := h
  obtain ⟨_, _, _, _, _, hcls, _⟩ := (State.tableOk_claimsSent ok false hs).inRange hx
  refine State.checkSingle_owes ((s.posts_claimsSent false hs).running.trans hrun) ?_ (State.mem_towards hx hcls far) ?_
  · rwa [State.peer_congr (s.claimsSent_peers false hs)]
  · simp [Circuit.waiting, due, mark]

/-! ### An ANSWER and a RELEASE sent (R84, R88) -/

/-- A change of a peer record as seen in one field, in the table or beyond it. -/
theorem State.field_updPeer {β : Type} (g : Peer → β) {F : Peer → Peer} (hF : g (F Peer.start) = g Peer.start) :
    g ((s.updPeer p F).peer p) = g (F (s.peer p)) := by
  rw [State.peer_updPeer]
  split
  · rfl
  · rename_i out
    rw [State.peer_of_length_le (not_lt.mp fun hp => out ⟨rfl, hp⟩), hF]

/-- What is left of a list is posted again. -/
theorem State.owes_left {α : Type} (g : Peer → List α) (hg : ∀ (x : Peer) (w : WantMarks), g { x with wants := w } = g x)
    (hstart : g Peer.start = []) (hp : req.peer = some p) (s : State) :
    let t := if (g (s.peer p)).isEmpty then s else s.request req
    g (t.peer p) = g (s.peer p) ∧ (g (s.peer p) ≠ [] → t.owes req) := by
  dsimp only
  split
  · exact ⟨rfl, fun left => absurd (List.isEmpty_iff.mp ‹_›) left⟩
  · obtain ⟨w, hw⟩ := s.peer_request req p
    refine ⟨by rw [hw, hg], fun left => State.owes_request_self fun q hq => ?_⟩
    obtain rfl : p = q := by simpa [hp] using hq
    by_contra out
    rw [State.peer_of_length_le (not_lt.mp out)] at left
    exact left hstart

theorem State.sentWhole_answer (hreq : f.req = .answer p) (s : State) :
    ((s.sentWhole f).peer p).verdicts = (s.peer p).verdicts.drop f.items ∧
      (((s.sentWhole f).peer p).verdicts ≠ [] → (s.sentWhole f).owes (.answer p)) := by
  have cut := State.field_updPeer (s := s.landed f) (p := p) Peer.verdicts
    (F := fun x => { x with verdicts := x.verdicts.drop f.items }) (by simp [Peer.start])
  obtain ⟨same, owed⟩ := State.owes_left (req := .answer p) Peer.verdicts (fun _ _ => rfl) rfl rfl
    ((s.landed f).updPeer p (fun x => { x with verdicts := x.verdicts.drop f.items }))
  rw [State.sentWhole_eq, State.concluded_field Peer.verdicts fun _ _ => rfl, State.sentEffects, hreq]
  exact ⟨same.trans cut, fun left => State.owes_concluded (owed (same ▸ left))⟩

theorem State.sentWhole_release (hreq : f.req = .release p) (s : State) :
    ((s.sentWhole f).peer p).releases = (s.peer p).releases.drop f.items ∧
      (((s.sentWhole f).peer p).releases ≠ [] → (s.sentWhole f).owes (.release p)) := by
  have cut := State.field_updPeer (s := s.landed f) (p := p) Peer.releases
    (F := fun x => { x with releases := x.releases.drop f.items }) (by simp [Peer.start])
  obtain ⟨same, owed⟩ := State.owes_left (req := .release p) Peer.releases (fun _ _ => rfl) rfl rfl
    ((s.landed f).updPeer p (fun x => { x with releases := x.releases.drop f.items }))
  rw [State.sentWhole_eq, State.concluded_field Peer.releases fun _ _ => rfl, State.sentEffects, hreq]
  exact ⟨same.trans cut, fun left => State.owes_concluded (owed (same ▸ left))⟩

/-! ### The row -/

theorem exec_frameSentWhole (calm : s.calm) : exec .frameSentWhole s = .next s.takeSentWhole :=
  congrArg (fun t => Host.Outcome.next (State.takeSentWhole t)) (State.settle_of_calm calm)

theorem State.takeSentWhole_of_sending (h : s.line.out = .sending f) : s.takeSentWhole = s.sentWhole f := by
  rw [State.takeSentWhole, LineCtl.flying_of_sending h]

/-- What a BEACON sent leaves (R67, R130). -/
theorem State.sentWhole_beacon (hreq : f.req = .beacon) (s : State) : (s.sentWhole f).records = s.records ∧
    (s.ctl.slot < s.ctl.size → ∀ p, s.addressable p = true → s.releasable p = true →
      (s.sentWhole f).owes (.roll p)) ∧
    let kept := if f.queued = true then s.line.queue.tail else s.line.queue
    (kept.length ≤ 24 → (∀ req ∈ s.wantedInOrder, req ∉ kept) →
      (kept ++ s.wantedInOrder).take 24 <+: (s.sentWhole f).line.queue ∧
        (s.sentWhole f).Converted kept.length s.wantedInOrder) := by
  have effects : (s.landed f).sentEffects f = s.landed f := by rw [State.sentEffects, hreq]
  have order : (s.landed f).wantedInOrder = s.wantedInOrder := State.wantedInOrder_congr rfl fun _ => s.wanted_landed f
  have queue : (s.landed f).line.queue = _ := s.line.landed_queue f
  rw [State.sentWhole_eq, effects]
  refine ⟨State.concluded_records _, fun hslot p haddr rel => State.owes_roll_concluded ?_ (by exact rel), ?_⟩
  · exact State.mem_slotOrder (s := s.landed f) hslot haddr
  · rw [← order, ← queue]
    exact fun room hnew => State.concluded_converted room hnew

/-- What a ROLL sent leaves (R69). -/
theorem State.sentWhole_roll (hreq : f.req = .roll p) (ok : s.tableOk) (sending : (s.peer p).rollOut = .sending) :
    (s.sentWhole f).records = s.records ∧
    ((∃ r ∈ s.records, r.farSlot = p ∧ r.rollMark = true) →
      ((s.sentWhole f).peer p).rollOut = .sending ∧ (s.sentWhole f).owes (.rollOffer p)) ∧
    ((∀ r ∈ s.records, r.farSlot = p → r.rollMark = false) → ((s.sentWhole f).peer p).rollOut = .none) := by
  rw [State.sentWhole_eq, State.sentEffects_of_roll hreq (by exact sending), State.concluded_field Peer.rollOut fun _ _ => rfl]
  refine ⟨(State.concluded_records _).trans (State.nextOffer_records p _), fun marked => ?_, fun unmarked => ?_⟩
  · obtain ⟨on, owed⟩ := State.nextOffer_of_marked (s := s.landed f) (by exact ok) (by exact sending) marked
    exact ⟨on, State.owes_concluded owed⟩
  · exact State.nextOffer_of_unmarked (s := s.landed f) (by exact ok) (by exact sending) unmarked

/-- What becomes of the roll where an OFFER of it is sent (R70). -/
theorem State.sentWhole_rollOffer (hreq : f.req = .rollOffer p) (ok : s.tableOk) (hrun : s.running = true)
    (sending : (s.peer p).rollOut = .sending) :
    ((∀ r ∈ s.records, r.farSlot = p → r.rollMark = true → r.place ∈ f.carried) →
      ((s.sentWhole f).peer p).rollOut = .none ∧
        ∀ r ∈ (s.sentWhole f).records, r.farSlot = p → r.rollMark = false) ∧
    ((∃ r ∈ s.records, r.farSlot = p ∧ r.rollMark = true ∧ r.place ∉ f.carried) →
      ((s.sentWhole f).peer p).rollOut = .sending ∧ (s.sentWhole f).owes (.rollOffer p)) := by
  have ok : (s.landed f).tableOk := ok
  have hrun : (s.landed f).running = true := hrun
  have sending : ((s.landed f).peer p).rollOut = .sending := sending
  have ok' := State.tableOk_claimsSent ok true f.carried
  have sending' : (((s.landed f).claimsSent true f.carried).peer p).rollOut = .sending := by
    rwa [State.peer_congr (State.claimsSent_peers ..)]
  rw [State.sentWhole_eq, State.sentEffects_of_rollOffer hreq, if_pos sending, State.concluded_records,
    State.nextOffer_records, State.concluded_field Peer.rollOut fun _ _ => rfl]
  refine ⟨fun all => ?_, fun ⟨r, hr, far, mark, left⟩ => ?_⟩
  · have unmarked := State.unmarked_claimsSent ok hrun all
    exact ⟨State.nextOffer_of_unmarked ok' sending' unmarked, unmarked⟩
  · obtain ⟨on, owed⟩ := State.nextOffer_of_marked ok' sending' ⟨r, State.mem_claimsSent_of_not_mem ok hrun hr left, far, mark⟩
    exact ⟨on, State.owes_concluded owed⟩

/-- The next single OFFER, where a record waits on (R74). -/
theorem State.sentWhole_singleOffer (hreq : f.req = .singleOffer p) (ok : s.tableOk) (hrun : s.running = true)
    (up : (s.peer p).up = true)
    (h : ∃ x ∈ (s.sentWhole f).records, x.farSlot = p ∧ x.claimDue = true ∧ x.rollMark = false) :
    (s.sentWhole f).owes (.singleOffer p) := by
  rw [State.sentWhole_eq, State.sentEffects_of_singleOffer hreq] at h ⊢
  rw [State.concluded_records, (State.checkSingle_keeps _ _).1] at h
  exact State.owes_concluded (State.owes_singleOffer (s := s.landed f) (by exact ok) (by exact hrun) (by exact up) h)

/-- What becomes of each record where an OFFER is sent (R27). -/
theorem State.sentWhole_claims (hreq : f.req = .rollOffer p ∨ f.req = .singleOffer p) (once : f.carried.Nodup)
    (ok : s.tableOk) (hrun : s.running = true) (hr : r ∈ s.records) :
    (r.place ∉ f.carried → r ∈ (s.sentWhole f).records) ∧
      (r.place ∈ f.carried → r.sent (f.req != .singleOffer p) ∈ (s.sentWhole f).records) := by
  rw [State.sentWhole_eq, State.concluded_records, State.sentEffects_offer_records hreq]
  exact ⟨State.mem_claimsSent_of_not_mem (s := s.landed f) (by exact ok) (by exact hrun) hr,
    State.mem_claimsSent_of_mem (s := s.landed f) (by exact ok) (by exact hrun) once hr⟩

end Sys2Proof.Machine

open Sys2Proof Sys2Proof.Machine

/-- Settles O42: what every frame leaves of the line, then what each kind leaves of its peer and of the records. -/
theorem sentWhole : Obligations.SentWhole := by
  intro s calm
  rw [exec_frameSentWhole calm]
  refine ⟨fun idle => by simp [State.takeSentWhole, idle], fun f sending => ?_⟩
  rw [State.takeSentWhole_of_sending sending]
  obtain ⟨flying, sender, retry, consecutive, collisions, notices, store, queue, wanted⟩ := s.sentWhole_line f
  refine ⟨_, rfl, flying, sender, retry, consecutive, collisions, notices, store, queue, wanted,
    fun req => State.sentWhole_beacon req s, fun p req ok was => State.sentWhole_roll req ok was,
    fun p req ok hrun was all => ?_, fun p req ok hrun was left => ?_, fun p req once ok hrun => ⟨fun single up => ?_,
    fun r hr => ?_⟩, fun p req => State.sentWhole_answer req s, fun p req => State.sentWhole_release req s⟩
  · obtain ⟨ends, _⟩ := State.sentWhole_rollOffer req ok hrun was
    exact ends all
  · obtain ⟨_, goes⟩ := State.sentWhole_rollOffer req ok hrun was
    exact goes left
  · exact State.sentWhole_singleOffer single ok hrun up
  · obtain ⟨stays, sent⟩ := State.sentWhole_claims req once ok hrun hr
    obtain ⟨retained, lane, due, mark⟩ := r.sent_kept (f.req != .singleOffer p)
    refine ⟨stays, fun carried => ⟨_, sent carried, retained, lane, due, ?_, Circuit.sent_of_waiting, Circuit.sent_of_offered,
      Circuit.sent_of_settled⟩⟩
    rw [mark]
    cases single : f.req == .singleOffer p <;> simp [bne, single]

end

section
/-! PROOF. The station states entered by GO, by the ends of a start and by PURGE (O9, O19, O24), the starts themselves and the
reading of the straps (O22, O23, O52). -/

namespace Sys2Proof.Machine

variable {s t : State} {p : Nat} {cut : EditCut}

/-! ### Entering a station state -/

@[simp] theorem State.setStation_ctl (x : StationState) (s : State) :
    (s.setStation x).ctl = { s.ctl with st := x } := by
  simp [State.setStation]

theorem State.announce_sweep (s : State) : s.announce.sweep = { s.sweep with beaconCount := 0 } := by
  rw [State.announce_eq]

/-- A change of station state leaves its BEACON owed (R62). -/
theorem State.owes_announce (s : State) : s.announce.owes .beacon :=
  State.owes_request_self fun _ e => by cases e

/-! ### RELINK (R152, R154) -/

theorem State.enterRelink_ctl (s : State) :
    s.enterRelink.ctl = { s.ctl with st := .relink, listenCount := 0, listenOver := false } := by
  simp [State.enterRelink]

theorem State.enterRelink_sweep (s : State) : s.enterRelink.sweep = { s.sweep with beaconCount := 0 } := by
  simp [State.enterRelink, State.announce_sweep]

/-- The pace timer starts in CONTINUOUS mode and stands in STEP mode (R110). -/
theorem State.relinkTimer_seq (s : State) : s.relinkTimer.seq =
    { s.seq with timer := if s.seq.mode = .continuous then .running s.store.settings.reload else s.seq.timer } := by
  unfold State.relinkTimer
  split
  · rename_i mode
    rw [if_pos mode]
    rfl
  · rename_i mode
    rw [if_neg (by simp [mode])]

theorem State.enterRelink_seq (s : State) : s.enterRelink.seq =
    { s.seq with timer := if s.seq.mode = .continuous then .running s.store.settings.reload else s.seq.timer } := by
  simp [State.enterRelink, State.relinkTimer_seq]

theorem State.owes_relinkTimer {req : Request} (h : s.owes req) : s.relinkTimer.owes req :=
  (State.owes_congr (by simp) (by simp)).mpr h

theorem State.owes_enterRelink (s : State) : s.enterRelink.owes .beacon :=
  State.owes_relinkTimer (State.owes_announce _)

/-- Every roll to an addressable slot becomes OWED (R52). -/
theorem State.peer_oweAll (hp : p < s.peers.length) :
    s.oweAll.peer p = if s.addressable p = true then { s.peer p with rollOut := .owed } else s.peer p := by
  simp [State.oweAll, State.peer, List.getD_eq_getElem?_getD, hp]

theorem State.peer_enterRelink (hp : p < s.peers.length) : s.enterRelink.peer p =
    if s.addressable p = true then { s.peer p with rollOut := .owed } else s.peer p := by
  generalize hu : State.setStation .relink { s with ctl := { s.ctl with listenCount := 0, listenOver := false } } = u
  have peers : u.peers = s.peers := by simp [← hu]
  have addressable : u.addressable p = s.addressable p := by simp [← hu, State.addressable]
  have same : s.enterRelink.peers = u.oweAll.peers := by simp [State.enterRelink, hu, State.announce_peers]
  rw [State.peer_congr same, State.peer_oweAll (peers ▸ hp), addressable, State.peer_congr peers]

/-! ### Starts (R149) -/

theorem exec_start (calm : s.calm) (cause : StartCause) (cut : EditCut) :
    exec (.start cause cut) s = .next (s.enterStarting cut) :=
  congrArg (fun u => Host.Outcome.next (State.enterStarting cut u)) (State.settle_of_calm calm)

theorem State.strike_records (s : State) : (s.strike cut).records = s.records := by simp

/-- The relink fields are discarded (R3). -/
theorem State.enterStarting_records (cut : EditCut) (s : State) :
    (s.enterStarting cut).records = s.records.map Circuit.fresh :=
  congrArg (List.map Circuit.fresh) s.strike_records

theorem map_retained_fresh (rs : List Circuit) :
    (rs.map Circuit.fresh).map Circuit.retained = rs.map Circuit.retained := by
  rw [List.map_map]
  rfl

/-- An edit that the start cuts short leaves a wrong sum (R13, R14). -/
theorem State.enterStarting_sumZero (hcut : cut ≠ .none) (s : State) : (s.enterStarting cut).sumZero = false := by
  have struck : (s.enterStarting cut).sumZero = (s.strike cut).sumZero :=
    State.sumZero_congr (by rw [State.enterStarting_records, map_retained_fresh, s.strike_records]) rfl
  rw [struck]
  cases cut with
  | none => exact absurd rfl hcut
  | table | rewrite => exact State.cutEdit_sumZero _

/-! ### The straps (R150, R151) -/

theorem exec_strapRead (calm : s.calm) (slotPins sizePins : Nat) :
    exec (.strapRead slotPins sizePins) s = .next (s.readStraps slotPins sizePins) :=
  congrArg (fun u => Host.Outcome.next (State.readStraps slotPins sizePins u)) (State.settle_of_calm calm)

/-- The straps and the last sender, before the own slot is judged (R137, R150). -/
def State.strapped (slot size : Nat) (s : State) : State :=
  { s with ctl := { s.ctl with slot := slot, size := size, resetHeld := false }
           line := { s.line with lastSender := slot } }

theorem State.readStraps_eq (hst : s.ctl.st = .starting) (held : s.ctl.resetHeld = true) (slotPins sizePins : Nat) :
    s.readStraps slotPins sizePins =
      let u := s.strapped slotPins (shelfSize sizePins)
      if shelfSize sizePins ≤ slotPins then u.setStation .strapFault
      else { u with ctl := { u.ctl with firstValid := u.storeValid } } :=
  if_pos ⟨hst, held⟩

/-- In STRAP FAULT the lamp is lit (R186). -/
theorem State.lamp_strapFault (s : State) : (s.setStation .strapFault).lamp.mode = .steady := by
  generalize hu : ({ s with ctl := { s.ctl with st := .strapFault } } : State) = u
  have target : u.lampTarget = .steady := by simp [State.lampTarget, ← hu]
  rw [State.setStation, hu, State.judgeLamp, target]
  split
  · rename_i same
    cases e : u.lamp.mode <;> simp [LampMode.same, e] at same ⊢
  · rfl

theorem settingsValid_iff (c : Settings) : settingsValid c = true ↔ c.period ∈ [8, 16, 32, 64] ∧ c.floor ≤ 255 ∧
    c.warn ≤ 255 ∧ 1 ≤ c.slope ∧ c.slope ≤ 15 ∧ 4 ≤ c.burst ∧ c.burst ≤ 63 ∧ 1 ≤ c.reload ∧ c.reload ≤ 1023 ∧
    c.warn + 8 ≤ c.floor := by
  simp [settingsValid, and_assoc, or_assoc]

/-- The judgement of the store by its four conditions (R17). -/
theorem State.storeValid_iff (s : State) : s.storeValid = true ↔ s.store.keepAlive = true ∧ s.sumZero = true ∧
    settingsValid s.store.settings = true ∧ s.store.keptSlot = s.ctl.slot ∧ s.store.keptSize = s.ctl.size := by
  simp [State.storeValid, and_assoc]

/-! ### The ends of a start (R151 to R153) -/

theorem State.startDue_iff (s : State) : s.startDue = true ↔
    s.ctl.st = .starting ∧ s.ctl.resetHeld = false ∧ s.supply.recoverRun = 4 := by
  simp [State.startDue, and_assoc]

/-- A start that may end does so warm where the store is valid, and cold where it is not. -/
theorem exec_ends_of_startDue (due : s.startDue = true) :
    (s.storeValid = true → exec .warmStart s = .next s.endWarm ∧ exec .coldStart s = .next s) ∧
      (s.storeValid = false → exec .coldStart s = .next s.endCold ∧ exec .warmStart s = .next s) := by
  refine ⟨fun valid => ⟨?_, ?_⟩, fun invalid => ⟨?_, ?_⟩⟩
  · show Host.Outcome.next s.takeWarm = _
    rw [State.takeWarm, due, valid]
    rfl
  · show Host.Outcome.next s.takeCold = _
    rw [State.takeCold, valid, Bool.not_true, Bool.and_false]
    rfl
  · show Host.Outcome.next s.takeCold = _
    rw [State.takeCold, due, invalid]
    rfl
  · show Host.Outcome.next s.takeWarm = _
    rw [State.takeWarm, invalid, Bool.and_false]
    rfl

/-- The table and the store as RELINK finds them after a warm start: one epoch on, the records at rest, and a fresh interval
(R48, R152). -/
def State.rewoken (s : State) : State :=
  (State.closeEdit { s with store := { s.store with epoch := s.store.epoch + 1 } }).freshLinks.freshInterval

theorem State.endWarm_eq (s : State) : s.endWarm = s.rewoken.enterRelink.raise .start := rfl

theorem State.rewoken_sumZero (s : State) : s.rewoken.sumZero = true := by
  rw [State.rewoken]
  generalize ({ s with store := { s.store with epoch := s.store.epoch + 1 } } : State) = u
  have kept : u.closeEdit.freshLinks.freshInterval.sumZero = u.closeEdit.sumZero :=
    State.sumZero_congr (map_retained_fresh u.records) rfl
  exact kept.trans u.closeEdit_sumZero

theorem State.endWarm_sumZero (s : State) : s.endWarm.sumZero = true := by
  rw [State.endWarm_eq]
  exact (State.sumZero_congr (by simp) (by simp)).trans s.rewoken_sumZero

theorem State.endWarm_records (s : State) : s.endWarm.records = s.records.map Circuit.fresh := by
  rw [State.endWarm_eq]
  simp [State.rewoken, State.freshInterval, State.freshLinks]

/-! ### SETUP (R153, R161) -/

theorem State.enterSetup_ctl (s : State) : s.enterSetup.ctl = { s.ctl with st := .setup } := by
  simp [State.enterSetup]

theorem State.enterSetup_sweep (s : State) : s.enterSetup.sweep = { s.sweep with beaconCount := 0 } := by
  simp [State.enterSetup, State.announce_sweep]

theorem State.enterSetup_peers (s : State) : s.enterSetup.peers = s.peers := by
  simp [State.enterSetup, State.announce_peers]

theorem State.enterSetup_events (s : State) : s.enterSetup.events = s.events.raise .start := by
  simp [State.enterSetup, State.raise]

theorem State.owes_enterSetup (s : State) : s.enterSetup.owes .beacon :=
  (State.owes_congr rfl rfl).mpr (s.setStation .setup).owes_announce

/-- In SETUP the lamp is dark unless the station is muted (R186). -/
theorem State.setStation_setup (muted : s.line.muted = false) : s.setStation .setup = { s with
    ctl := { s.ctl with st := .setup }
    lamp := if s.lamp.mode = .off then s.lamp else { mode := .off, position := 0 } } := by
  generalize hu : ({ s with ctl := { s.ctl with st := .setup } } : State) = u
  have target : u.lampTarget = .off := by simp [State.lampTarget, ← hu, muted]
  have same (m : LampMode) : m.same .off = true ↔ m = .off := by cases m <;> simp [LampMode.same]
  rw [State.setStation, hu, State.judgeLamp, target]
  simp only [same]
  subst hu
  split <;> rfl

/-- SETUP entered with an empty Outbound Queue and no mute: the BEACON is its one request (R153, R161). -/
theorem State.enterSetup_eq (muted : s.line.muted = false) (empty : s.line.queue = []) : s.enterSetup = { s with
    ctl := { s.ctl with st := .setup }
    sweep := { s.sweep with beaconCount := 0 }
    line := { s.line with queue := [.beacon], escalated := false }
    events := s.events.raise .start
    lamp := if s.lamp.mode = .off then s.lamp else { mode := .off, position := 0 } } := by
  rw [State.enterSetup, State.setStation_setup muted, State.announce_eq]
  simp [empty, State.raise]

/-- Every block but the records and the Retention Store at its cold values, before the cold rewrite (R161). -/
def State.cooled (s : State) : State :=
  { s with
    peers := List.replicate 24 Peer.start
    sweep := { s.sweep with beaconCount := 0 }
    line := s.line.purged s.ctl.slot
    seq := Sequencer.start
    hw := HighwayPort.start
    supply := { s.supply with warnRun := 0, recoverRun := 0 }
    ctl := { s.ctl with ret := none, listenCount := 0, listenOver := false }
    events := .clear
    notices := [] }

/-- PURGE in one piece, with its zero sum (R161). -/
theorem State.takePurge_eq (s : State) : (s.takePurge = { s.cooled.coldRewrite with
    ctl := { s.cooled.ctl with st := .setup }
    line := { s.cooled.line with queue := [.beacon], escalated := false }
    events := EventUnit.clear.raise .start
    lamp := if s.lamp.mode = .off then s.lamp else { mode := .off, position := 0 } }) ∧ s.takePurge.sumZero = true := by
  have entered : s.takePurge = s.cooled.coldRewrite.enterSetup := rfl
  rw [entered]
  obtain ⟨_, zero⟩ := State.coldRewrite_enterSetup (s := s.cooled) (t := s.cooled.coldRewrite.enterSetup) (by simp) (by simp)
  exact ⟨State.enterSetup_eq rfl rfl, zero⟩

/-! ### The state after reset (R149) -/

theorem State.peer_reset (p : Nat) : State.reset.peer p = Peer.start := by
  rw [State.peer, State.reset, List.getD_eq_getElem?_getD, List.getElem?_replicate]
  split <;> rfl

end Sys2Proof.Machine

open Sys2Proof Sys2Proof.Machine

/-- Settles O22: block by block, then the records and the sum that the strike leaves. -/
theorem startResets : Obligations.StartResets := by
  intro cause cut s calm
  have rested (r : Circuit) (hr : r ∈ (s.enterStarting cut).records) :
      r.state = (if r.clashMark = true then .clashed else .parked) ∧ r.inUse = .primary ∧ r.clashPending = false := by
    obtain ⟨x, _, rfl⟩ := List.mem_map.mp (State.enterStarting_records cut s ▸ hr)
    exact ⟨rfl, rfl, rfl⟩
  refine ⟨_, exec_start calm cause cut, rfl, rfl, rfl, rfl, rfl, rfl, rfl, rfl, rfl, rfl, fun busy => ?_, rfl, rfl, rfl, ?_,
    rested, fun uncut => by rw [uncut]; rfl, fun hcut => State.enterStarting_sumZero hcut s⟩
  · simp [State.enterStarting, busy]
  · rw [State.enterStarting_records, map_retained_fresh]

/-- Settles O23: the two readings of the own slot against the shelf size. -/
theorem strapsRead : Obligations.StrapsRead := by
  intro slot pins s calm hst held _ _ size
  rw [exec_strapRead calm, State.readStraps_eq hst held]
  have hsize : shelfSize pins = size := rfl
  rw [hsize]
  generalize hu : s.strapped slot size = u
  have sum : u.sumZero = s.sumZero := by rw [← hu]; rfl
  have valid : u.storeValid = true ↔ s.store.keepAlive = true ∧ s.sumZero = true ∧
      settingsValid s.store.settings = true ∧ s.store.keptSlot = slot ∧ s.store.keptSize = size := by
    rw [State.storeValid_iff, sum, ← hu]
    rfl
  by_cases fault : size ≤ slot
  · have ctl := u.setStation_ctl .strapFault
    obtain ⟨records, store, peers, _, line, seq, _, supply, card, events, _⟩ := u.setStation_keeps .strapFault
    refine ⟨_, congrArg Host.Outcome.next (if_pos fault), ?_⟩
    subst hu
    exact ⟨congrArg Station.slot ctl, congrArg Station.size ctl, congrArg Station.resetHeld ctl, line, records, store, peers,
      supply, card, events, seq, fun _ => ⟨congrArg Station.st ctl, State.lamp_strapFault _⟩,
      fun lt => absurd lt (not_lt.mpr fault)⟩
  · rw [settingsValid_iff] at valid
    refine ⟨_, congrArg Host.Outcome.next (if_neg fault), ?_⟩
    subst hu
    exact ⟨rfl, rfl, rfl, rfl, rfl, rfl, rfl, rfl, rfl, rfl, rfl, fun le => absurd le fault, fun _ => ⟨hst, rfl, valid⟩⟩

/-- Settles O24: the warm end through RELINK, the cold end through SETUP. -/
theorem startEnds : Obligations.StartEnds := by
  intro s hst held recovered
  obtain ⟨warm, cold⟩ := exec_ends_of_startDue (s.startDue_iff.mpr ⟨hst, held, recovered⟩)
  refine ⟨fun valid => ?_, fun invalid => ?_⟩
  · obtain ⟨ends, idle⟩ := warm valid
    obtain ⟨alive, _⟩ := s.storeValid_iff.mp valid
    have peers (p : Nat) (hp : p < s.peers.length) : s.endWarm.peer p =
        if s.addressable p = true then { s.peer p with rollOut := .owed } else s.peer p :=
      State.peer_enterRelink (s := s.rewoken) hp
    refine ⟨_, ends, idle, ?_, ?_, ?_, s.endWarm_sumZero, ?_, ?_, fun r hr => ?_, ?_, ?_, peers, fun mode => ?_, ?_, ?_⟩
    · rw [State.endWarm_eq]
      simp [State.rewoken, State.freshInterval, State.freshLinks, State.closeEdit]
    · rw [State.endWarm_eq]
      simp [State.rewoken, State.freshInterval, State.freshLinks, State.closeEdit]
    · rw [State.endWarm_eq]
      simp [State.rewoken, State.freshInterval, State.freshLinks, State.closeEdit, alive]
    · exact s.rewoken.enterRelink_ctl
    · rw [State.endWarm_records, map_retained_fresh]
    · obtain ⟨x, _, rfl⟩ := List.mem_map.mp (s.endWarm_records ▸ hr)
      exact ⟨rfl, rfl, rfl, rfl, rfl, rfl, rfl⟩
    · exact s.rewoken.enterRelink_sweep
    · exact s.rewoken.owes_enterRelink
    · refine (s.rewoken.enterRelink_seq).trans ?_
      have mode : s.rewoken.seq.mode = .continuous := mode
      rw [if_pos mode]
      rfl
    · rw [State.endWarm_eq]
      simp [State.raise, State.rewoken, State.freshInterval, State.freshLinks]
    · simp
  · obtain ⟨ends, idle⟩ := cold invalid
    have store : s.endCold.store = s.coldRewrite.store := by simp [State.endCold, State.freshInterval]
    refine ⟨_, ends, idle, ?_, ?_, ?_, ?_, ?_, ?_, s.endCold_ok.2, ?_, ?_, ?_, ?_, ?_, ?_, ?_⟩
    · simp [State.endCold, State.freshInterval, State.coldRewrite]
    · rw [store]; rfl
    · rw [store]; rfl
    · rw [store]; rfl
    · rw [store]; rfl
    · rw [store]; rfl
    · exact State.enterSetup_ctl _
    · exact State.enterSetup_sweep _
    · exact State.owes_enterSetup _
    · exact State.enterSetup_peers _
    · simp
    · exact State.enterSetup_events _
    · simp

/-- Settles O9: RELINK is entered on the state that the end of the transfer leaves. -/
theorem goEntersRelink : Obligations.GoEntersRelink := by
  intro k s ready hst
  have gate : CardCommand.go.gate s.ctl.st = none := by rw [hst]; rfl
  have taken := cardRow_taken ready .go k gate rfl
  generalize hu : s.endTransfer (CardCommand.go.record.length + k) = u at taken
  refine ⟨_, taken, ?_⟩
  have card : u.takeGo.card = u.card := by simp
  simp only [State.respond_ctl, State.respond_seq, State.respond_sweep, State.respond_records, State.respond_store,
    State.respond_hw, State.respond_supply, State.respond_events, State.respond_notices, State.takeGo_keeps]
  refine ⟨?_, ?_, ?_, ?_, fun p hp => ?_, ?_, ?_, ?_, ?_, ?_, ?_, ?_⟩ <;> subst hu
  · exact State.enterRelink_ctl _
  · exact State.enterRelink_seq _
  · exact State.enterRelink_sweep _
  · exact (State.owes_congr rfl rfl).mpr (State.owes_enterRelink _)
  · exact State.peer_enterRelink (s := s.endTransfer _) hp
  · exact State.respond_card card
  all_goals rfl

/-- Settles O19: the cold values, and SETUP entered on them. -/
theorem purgeToCold : Obligations.PurgeToCold := by
  intro k s ready takes
  have taken := cardRow_taken ready .purge k (readGate_of_reads takes) rfl
  obtain ⟨entered, sum⟩ := (s.endTransfer (CardCommand.purge.record.length + k)).takePurge_eq
  refine ⟨(s.endTransfer (CardCommand.purge.record.length + k)).cooled.coldRewrite.store.checkWord, _, taken, sum, ?_⟩
  rw [entered]
  rfl

/-- Settles O52: part by part, on the values of the state after reset. -/
theorem resetIsSafe : Obligations.ResetIsSafe := by
  have probes : State.reset.probesOk := by simp [State.probesOk, State.reset, HighwayPort.start]
  have peers : State.reset.peersOk := by decide
  refine ⟨⟨by decide, by decide, by decide, peers, by decide, by decide, by decide, probes⟩, by decide, by decide,
    fun p _ => State.peer_reset p, ⟨by decide, by decide⟩, ?_, ?_, ?_⟩
  · simp [State.reset]
  · refine ⟨List.nodup_nil, fun _ out => LineOut.noConfusion out, fun p some => absurd ?_ some, fun p some => absurd ?_ some⟩ <;>
      rw [State.peer_reset] <;> rfl
  · simp [State.lampOk, State.reset, LineCtl.start]

end

section
/-! PROOF. A result of the Supply Monitor (O26): what it counts, and which of the two warnings it gives. -/

namespace Sys2Proof.Machine

variable {s t : State} {mv : Nat} {a : Announced}

/-- A result counted, with neither a sag warning nor a recovery acted on (R145 to R147). -/
def State.metered (mv : Nat) (s : State) : State := { s with supply := s.supply.take s.threshold (sampleOf mv) }

theorem exec_conversionResult (calm : s.calm) (mv : Nat) : exec (.conversionResult mv) s = .next (s.convert mv) :=
  congrArg (fun u => Host.Outcome.next (State.convert mv u)) (State.settle_of_calm calm)

/-- The threshold, station state by station state (R148). -/
theorem State.threshold_eq (s : State) : s.threshold = if s.ctl.st = .strapFault then Config.strapFaultThreshold
    else if s.ctl.st = .starting ∧ s.ctl.firstValid = false then 152 else s.store.settings.warn := by
  unfold State.threshold State.settingsInForce
  split_ifs <;> rfl

theorem Supply.take_eq (w r : Nat) (x : Supply) : x.take w r =
    { sample := r
      warnRun := if r < w then min 2 (x.warnRun + 1) else 0
      recoverRun := if w + 8 ≤ r then min 4 (x.recoverRun + 1) else 0 } := by
  simp only [Supply.take, satSucc_eq_min]

/-- The second result in a row below the threshold (R146). -/
theorem sagGiven_iff (w r : Nat) (x : Supply) : sagGiven x (x.take w r) = true ↔ r < w ∧ x.warnRun = 1 := by
  simp only [sagGiven, Supply.take_eq, Bool.and_eq_true, beq_iff_eq]
  by_cases below : r < w
  · rw [if_pos below]
    exact ⟨fun ⟨was, _⟩ => ⟨below, was⟩, fun ⟨_, was⟩ => ⟨was, by rw [was]; rfl⟩⟩
  · rw [if_neg below]
    exact ⟨fun ⟨_, now⟩ => absurd now (by decide), fun ⟨lt, _⟩ => absurd lt below⟩

/-- The fourth result in a row at or above the recovery level (R147). -/
theorem recoveryGiven_iff (w r : Nat) (x : Supply) :
    recoveryGiven x (x.take w r) = true ↔ w + 8 ≤ r ∧ x.recoverRun = 3 := by
  simp only [recoveryGiven, Supply.take_eq, Bool.and_eq_true, beq_iff_eq]
  by_cases above : w + 8 ≤ r
  · rw [if_pos above]
    exact ⟨fun ⟨was, _⟩ => ⟨above, was⟩, fun ⟨_, was⟩ => ⟨was, by rw [was]; rfl⟩⟩
  · rw [if_neg above]
    exact ⟨fun ⟨_, now⟩ => absurd now (by decide), fun ⟨le, _⟩ => absurd le above⟩

theorem announcedOf_eq_some (x : StationState) : announcedOf x = some a ↔ x = stationOf a := by
  cases x <;> cases a <;> simp [announcedOf, stationOf]

theorem State.edits_of_announced (h : s.ctl.st = stationOf a) : s.edits := by
  cases a with
  | setup => exact .inl h
  | relink => exact .inr (.inl h)
  | service => exact .inr (.inr h)

/-- While the reset cause persists there is no result (R145). -/
theorem State.convert_of_held (held : s.ctl.resetHeld = true) : s.convert mv = s := if_pos held

/-- A sag warning in a station state that is announced (R158). -/
theorem State.convert_of_sag (awake : s.ctl.resetHeld = false) (below : sampleOf mv < s.threshold)
    (run : s.supply.warnRun = 1) (station : s.ctl.st = stationOf a) : s.convert mv = (s.metered mv).enterQuiesce a := by
  have given := (sagGiven_iff s.threshold (sampleOf mv) s.supply).mpr ⟨below, run⟩
  have announced := (announcedOf_eq_some (a := a) s.ctl.st).mpr station
  simp only [State.convert, awake, given, announced, if_true, Bool.false_eq_true, if_false]
  rfl

/-- A recovery in QUIESCE (R160). -/
theorem State.convert_of_recovery (awake : s.ctl.resetHeld = false) (above : s.threshold + 8 ≤ sampleOf mv)
    (run : s.supply.recoverRun = 3) (station : s.ctl.st = .quiesce) (ret : s.ctl.ret = some a) :
    s.convert mv = (s.metered mv).recover a := by
  have given := (recoveryGiven_iff s.threshold (sampleOf mv) s.supply).mpr ⟨above, run⟩
  have noSag : sagGiven s.supply (s.supply.take s.threshold (sampleOf mv)) = false :=
    Bool.eq_false_iff.mpr fun h => by
      obtain ⟨below, _⟩ := (sagGiven_iff _ _ _).mp h
      omega
  simp only [State.convert, awake, given, noSag, station, ret, beq_self_eq_true, Bool.and_self, if_true,
    Bool.false_eq_true, if_false]
  rfl

/-- A result that gives nothing that the station state acts on. -/
theorem State.convert_of_neither (awake : s.ctl.resetHeld = false)
    (noSag : ¬ (sampleOf mv < s.threshold ∧ s.supply.warnRun = 1 ∧ s.edits))
    (noRecovery : ¬ (s.threshold + 8 ≤ sampleOf mv ∧ s.supply.recoverRun = 3 ∧ s.ctl.st = .quiesce)) :
    s.convert mv = s.metered mv := by
  rw [State.convert, if_neg (Bool.eq_false_iff.mp awake)]
  dsimp only
  split
  case isTrue sag =>
    obtain ⟨below, run⟩ := (sagGiven_iff _ _ _).mp sag
    split
    · rename_i a announced
      exact absurd ⟨below, run, State.edits_of_announced ((announcedOf_eq_some _).mp announced)⟩ noSag
    · rfl
  case isFalse =>
    split
    case isTrue recovery =>
      simp only [Bool.and_eq_true, recoveryGiven_iff, beq_iff_eq, and_assoc] at recovery
      exact absurd recovery noRecovery
    case isFalse => rfl

end Sys2Proof.Machine

open Sys2Proof Sys2Proof.Machine

/-- Settles O26: a result is counted, and no more, where it gives nothing to act on. -/
theorem supplyRuns : Obligations.SupplyRuns := by
  intro mv s calm
  rw [exec_conversionResult calm]
  refine ⟨fun held => by rw [State.convert_of_held held], fun awake => ?_⟩
  have sample : sampleOf mv = min 255 (mv / 250) := rfl
  rw [← s.threshold_eq, ← sample]
  intro r w noSag noRecovery
  rw [State.convert_of_neither awake noSag noRecovery, State.metered, Supply.take_eq]

end

section
/-! PROOF. The entry to QUIESCE (O27): the probes cancelled one after another, and the abort of the frame on the line. -/

namespace Sys2Proof.Machine

variable {s t : State} {r x : Circuit} {mv : Nat} {a : Announced}

/-! ### Class order (R5) -/

/-- Class order lists every record of the table once. -/
theorem State.tableOk.classOrder_perm (ok : s.tableOk) : s.classOrder.Perm s.records := by
  refine List.perm_iff_count.mpr fun r => ?_
  have listed (c : Nat) : (s.classList c).count r = if r.cls = c then s.records.count r else 0 := by
    split
    · exact List.count_filter (by simpa)
    · exact List.count_eq_zero.mpr fun h => ‹¬ r.cls = c› (by simpa using (List.mem_filter.mp h).2)
  have known : s.records.count r = 0 ∨ r.cls ≤ 3 := by
    by_cases hr : r ∈ s.records
    · obtain ⟨_, _, _, _, _, hcls, _⟩ := ok.inRange hr
      exact .inr hcls
    · exact .inl (List.count_eq_zero.mpr hr)
  simp only [State.classOrder, List.count_append, listed]
  split_ifs <;> omega

theorem State.tableOk.nodup_classOrder (ok : s.tableOk) : (s.classOrder.map (·.place)).Nodup :=
  (ok.classOrder_perm.map _).nodup_iff.mpr ok.places

/-! ### Probes cancelled (R47) -/

/-- Outside RELINK and SERVICE nothing follows a change (R95, R156). -/
theorem State.settleChange_of_still (still : s.running = false) (cause : Bool) : s.settleChange cause = s := by
  have idle : s.attempt = s := if_neg (by simp [still])
  rw [State.settleChange, idle, ite_self]
  refine State.judgeEnd_of_ne fun e => ?_
  rw [s.running_iff.mpr (.inl e)] at still
  cases still

theorem State.settleChange_of_quiesce (hq : s.ctl.st = .quiesce) (cause : Bool) : s.settleChange cause = s :=
  State.settleChange_of_still (by simp [State.running, hq]) cause

/-- The records in the places `hs` back at CONFIRMED, their slots freed and a weight of `n` refunded (R47, R99, R117). -/
def State.unprobed (hs : List Nat) (n : Nat) (s : State) : State :=
  { s with
    records := s.records.map (fun r => if r.place ∈ hs then r.enter .confirmed false 0 else r)
    hw := { s.hw with probes := s.hw.probes.filter (fun p => decide (p.place ∉ hs)) }
    seq := { s.seq with allowance := min s.cap (s.seq.allowance + n) } }

/-- One PROBING record; the lamp is judged. -/
theorem State.unprobe_of_probing (ok : s.tableOk) (hq : s.ctl.st = .quiesce) (hr : r ∈ s.records)
    (hp : r.state.isProbing = true) :
    ∃ l, s.unprobe r.place = { s.unprobed [r.place] r.weight with lamp := l } := by
  have moved : s.unprobe r.place = s.moveTo r .confirmed false 0 := by
    simp only [State.unprobe, State.findPlace_eq_some ok hr, if_pos hp]
    exact State.settleChange_of_quiesce (by simpa using hq) _
  have entered : s.moveTo r .confirmed false 0 = (s.unprobed [r.place] r.weight).judgeLamp := by
    simp only [State.moveTo, State.cancelProbe, if_pos hp, State.enter, reduceCtorEq, if_false, State.unprobed,
      List.mem_singleton, decide_not]
    rfl
  rw [moved, entered]
  rcases (s.unprobed [r.place] r.weight).judgeLamp_cases with e | e <;> rw [e]
  · exact ⟨_, rfl⟩
  · exact ⟨_, rfl⟩

/-- Two refunds are one, and so are two cancellations. -/
theorem State.unprobed_cons (h : Nat) (hs : List Nat) (w n : Nat) (l : Lamp) (s : State) :
    State.unprobed hs n { s.unprobed [h] w with lamp := l } = { s.unprobed (h :: hs) (w + n) with lamp := l } := by
  have refunds : min s.cap (min s.cap (s.seq.allowance + w) + n) = min s.cap (s.seq.allowance + (w + n)) := by omega
  have records : (s.records.map (fun r => if r.place ∈ [h] then r.enter .confirmed false 0 else r)).map
      (fun r => if r.place ∈ hs then r.enter .confirmed false 0 else r) =
        s.records.map (fun r => if r.place ∈ h :: hs then r.enter .confirmed false 0 else r) := by
    rw [List.map_map]
    refine List.map_congr_left fun r _ => ?_
    by_cases e : r.place = h <;> by_cases e' : r.place ∈ hs <;> simp_all [Circuit.enter]
  have probes : (s.hw.probes.filter (fun p => decide (p.place ∉ [h]))).filter (fun p => decide (p.place ∉ hs)) =
      s.hw.probes.filter (fun p => decide (p.place ∉ h :: hs)) := by
    rw [List.filter_filter]
    refine List.filter_congr fun p _ => ?_
    simp [Bool.and_comm]
  have cap : State.cap { s.unprobed [h] w with lamp := l } = s.cap := rfl
  rw [State.unprobed, cap]
  simp only [State.unprobed, refunds, records, probes]

/-- PROBING records, one after another (R47). -/
theorem State.unprobe_walk {rs : List Circuit} (ok : s.tableOk) (hq : s.ctl.st = .quiesce)
    (capped : s.seq.allowance ≤ s.cap) (nodup : (rs.map (·.place)).Nodup)
    (probing : ∀ r ∈ rs, r ∈ s.records ∧ r.state.isProbing = true) :
    ∃ l, s.each (rs.map Circuit.place) State.unprobe =
      { s.unprobed (rs.map Circuit.place) (rs.map (·.weight)).sum with lamp := l } := by
  induction rs generalizing s with
  | nil =>
    refine ⟨s.lamp, ?_⟩
    simp [State.each, State.unprobed, capped]
  | cons r rs ih =>
    obtain ⟨away, nodup⟩ := List.nodup_cons.mp nodup
    obtain ⟨hr, hp⟩ := probing r (by simp)
    obtain ⟨l, first⟩ := State.unprobe_of_probing ok hq hr hp
    have ok' : (s.unprobe r.place).tableOk := (State.Tends.refl s).unprobe.tableOk ok
    rw [first] at ok'
    obtain ⟨l', rest⟩ := ih ok' hq (min_le_left _ _) nodup fun x hx => by
      obtain ⟨hmem, hpx⟩ := probing x (by simp [hx])
      refine ⟨List.mem_map.mpr ⟨x, hmem, if_neg fun e => away ?_⟩, hpx⟩
      exact List.mem_map.mpr ⟨x, hx, List.mem_singleton.mp e⟩
    refine ⟨l', ?_⟩
    show (s.unprobe r.place).each (rs.map Circuit.place) State.unprobe = _
    rw [first, rest, State.unprobed_cons]
    rfl

/-- The places of the PROBING records, in class order. -/
def State.probingPlaces (s : State) : List Nat := (s.classOrder.filter (fun r => r.state.isProbing)).map Circuit.place

/-- All of them (R47). -/
theorem State.unprobe_all (ok : s.tableOk) (hq : s.ctl.st = .quiesce) (capped : s.seq.allowance ≤ s.cap) :
    ∃ l, s.each s.probingPlaces State.unprobe = { s.unprobed s.probingPlaces s.probingWeight with lamp := l } := by
  have weight : ((s.classOrder.filter (fun r => r.state.isProbing)).map (fun r => r.weight)).sum = s.probingWeight :=
    ((ok.classOrder_perm.filter _).map _).sum_eq
  rw [← weight]
  refine State.unprobe_walk ok hq capped (ok.nodup_classOrder.sublist (List.filter_sublist.map _)) fun r hr => ?_
  obtain ⟨hr, hp⟩ := List.mem_filter.mp hr
  exact ⟨State.mem_of_mem_classOrder hr, hp⟩

theorem State.tableOk.mem_probingPlaces (ok : s.tableOk) (hr : r ∈ s.records) :
    r.place ∈ s.probingPlaces ↔ r.state.isProbing = true := by
  refine ⟨fun h => ?_, fun hp => List.mem_map_of_mem (List.mem_filter.mpr ⟨ok.mem_classOrder hr, hp⟩)⟩
  obtain ⟨x, hx, hplace⟩ := List.mem_map.mp h
  obtain ⟨hx, hp⟩ := List.mem_filter.mp hx
  obtain rfl := (ok.place_eq_iff (State.mem_of_mem_classOrder hx) hr).mp hplace
  exact hp

/-! ### The frame aborted (R69, R141) -/

/-- Outside RELINK and SERVICE an abort posts nothing (R66). -/
theorem State.abortEffects_line (still : s.running = false) (req : Request) : (s.abortEffects req).line = s.line := by
  cases req with
  | beacon | rollOffer | singleOffer | answer | release => rfl
  | roll p =>
    have held (u : State) (hu : u.ctl = s.ctl) : u.pass p = u := by
      have unreleased : u.releasable p = false := by
        simp only [State.running, Bool.or_eq_false_iff] at still
        simp [State.releasable, hu, still]
      simp [State.pass, unreleased]
    simp only [State.abortEffects]
    split <;> split <;> simp [held]

theorem State.jamFrame_line (still : s.running = false) : s.jamFrame.line =
    if s.line.flying = none then s.line else { s.line with out := .jam } := by
  unfold State.jamFrame
  split
  · rename_i none
    rw [if_pos none]
  · rename_i f flying
    rw [if_neg (by simp [flying])]
    exact State.abortEffects_line (s := { s with line := { s.line with out := .jam } }) still f.req

/-- An abort takes roll marks off records, and no more (R69). -/
theorem State.jamFrame_records (s : State) : ∃ p roll, s.jamFrame.records = s.records.map (Circuit.unmark p roll false) ∧
    (s.line.flying = none → roll = false) := by
  have same : s.records = s.records.map (Circuit.unmark 0 false false) := (State.map_unmark_none 0 _).symm
  unfold State.jamFrame
  split
  · exact ⟨0, false, same, fun _ => rfl⟩
  · rename_i f flying
    generalize hu : ({ s with line := { s.line with out := .jam } } : State) = u
    have records : u.records = s.records := by rw [← hu]
    rw [← records] at same ⊢
    cases f.req with
    | beacon | rollOffer | singleOffer | answer | release => exact ⟨0, false, same, fun _ => rfl⟩
    | roll p =>
      have owed : ∃ q roll, State.records (if (u.peer p).rollOut = .sending then u.oweRoll p else u) =
          u.records.map (Circuit.unmark q roll false) := by
        split
        · exact ⟨p, _, u.oweRoll_records p⟩
        · exact ⟨0, false, same⟩
      obtain ⟨q, roll, owed⟩ := owed
      refine ⟨q, roll, ?_, fun none => by simp [flying] at none⟩
      rw [← owed]
      simp only [State.abortEffects]
      generalize (if (u.peer p).rollOut = .sending then u.oweRoll p else u) = v
      split
      · simp
      · rfl

/-! ### The entry (R158) -/

/-- QUIESCE entered, with the frame on the line aborted and the probes still held. -/
def State.jammed (a : Announced) (s : State) : State := (s.frozen a).jamFrame

theorem State.jammed_ctl (a : Announced) (s : State) : (s.jammed a).ctl = { s.ctl with st := .quiesce, ret := some a } := by
  simp [State.jammed, State.frozen]

theorem State.jammed_keeps (a : Announced) (s : State) : (s.jammed a).store = s.store ∧ (s.jammed a).sweep = s.sweep ∧
    (s.jammed a).seq = s.seq ∧ (s.jammed a).hw = s.hw ∧ (s.jammed a).supply = s.supply ∧ (s.jammed a).events = s.events ∧
    (s.jammed a).notices = s.notices := by
  simp [State.jammed, State.frozen]

theorem State.jammed_line (a : Announced) (s : State) : (s.jammed a).line =
    if s.line.flying = none then s.line else { s.line with out := .jam } := by
  have still : (s.frozen a).running = false := by simp [State.frozen, State.running]
  have line : (s.frozen a).line = s.line := by simp [State.frozen]
  rw [State.jammed, State.jamFrame_line still, line]

theorem State.jammed_records (a : Announced) (s : State) : ∃ p roll,
    (s.jammed a).records = s.records.map (Circuit.unmark p roll false) ∧ (s.line.flying = none → roll = false) := by
  have records : (s.frozen a).records = s.records := by simp [State.frozen]
  have line : (s.frozen a).line = s.line := by simp [State.frozen]
  rw [← records, ← line]
  exact (s.frozen a).jamFrame_records

theorem State.jammed_tableOk (ok : s.tableOk) (a : Announced) : (s.jammed a).tableOk :=
  (((State.Tends.refl s).frame (u := { s with ctl := { s.ctl with ret := some a } }) rfl rfl).setStation.jamFrame).tableOk ok

/-- Nothing that a probe spends changes with a roll mark. -/
theorem State.jammed_probingWeight (a : Announced) (s : State) : (s.jammed a).probingWeight = s.probingWeight := by
  obtain ⟨p, roll, records, _⟩ := s.jammed_records a
  rw [State.probingWeight_eq, State.probingWeight_eq, records, List.map_map]
  exact congrArg _ (List.map_congr_left fun r _ => by simp [Circuit.spent])

/-- The pace timer stopped, with the held step mark by its mode (R110). -/
def State.stillTimer (s : State) : State :=
  { s with seq := { s.seq with timer := .stopped, heldStep := s.seq.mode == .step && s.seq.timer.isRunning } }

/-- The entry to QUIESCE in one piece, but for the lamp. -/
theorem State.enterQuiesce_eq (ok : s.tableOk) (capped : s.seq.allowance ≤ s.cap) (a : Announced) :
    ∃ l, s.enterQuiesce a = { (s.jammed a).unprobed (s.jammed a).probingPlaces s.probingWeight with
      seq := { s.seq with
        allowance := min s.cap (s.seq.allowance + s.probingWeight)
        timer := .stopped
        heldStep := s.seq.mode == .step && s.seq.timer.isRunning }
      events := s.events.raise .sag
      lamp := l } := by
  obtain ⟨store, _, seq, _, _, events, _⟩ := s.jammed_keeps a
  have cap : (s.jammed a).cap = s.cap := by rw [State.cap, store, State.cap]
  obtain ⟨l, walk⟩ := State.unprobe_all (s := s.jammed a) (State.jammed_tableOk ok a) (by rw [State.jammed_ctl])
    (by rwa [seq, cap])
  rw [State.jammed_probingWeight] at walk
  refine ⟨l, ?_⟩
  have entry : s.enterQuiesce a = State.raise .sag (State.stillTimer ((s.jammed a).each (s.jammed a).probingPlaces State.unprobe)) :=
    rfl
  rw [entry, walk]
  simp only [State.raise, State.stillTimer, State.unprobed, seq, events, cap]

section Entered

variable (ok : s.tableOk) (capped : s.seq.allowance ≤ s.cap) (a : Announced)
include ok capped

/-- The blocks beside the records, the highway port and the lamp. -/
theorem State.enterQuiesce_blocks : let t := s.enterQuiesce a
    t.ctl = { s.ctl with st := .quiesce, ret := some a } ∧
      t.line = (if s.line.flying = none then s.line else { s.line with out := .jam }) ∧
      t.seq = { s.seq with
        allowance := min s.cap (s.seq.allowance + s.probingWeight)
        timer := .stopped
        heldStep := s.seq.mode == .step && s.seq.timer.isRunning } ∧
      t.events = s.events.raise .sag ∧ t.store = s.store ∧ t.sweep = s.sweep := by
  obtain ⟨l, entered⟩ := State.enterQuiesce_eq ok capped a
  obtain ⟨store, sweep, _⟩ := s.jammed_keeps a
  rw [entered]
  exact ⟨s.jammed_ctl a, s.jammed_line a, rfl, rfl, store, sweep⟩

/-- Where no frame was on the line, the PROBING records alone have changed (R47). -/
theorem State.enterQuiesce_records (idle : s.line.flying = none) :
    (s.enterQuiesce a).records = s.records.map (fun r => if r.state.isProbing = true then
      { r with state := .confirmed, sendCount := 0, sweepsSinceSend := 0, resendDue := false, claimDue := false }
    else r) := by
  obtain ⟨p, roll, records, unmarked⟩ := s.jammed_records a
  rw [unmarked idle, State.map_unmark_none] at records
  obtain ⟨l, entered⟩ := State.enterQuiesce_eq ok capped a
  rw [entered]
  simp only [State.unprobed, records]
  refine List.map_congr_left fun r hr => ?_
  simp only [(State.jammed_tableOk ok a).mem_probingPlaces (records ▸ hr)]
  rfl

end Entered

/-- No slot stays held and no record PROBING (R47, R117). -/
theorem State.enterQuiesce_unheld (ok : s.tableOk) (pace : s.paceOk) (probes : s.probesOk) (station : s.ctl.st = stationOf a) :
    (s.enterQuiesce a).hw = { s.hw with probes := [] } ∧ ∀ r ∈ (s.enterQuiesce a).records, r.state.isProbing = false := by
  have ⟨capped, _⟩ := pace
  obtain ⟨l, entered⟩ := State.enterQuiesce_eq ok capped a
  obtain ⟨_, _, _, hw, _⟩ := s.jammed_keeps a
  have agrees : s.Steady False := (State.agrees_iff ok.places).mpr ⟨pace, probes, False.elim⟩
  have steady := agrees.enterQuiesce ok ((announcedOf_eq_some _).mpr station)
  have places := (((State.Tends.refl s).enterQuiesce (a := a)).tableOk ok).places
  have still : (s.enterQuiesce a).running = false := by
    obtain ⟨ctl, _⟩ := State.enterQuiesce_blocks ok capped a
    simp [State.running, ctl]
  obtain ⟨⟨_, _, unprobing⟩, _⟩ := (State.agrees_iff places).mp steady
  refine ⟨?_, unprobing still⟩
  have unheld : (s.enterQuiesce a).hw.probes = [] := List.map_eq_nil_iff.mp (steady.held_of_not_running still)
  rw [← unheld, entered]
  simp only [State.unprobed, hw]

end Sys2Proof.Machine

open Sys2Proof Sys2Proof.Machine

/-- Settles O27: the entry to QUIESCE block by block, on the state in which the result is counted. -/
theorem sagWarningQuiesces : Obligations.SagWarningQuiesces := by
  intro mv a s safe calm awake station run below
  have settings : s.threshold = s.store.settings.warn := by cases a <;> simp [State.threshold_eq, station, stationOf]
  have below : sampleOf mv < s.threshold := settings ▸ below
  have counted : s.supply.take s.threshold (sampleOf mv) = { sample := sampleOf mv, warnRun := 2, recoverRun := 0 } := by
    rw [Supply.take_eq, if_pos below, if_neg (by omega), run]
    rfl
  have ok : (s.metered mv).tableOk := safe.table
  obtain ⟨capped, _⟩ := safe.pace
  obtain ⟨ctl, line, seq, events, store, sweep⟩ := State.enterQuiesce_blocks ok capped a
  obtain ⟨hw, unprobing⟩ := State.enterQuiesce_unheld ok safe.pace safe.probes station
  obtain ⟨supply, _, notices, _⟩ := (s.metered mv).enterQuiesce_keeps a
  have line : ((s.metered mv).enterQuiesce a).line =
    if s.line.flying = none then s.line else { s.line with out := .jam } := line
  have kept {β : Type} (g : LineCtl → β) (hg : ∀ l out, g { l with out := out } = g l) :
      g ((s.metered mv).enterQuiesce a).line = g s.line := by
    rw [line]
    split
    · rfl
    · exact hg _ _
  rw [exec_conversionResult calm, State.convert_of_sag awake below run station]
  refine ⟨_, rfl, ctl, supply.trans counted, hw, unprobing, by rw [seq]; rfl, by rw [seq], by rw [seq]; rfl, ?_,
    kept LineCtl.queue fun _ _ => rfl, kept LineCtl.collisions fun _ _ => rfl, kept LineCtl.retry fun _ _ => rfl,
    fun flying => ?_, fun idle => ⟨?_, State.enterQuiesce_records ok capped a idle⟩, events, notices, store, sweep⟩
  · rw [seq]
    simp [PaceTimer.isRunning_iff, State.metered]
  · rw [line, if_neg (Option.isSome_iff_ne_none.mp flying)]
  · rw [line, if_pos idle]

end

section
/-! PROOF. Requests posted one after another (R67, R73, R128), and what follows them where an attempt is made (R94, R156). -/

namespace Sys2Proof.Machine

section Postings

variable {s t : State} {req : Request} {p : Nat} {cause : Bool}

/-! ### A walk over requests -/

theorem State.each_append {α : Type} (xs ys : List α) (f : α → State → State) (s : State) :
    s.each (xs ++ ys) f = (s.each xs f).each ys f := List.foldl_append

@[simp] theorem State.length_request (req : Request) (s : State) : (s.request req).peers.length = s.peers.length := by
  rcases s.request_cases req with ⟨_, e⟩ | ⟨_, _, e⟩ | ⟨_, _, e⟩ <;> rw [e]
  · rfl
  · cases req with
    | beacon => rfl
    | roll p | rollOffer p | singleOffer p | answer p | release p => exact State.length_updPeer p _ s

/-- What no posting changes, a walk over requests leaves. -/
@[simp] theorem State.each_request_keeps (reqs : List Request) (s : State) : let t := s.each reqs State.request
    t.records = s.records ∧ t.store = s.store ∧ t.sweep = s.sweep ∧ t.seq = s.seq ∧ t.hw = s.hw ∧ t.ctl = s.ctl ∧
      t.events = s.events ∧ t.notices = s.notices ∧ t.peers.length = s.peers.length :=
  ⟨State.each_keeps (·.records) _ _ (by simp) s, State.each_keeps (·.store) _ _ (by simp) s,
    State.each_keeps (·.sweep) _ _ (by simp) s, State.each_keeps (·.seq) _ _ (by simp) s,
    State.each_keeps (·.hw) _ _ (by simp) s, State.each_keeps (·.ctl) _ _ (by simp) s,
    State.each_keeps (·.events) _ _ (by simp) s, State.each_keeps (·.notices) _ _ (by simp) s,
    State.each_keeps (·.peers.length) _ _ (by simp) s⟩

/-- Of a peer record a walk over requests changes want marks alone. -/
theorem State.peer_each_request (reqs : List Request) (q : Nat) (s : State) :
    ∃ w, (s.each reqs State.request).peer q = { s.peer q with wants := w } := by
  induction reqs generalizing s with
  | nil => exact ⟨_, rfl⟩
  | cons req reqs ih =>
    obtain ⟨w, hw⟩ := ih (s.request req)
    obtain ⟨w', hw'⟩ := s.peer_request req q
    exact ⟨w, hw.trans (by rw [hw'])⟩

/-- What is posted for slots of the peer table is owed, and what was owed stays owed. -/
theorem State.owes_each_request {reqs : List Request} (h : s.owes req ∨
    (req ∈ reqs ∧ ∀ p, req.peer = some p → p < s.peers.length)) : (s.each reqs State.request).owes req := by
  induction reqs generalizing s with
  | nil => exact h.resolve_right fun ⟨hmem, _⟩ => List.not_mem_nil hmem
  | cons x reqs ih =>
    refine ih ?_
    rcases h with owed | ⟨hmem, hp⟩
    · exact .inl (State.owes_request owed)
    · rcases List.mem_cons.mp hmem with rfl | hmem
      · exact .inl (State.owes_request_self hp)
      · exact .inr ⟨hmem, by simpa using hp⟩

/-- Where there is room for all that is new, it stands behind what waited, in the order of posting (R128). -/
theorem State.queue_each_request {reqs : List Request} (nodup : reqs.Nodup) :
    let fresh := reqs.filter (fun req => !s.line.queue.contains req)
    s.line.queue.length + fresh.length ≤ 24 → (s.each reqs State.request).line.queue = s.line.queue ++ fresh := by
  induction reqs generalizing s with
  | nil => simp [State.each]
  | cons x reqs ih =>
    obtain ⟨away, nodup⟩ := List.nodup_cons.mp nodup
    intro fresh room
    show ((s.request x).each reqs State.request).line.queue = _
    by_cases old : x ∈ s.line.queue
    · have same : s.request x = s := by simp [State.request, old]
      have skip : fresh = reqs.filter (fun req => !s.line.queue.contains req) :=
        List.filter_cons_of_neg (by simpa using old)
      rw [same, skip]
      exact ih nodup (skip ▸ room)
    · have take : fresh = x :: reqs.filter (fun req => !s.line.queue.contains req) :=
        List.filter_cons_of_pos (by simpa using old)
      rw [take, List.length_cons] at room
      have queue : (s.request x).line.queue = s.line.queue ++ [x] := by
        rcases s.request_cases x with ⟨h, _⟩ | ⟨_, _, e⟩ | ⟨_, full, _⟩
        · exact absurd h old
        · rw [e, State.setQueue_queue]
        · omega
      have rest : reqs.filter (fun req => !(s.request x).line.queue.contains req) =
          reqs.filter (fun req => !s.line.queue.contains req) := by
        refine List.filter_congr fun req hreq => ?_
        have ne : req ≠ x := ne_of_mem_of_not_mem hreq away
        simp [queue, ne]
      have walked := ih (s := s.request x) nodup
      rw [rest, queue, List.length_append, List.length_singleton] at walked
      rw [walked (by omega), take, List.append_assoc]
      rfl

/-! ### Releases and single claims as requests (R67, R73) -/

/-- What releases and single claims read of the peers, the records and the station. -/
theorem State.releasable_request (req : Request) (p : Nat) (s : State) : (s.request req).releasable p = s.releasable p := by
  obtain ⟨w, hw⟩ := s.peer_request req p
  exact State.releasable_congr (by simp) (by rw [hw]; rfl)

/-- A single OFFER is due to a peer (R73). -/
def State.claims (p : Nat) (s : State) : Bool := s.running && (s.peer p).up && (s.towards p).any Circuit.waiting

theorem State.claims_request (req : Request) (p : Nat) (s : State) : (s.request req).claims p = s.claims p := by
  obtain ⟨w, hw⟩ := s.peer_request req p
  have up : ((s.request req).peer p).up = (s.peer p).up := by rw [hw]; rfl
  have towards : (s.request req).towards p = s.towards p := by
    simp [State.towards, State.classOrder, State.classList]
  have running : (s.request req).running = s.running := by simp [State.running]
  rw [State.claims, up, towards, running, State.claims]

/-- A walk that posts, slot by slot, what a test of the slot says is a walk over requests, if no posting changes the test. -/
theorem State.each_posts (test : Nat → State → Bool) (req : Nat → Request)
    (keeps : ∀ r p s, test p (State.request r s) = test p s) (ps : List Nat) (s : State) :
    s.each ps (fun p s => if test p s then s.request (req p) else s) =
      s.each ((ps.filter (fun p => test p s)).map req) State.request := by
  induction ps generalizing s with
  | nil => rfl
  | cons p ps ih =>
    show State.each ps _ (if test p s then s.request (req p) else s) = _
    by_cases h : test p s = true
    · rw [if_pos h, ih, List.filter_cons_of_pos (p := fun p => test p s) h]
      simp only [keeps]
      rfl
    · rw [if_neg h, ih, List.filter_cons_of_neg (p := fun p => test p s) h]

theorem State.passAll_eq (s : State) :
    s.passAll = s.each ((s.slotOrder.filter (fun p => s.releasable p)).map .roll) State.request :=
  State.each_posts State.releasable .roll State.releasable_request s.slotOrder s

theorem State.checkSingles_eq (ps : List Nat) (s : State) :
    s.each ps State.checkSingle = s.each ((ps.filter (fun p => s.claims p)).map .singleOffer) State.request :=
  State.each_posts State.claims .singleOffer State.claims_request ps s

/-- What recovery posts after its BEACON: the releasable rolls and then the single OFFERs that are due, by slot (R160). -/
def State.dues (s : State) : List Request :=
  (s.slotOrder.filter (fun p => s.releasable p)).map .roll ++ (s.slotOrder.filter (fun p => s.claims p)).map .singleOffer

theorem State.dues_request (req : Request) (s : State) : (s.request req).dues = s.dues := by
  have order : (s.request req).slotOrder = s.slotOrder := by simp [State.slotOrder]
  simp only [State.dues, order, State.releasable_request, State.claims_request]

theorem State.claims_each_request (reqs : List Request) (p : Nat) (s : State) :
    (s.each reqs State.request).claims p = s.claims p :=
  State.each_keeps (State.claims p) reqs State.request (fun req s => s.claims_request req p) s

/-- Outside RELINK and SERVICE nothing is due (R66, R73). -/
theorem State.dues_of_still (still : s.running = false) : s.dues = [] := by
  have station : s.ctl.st ≠ .relink ∧ s.ctl.st ≠ .service := by
    rw [← not_or, ← s.running_iff, still]
    exact Bool.false_ne_true
  simp [State.dues, State.releasable, State.claims, still, station]

theorem State.beacon_notMem_dues (s : State) : .beacon ∉ s.dues := by simp [State.dues]

theorem State.nodup_dues (s : State) : s.dues.Nodup :=
  ((s.nodup_slotOrder.filter _).map fun _ _ => Request.roll.inj).append
    ((s.nodup_slotOrder.filter _).map fun _ _ => Request.singleOffer.inj) fun _ rolled claimed => by
      obtain ⟨_, _, rfl⟩ := List.mem_map.mp rolled
      obtain ⟨_, _, e⟩ := List.mem_map.mp claimed
      cases e

/-- What is due stands in the peer table. -/
theorem State.lt_of_mem_dues (h : req ∈ s.dues) (hp : req.peer = some p) : p < s.peers.length := by
  rcases List.mem_append.mp h with h | h
  · obtain ⟨q, hq, rfl⟩ := List.mem_map.mp h
    obtain rfl : q = p := by simpa [Request.peer] using hp
    exact State.lt_of_releasable (List.mem_filter.mp hq).2
  · obtain ⟨q, hq, rfl⟩ := List.mem_map.mp h
    obtain rfl : q = p := by simpa [Request.peer] using hp
    have claimed : s.claims q = true := (List.mem_filter.mp hq).2
    simp only [State.claims, Bool.and_eq_true] at claimed
    obtain ⟨⟨_, up⟩, _⟩ := claimed
    exact State.lt_of_up up

/-- What recovery lets go is these requests, and the attempt; outside RELINK and SERVICE there are none (R160). -/
theorem State.letGo_eq (s : State) : s.letGo = (s.each s.dues State.request).attempt := by
  by_cases running : s.running = true
  · have order : s.passAll.slotOrder = s.slotOrder := by simp [State.slotOrder]
    rw [State.letGo, if_pos running, State.checkSingles_eq, State.passAll_eq, State.dues, State.each_append]
    simp only [State.claims_each_request]
  · rw [State.letGo, if_neg running, State.dues_of_still (by simpa using running)]
    exact (if_neg running).symm

/-! ### The attempt and the end of RELINK (R94, R156) -/

/-- The end of RELINK, block by block (R156, R62). -/
theorem State.judgeEnd_blocks (s : State) :
    s.judgeEnd.ctl = (if s.relinkDone = true then { s.ctl with st := .service } else s.ctl) ∧
      s.judgeEnd.sweep = (if s.relinkDone = true then { s.sweep with beaconCount := 0 } else s.sweep) ∧
      s.judgeEnd.events = (if s.relinkDone = true then s.events.raise .relinkDone else s.events) := by
  unfold State.judgeEnd
  split
  · simp [State.announce_sweep, State.raise]
  · exact ⟨rfl, rfl, rfl⟩

theorem State.settleChange_ctl (cause : Bool) (s : State) : (s.settleChange cause).ctl = s.ctl ∨
    (s.ctl.st = .relink ∧ s.ctl.listenOver = true ∧ (s.settleChange cause).ctl = { s.ctl with st := .service }) := by
  have judged (u : State) (hu : u.ctl = s.ctl) : u.judgeEnd.ctl = s.ctl ∨
      (s.ctl.st = .relink ∧ s.ctl.listenOver = true ∧ u.judgeEnd.ctl = { s.ctl with st := .service }) := by
    obtain ⟨ctl, _⟩ := u.judgeEnd_blocks
    rw [ctl, hu]
    split
    · obtain ⟨station, listened, _⟩ := u.relinkDone_iff.mp ‹_›
      exact .inr ⟨hu ▸ station, hu ▸ listened, rfl⟩
    · exact .inl rfl
  rcases s.settleChange_cases cause with e | e <;> rw [e]
  · exact judged s rfl
  · exact judged _ (by simp)

/-- A BEACON that waits absorbs that of the end of RELINK (R128). -/
theorem State.settleChange_queue (waits : .beacon ∈ s.line.queue) (cause : Bool) :
    (s.settleChange cause).line.queue = s.line.queue := by
  have judged (u : State) (hu : u.line = s.line) : u.judgeEnd.line.queue = s.line.queue := by
    unfold State.judgeEnd
    split
    · simp [State.announce_eq, hu, waits]
    · rw [hu]
  rcases s.settleChange_cases cause with e | e <;> rw [e]
  · exact judged s rfl
  · exact judged _ (by simp)

/-- An attempt touches the allowance and no more of the sequencer (R98). -/
theorem State.attemptTurns_seq (n : Nat) (s : State) :
    (s.attemptTurns n).seq = { s.seq with allowance := (s.attemptTurns n).seq.allowance } := by
  induction n generalizing s with
  | zero => rfl
  | succ n ih =>
    unfold State.attemptTurns
    split
    · rename_i r k _ _
      split
      · have started : (s.startProbe r k).seq = { s.seq with allowance := s.seq.allowance - r.weight } := by
          simp [State.startProbe]
        rw [ih, started]
      · rfl
    · rfl

theorem State.settleChange_seq (cause : Bool) (s : State) :
    (s.settleChange cause).seq = { s.seq with allowance := (s.settleChange cause).seq.allowance } := by
  rcases s.settleChange_cases cause with e | e <;> simp only [e, State.judgeEnd_keeps]
  exact s.attemptTurns_seq 4

/-- What follows a change moves weight between the allowance and the probes, and loses none (R98). -/
theorem State.settleChange_conserves (places : (s.records.map (·.place)).Nodup) (cause : Bool) :
    (s.settleChange cause).seq.allowance + (s.settleChange cause).probingWeight = s.seq.allowance + s.probingWeight := by
  have judged (u : State) : u.judgeEnd.seq.allowance + u.judgeEnd.probingWeight = u.seq.allowance + u.probingWeight := by
    rw [State.probingWeight_congr (by simp : u.judgeEnd.records = u.records)]
    simp
  rcases s.settleChange_cases cause with e | e <;> rw [e, judged]
  exact State.attemptTurns_conserves places 4

end Postings

end Sys2Proof.Machine
end

section
/-! PROOF. Recovery from QUIESCE (O28): the station back in its return state, what it posts, and the attempt (R160). -/

namespace Sys2Proof.Machine

variable {s t : State} {r x : Circuit} {mv : Nat} {a : Announced} {p : Nat} {req : Request}

/-! ### Back in the return state (R15, R110) -/

/-- The record with a clash mark that was pending written (R15). -/
def Circuit.written (r : Circuit) : Circuit :=
  if r.clashPending then { r with clashMark := true, clashPending := false } else r

theorem State.writePending_records (s : State) : s.writePending.records = s.records.map Circuit.written := by
  unfold State.writePending
  split
  · rfl
  · rename_i none
    have same : ∀ r ∈ s.records, r.written = r := fun r hr =>
      if_neg fun pending => none (List.any_eq_true.mpr ⟨r, hr, pending⟩)
    exact ((List.map_congr_left same).trans s.records.map_id).symm

theorem Circuit.written_keeps (r : Circuit) : r.written.toFixed = r.toFixed ∧ r.written.place = r.place ∧
    r.written.inUse = r.inUse ∧ r.written.rollMark = r.rollMark ∧ r.written.state = r.state ∧
    r.written.claimDue = r.claimDue := by
  unfold Circuit.written
  split <;> exact ⟨rfl, rfl, rfl, rfl, rfl, rfl⟩

theorem Circuit.written_retained (r : Circuit) :
    r.written.retained = (r.place, r.toFixed, r.clashMark || r.clashPending) ∧ r.written.clashPending = false := by
  unfold Circuit.written
  split <;> simp_all [Circuit.retained]

theorem State.resumeTimer_seq (s : State) : s.resumeTimer.seq =
    if s.running = true then { s.seq with
      timer := if s.seq.mode = .continuous ∨ s.seq.heldStep = true then .running s.store.settings.reload else s.seq.timer
      heldStep := if s.seq.mode = .step then false else s.seq.heldStep }
    else { s.seq with timer := .stopped, heldStep := false } := by
  unfold State.resumeTimer
  split
  case isFalse => rfl
  case isTrue =>
    cases mode : s.seq.mode with
    | continuous => simp [State.startCount]
    | step =>
      cases held : s.seq.heldStep with
      | true => simp [State.startCount]
      | false =>
        have same : s.seq = { s.seq with heldStep := false } := by rw [← held]
        simpa [held] using same

/-- The state in which recovery begins to post, its beacon count at 0 (R160, R62). -/
def State.resumed (a : Announced) (s : State) : State :=
  let t := (s.returned a).writePending.resumeTimer
  { t with sweep := { t.sweep with beaconCount := 0 } }

theorem State.returned_ctl (a : Announced) (s : State) :
    (s.returned a).ctl = { s.ctl with st := stationOf a, ret := none } := by
  simp [State.returned]

theorem State.resumed_blocks (a : Announced) (s : State) : let t := s.resumed a
    t.ctl = { s.ctl with st := stationOf a, ret := none } ∧ t.records = s.records.map Circuit.written ∧
      t.peers = s.peers ∧ t.line = s.line ∧ t.events = s.events.raise .recover := by
  simp [State.resumed, State.writePending_records, State.returned, State.raise]

theorem State.writePending_settings (s : State) : s.writePending.store.settings = s.store.settings := by
  unfold State.writePending
  split <;> rfl

theorem State.resumed_seq (a : Announced) (s : State) : (s.resumed a).seq =
    if a = .setup then { s.seq with timer := .stopped, heldStep := false }
    else { s.seq with
      timer := if s.seq.mode = .continuous ∨ s.seq.heldStep = true then .running s.store.settings.reload else s.seq.timer
      heldStep := if s.seq.mode = .step then false else s.seq.heldStep } := by
  have settings : (s.returned a).writePending.store.settings = s.store.settings := by
    simp [State.writePending_settings, State.returned]
  have seq : (s.returned a).writePending.seq = s.seq := by simp [State.returned]
  have running : (s.returned a).writePending.running = !decide (a = .setup) := by
    cases a <;> simp [State.running, State.returned_ctl, stationOf]
  show (s.returned a).writePending.resumeTimer.seq = _
  rw [State.resumeTimer_seq, settings, seq, running]
  by_cases h : a = .setup <;> simp [h]

/-! ### What recovery posts (R160) -/

/-- The BEACON, the releasable rolls and the single OFFERs posted. -/
def State.reposted (a : Announced) (s : State) : State :=
  (s.resumed a).each (.beacon :: (s.resumed a).dues) State.request

theorem State.recover_eq (a : Announced) (s : State) : s.recover a = (s.reposted a).settleChange true := by
  show ((s.resumed a).request .beacon).letGo.judgeEnd = _
  rw [State.letGo_eq, State.dues_request]
  rfl

theorem State.reposted_blocks (a : Announced) (s : State) : let t := s.reposted a
    t.ctl = { s.ctl with st := stationOf a, ret := none } ∧ t.records = s.records.map Circuit.written ∧
      t.seq = (s.resumed a).seq ∧ t.events = s.events.raise .recover ∧ t.peers.length = s.peers.length := by
  obtain ⟨ctl, records, peers, line, events⟩ := s.resumed_blocks a
  obtain ⟨records', _, _, seq', _, ctl', events', _, peers'⟩ :=
    State.each_request_keeps (.beacon :: (s.resumed a).dues) (s.resumed a)
  exact ⟨ctl'.trans ctl, records'.trans records, seq', events'.trans events, peers'.trans (by rw [peers])⟩

theorem State.reposted_running (a : Announced) (s : State) : (s.reposted a).running = !decide (a = .setup) := by
  obtain ⟨ctl, _⟩ := s.reposted_blocks a
  cases a <;> simp [State.running, ctl, stationOf]

theorem State.owes_reposted (h : req ∈ .beacon :: (s.resumed a).dues) : (s.reposted a).owes req := by
  refine State.owes_each_request (.inr ⟨h, fun p hp => ?_⟩)
  rcases List.mem_cons.mp h with rfl | due
  · cases hp
  · exact State.lt_of_mem_dues due hp

theorem State.reposted_queue (a : Announced) (s : State) :
    let fresh := (.beacon :: (s.resumed a).dues).filter (fun req => !s.line.queue.contains req)
    s.line.queue.length + fresh.length ≤ 24 → (s.reposted a).line.queue = s.line.queue ++ fresh := by
  obtain ⟨_, _, _, line, _⟩ := s.resumed_blocks a
  have nodup := List.nodup_cons.mpr ⟨(s.resumed a).beacon_notMem_dues, (s.resumed a).nodup_dues⟩
  exact line ▸ State.queue_each_request nodup

theorem State.tableOk_resumed (ok : s.tableOk) (a : Announced) : (s.resumed a).tableOk := by
  have back : s.Tends (State.setStation (stationOf a) { s with ctl := { s.ctl with ret := none } }) :=
    ((State.Tends.refl s).frame (u := { s with ctl := { s.ctl with ret := none } }) rfl rfl).setStation
  exact (back.raise.writePending.resumeTimer.frame (u := s.resumed a) rfl rfl).tableOk ok

/-- The rolls that are releasable and the single claims that are due in the return state, in the terms of the state before
recovery (R66, R73). -/
theorem State.resumed_dues (ok : s.tableOk) (a : Announced) : (s.resumed a).dues =
    (s.slotOrder.filter (fun p => (s.peer p).up && (s.peer p).rollOut == .owed &&
      (a == .service || (a == .relink && s.ctl.listenOver)))).map .roll ++
    (s.slotOrder.filter (fun p => (s.peer p).up && a != .setup &&
      s.records.any (fun r => r.farSlot == p && r.claimDue && !r.rollMark))).map .singleOffer := by
  obtain ⟨ctl, records, peers, _⟩ := s.resumed_blocks a
  have ok' := State.tableOk_resumed ok a
  have order : (s.resumed a).slotOrder = s.slotOrder := by simp only [State.slotOrder, ctl]
  have releasable (p : Nat) : (s.resumed a).releasable p = ((s.peer p).up && (s.peer p).rollOut == .owed &&
      (a == .service || (a == .relink && s.ctl.listenOver))) := by
    rw [State.releasable, State.peer_congr peers, ctl]
    have service : (stationOf a == .service) = (a == .service) := by cases a <;> rfl
    have relink : (stationOf a == .relink) = (a == .relink) := by cases a <;> rfl
    simp only [service, relink, Bool.and_comm ((s.peer p).rollOut == .owed)]
  have claims (p : Nat) : (s.resumed a).claims p = ((s.peer p).up && a != .setup &&
      s.records.any (fun r => r.farSlot == p && r.claimDue && !r.rollMark)) := by
    have waiting : ((s.resumed a).towards p).any Circuit.waiting =
        s.records.any (fun r => r.farSlot == p && r.claimDue && !r.rollMark) := by
      rw [Bool.eq_iff_iff, State.towards_any ok', records]
      simp [Circuit.waiting, Circuit.written_keeps, and_assoc]
    have running : (s.resumed a).running = (a != .setup) := by
      cases a <;> simp [State.running, ctl, stationOf]
    rw [State.claims, State.peer_congr peers, waiting, running, Bool.and_comm (a != .setup)]
  simp only [State.dues, order, releasable, claims]

/-! ### The attempt (R94, R98) -/

theorem State.posture_reposted (a : Announced) (s : State) : (s.reposted a).posture = (s.returned a).posture := by
  have walked : (s.reposted a).posture = (s.resumed a).posture :=
    State.each_keeps State.posture _ _ (fun req u => u.posture_request req) _
  have resumed : (s.resumed a).posture = (s.returned a).writePending.resumeTimer.posture := rfl
  rw [walked, resumed, State.posture_resumeTimer, State.posture_writePending]

/-- Back in RELINK or SERVICE the slots held are those of the PROBING records: there are none (R47, R114). -/
theorem State.reposted_agrees (pace : s.paceOk) (probes : s.probesOk) (ok : s.tableOk)
    (ha : a ≠ .setup) : (s.reposted a).Agrees False (s.reposted a).phase none := by
  have agrees : s.Steady False := (State.agrees_iff ok.places).mpr ⟨pace, probes, False.elim⟩
  have running : (s.reposted a).phase.Running := by simp [State.phase_running_iff, State.reposted_running, ha]
  have rephased : s.Agrees False (s.reposted a).phase none := State.Agrees.rephase agrees
    (fun e => absurd e running.not_fresh) (fun e => absurd e running.not_resting) (fun e => absurd running e)
  have returned : (s.returned a).Agrees False (s.reposted a).phase none := by
    refine rephased.congr ?_ ?_ ?_ ?_ <;> simp [State.returned, State.stands, State.held, State.cap]
  exact returned.frame (s.posture_reposted a)

theorem State.reposted_unspent (pace : s.paceOk) (still : s.running = false) (a : Announced) :
    (s.reposted a).seq.allowance = s.seq.allowance ∧ (s.reposted a).probingWeight = 0 := by
  obtain ⟨_, _, unprobing⟩ := pace
  obtain ⟨_, records, seq, _⟩ := s.reposted_blocks a
  refine ⟨?_, ?_⟩
  · rw [seq, State.resumed_seq]
    split <;> rfl
  · have none : (s.records.map Circuit.written).filter (fun r => r.state.isProbing) = [] := by
      refine List.filter_eq_nil_iff.mpr fun x hx => ?_
      obtain ⟨r, hr, rfl⟩ := List.mem_map.mp hx
      obtain ⟨_, _, _, _, state, _⟩ := r.written_keeps
      simp [state, unprobing still r hr]
    rw [State.probingWeight, records, none]
    rfl

theorem State.reposted_places (ok : s.tableOk) (a : Announced) : ((s.reposted a).records.map (·.place)).Nodup := by
  obtain ⟨_, records, _⟩ := s.reposted_blocks a
  rw [records, ← (s.resumed_blocks a).2.1]
  exact (State.tableOk_resumed ok a).places

/-! ### Recovery as a whole (R160) -/

theorem State.recover_ctl (a : Announced) (s : State) : let c := (s.recover a).ctl
    c.ret = none ∧ c.listenCount = s.ctl.listenCount ∧ c.listenOver = s.ctl.listenOver ∧
      (c.st = stationOf a ∨ (a = .relink ∧ s.ctl.listenOver = true ∧ c.st = .service)) := by
  obtain ⟨ctl, _⟩ := s.reposted_blocks a
  have settled := State.settleChange_ctl true (s.reposted a)
  rw [← State.recover_eq, ctl] at settled
  rcases settled with e | ⟨relink, listened, e⟩
  · simp only [e, true_or, and_self]
  · have ha : a = .relink := by cases a <;> [cases relink; rfl; cases relink]
    simp only [e, true_and]
    exact .inr ⟨ha, listened, trivial⟩

theorem State.recover_seq (a : Announced) (s : State) : let q := (s.recover a).seq
    q.timer = (if a = .setup then .stopped
      else if s.seq.mode = .continuous ∨ s.seq.heldStep = true then .running s.store.settings.reload else s.seq.timer) ∧
    (s.seq.mode = .step → q.heldStep = false) := by
  obtain ⟨_, _, seq, _⟩ := s.reposted_blocks a
  have settled := State.settleChange_seq true (s.reposted a)
  rw [← State.recover_eq, seq, State.resumed_seq] at settled
  dsimp only
  rw [settled]
  split
  · exact ⟨rfl, fun _ => rfl⟩
  · exact ⟨rfl, fun step => if_pos step⟩

/-- What no attempt changes of a record is as it was written. -/
theorem State.recover_map {β : Type} (g : Circuit → β) (hg : ∀ k r, g (r.enter (.probing k) false 0) = g r) (a : Announced)
    (s : State) : (s.recover a).records.map g = s.records.map (fun r => g r.written) := by
  obtain ⟨_, records, _⟩ := s.reposted_blocks a
  rw [State.recover_eq, State.settleChange_map g hg, records, List.map_map]
  rfl

theorem State.recover_clashPending (a : Announced) (s : State) : ∀ r ∈ (s.recover a).records, r.clashPending = false := by
  intro r hr
  have mapped := List.mem_map_of_mem (f := Circuit.clashPending) hr
  rw [State.recover_map _ fun _ _ => rfl] at mapped
  obtain ⟨x, _, e⟩ := List.mem_map.mp mapped
  obtain ⟨_, unpending⟩ := x.written_retained
  exact e ▸ unpending

theorem State.owes_recover (h : req ∈ .beacon :: (s.resumed a).dues) : (s.recover a).owes req :=
  s.recover_eq a ▸ State.settleChange_owes (State.owes_reposted h)

/-- The BEACON waits, so that the end of RELINK posts no other one (R128). -/
theorem State.recover_queue (a : Announced) (s : State) :
    let fresh := (.beacon :: (s.resumed a).dues).filter (fun req => !s.line.queue.contains req)
    s.line.queue.length + fresh.length ≤ 24 → (s.recover a).line.queue = s.line.queue ++ fresh := by
  intro fresh room
  have queue := s.reposted_queue a room
  have waits : .beacon ∈ (s.reposted a).line.queue := by
    rw [queue, List.mem_append]
    by_cases old : .beacon ∈ s.line.queue
    · exact .inl old
    · exact .inr (List.mem_filter.mpr ⟨List.mem_cons_self, by simpa using old⟩)
  rw [State.recover_eq, State.settleChange_queue waits, queue]

/-- What becomes of a record at recovery: an attempt may open it (R94). -/
theorem State.recover_records (ok : s.tableOk) (a : Announced) (hr : r ∈ s.records) :
    ∃ x ∈ (s.recover a).records, r.written.Stays x ∧ (a = .setup → x = r.written) := by
  obtain ⟨_, records, _⟩ := s.reposted_blocks a
  have hw : r.written ∈ (s.reposted a).records := records ▸ List.mem_map_of_mem hr
  rw [State.recover_eq]
  by_cases setup : a = .setup
  · rw [State.settleChange_of_still (by simp [State.reposted_running, setup])]
    exact ⟨r.written, hw, .refl _, fun _ => rfl⟩
  · obtain ⟨x, hx, stays⟩ := (State.turns_settleChange (State.reposted_places ok a) true).of_mem hw
    exact ⟨x, hx, stays, fun e => absurd e setup⟩

/-- The attempt opens all that fits, by its weight (R92, R98). -/
theorem State.recover_exhausted (pace : s.paceOk) (probes : s.probesOk) (ok : s.tableOk) (ha : a ≠ .setup) :
    (s.recover a).Exhausted := by
  have agrees := State.reposted_agrees pace probes ok ha
  obtain ⟨exhausted, _⟩ := agrees.settleChange_attempt rfl (State.reposted_places ok a)
    (by simp [State.reposted_running, ha])
  exact s.recover_eq a ▸ exhausted

theorem State.recover_conserves (pace : s.paceOk) (ok : s.tableOk) (still : s.running = false) (a : Announced) :
    (s.recover a).seq.allowance + (s.recover a).probingWeight = s.seq.allowance := by
  obtain ⟨allowance, unspent⟩ := State.reposted_unspent pace still a
  rw [State.recover_eq, State.settleChange_conserves (State.reposted_places ok a), allowance, unspent, add_zero]

end Sys2Proof.Machine

open Sys2Proof Sys2Proof.Machine

/-- Settles O28: recovery is a walk of postings from the station back in its return state, and what follows a change. -/
theorem recoveryReturns : Obligations.RecoveryReturns := by
  intro mv a s calm awake station ret run above
  have still : (s.metered mv).running = false := by simp [State.running, State.metered, station]
  have threshold : s.threshold = s.store.settings.warn := by simp [State.threshold_eq, station]
  rw [exec_conversionResult calm, State.convert_of_recovery awake (threshold ▸ above) run station ret]
  obtain ⟨_, _, _, events, peers⟩ := (s.metered mv).reposted_blocks a
  obtain ⟨noReturn, count, listened, back⟩ := (s.metered mv).recover_ctl a
  obtain ⟨timer, heldStep⟩ := (s.metered mv).recover_seq a
  obtain ⟨_, _, notices, _⟩ := (s.metered mv).recover_keeps a
  have raised : ((s.metered mv).recover a).events.has .recover = true := by
    rw [State.recover_eq]
    exact State.has_settleChange (events ▸ EventUnit.has_raise_self _ _)
  have retained : ((s.metered mv).recover a).records.map Circuit.retained =
      s.records.map (fun r => (r.place, r.toFixed, r.clashMark || r.clashPending)) :=
    (State.recover_map Circuit.retained (fun _ _ => rfl) a _).trans
      (List.map_congr_left fun r _ => r.written_retained.1)
  have slots : ((s.metered mv).recover a).peers.length = s.peers.length := by
    rw [State.recover_eq, State.settleChange_peers]
    exact peers
  refine ⟨_, rfl, noReturn, count, listened, back, raised, State.owes_recover List.mem_cons_self, notices, retained,
    State.recover_clashPending a _, (State.Tends.refl (s.metered mv)).recover.sum, timer, heldStep, slots,
    fun safe size => ?_⟩
  have ok : (s.metered mv).tableOk := safe.table
  intro rolls singles posts fresh
  have dues : .beacon :: (State.resumed a (s.metered mv)).dues = posts := congrArg _ (State.resumed_dues ok a)
  have queue := (s.metered mv).recover_queue a
  rw [dues] at queue
  have pace : (s.metered mv).paceOk := safe.pace
  have conserved := State.recover_conserves pace ok still a
  refine ⟨fun req hreq => State.owes_recover (dues.symm ▸ hreq), queue,
    State.recover_exhausted pace safe.probes ok, conserved, fun r hr => ?_⟩
  · obtain ⟨x, hx, stays, setup⟩ := State.recover_records (s := s.metered mv) ok a hr
    obtain ⟨_, place, inUse, rollMark, state, due⟩ := r.written_keeps
    obtain ⟨hretained, hinUse, hroll, _⟩ := Circuit.kept_iff.mp stays.kept_eq
    obtain ⟨hplace, _⟩ := Circuit.retained_iff.mp hretained
    refine ⟨x, hx, hplace.trans place, hinUse.trans inUse, hroll.trans rollMark, ?_⟩
    rcases stays with rfl | ⟨confirmed, probing, _⟩
    · exact .inl ⟨state, due⟩
    · refine .inr ⟨fun e => ?_, state ▸ confirmed, probing⟩
      rw [setup e, confirmed] at probing
      cases probing

end

section
/-! PROOF. The end of the listen interval (O33): a release pass, a walk that defers what is PARKED towards absent peers, and the
end of RELINK, wherever on that way it falls (R155, R156, R43). -/

namespace Sys2Proof.Machine

variable {s t u : State} {r x y : Circuit} {cond : Relink → Bool} {req : Request} {p : Nat}

/-! ### The end of RELINK as one event (R156) -/

/-- RELINK goes on: the station, the sweep and RELINK_DONE are as they were. -/
abbrev State.GoesOn (s t : State) : Prop :=
  t.ctl = s.ctl ∧ t.sweep = s.sweep ∧ t.events.has .relinkDone = s.events.has .relinkDone

/-- No roll is outstanding and no record is unsettled (R156). -/
abbrev State.Relinked (s : State) : Prop :=
  (∀ q, (s.peer q).outstanding = false) ∧ ∀ r ∈ s.records, (r.state.holds || r.state.isProbing) = false

/-- RELINK has ended (R156, R62). -/
abbrev State.Ended (s t : State) : Prop :=
  (t.ctl = { s.ctl with st := .service } ∧ t.events.has .relinkDone = true ∧ t.owes .beacon ∧
    t.sweep = { s.sweep with beaconCount := 0 }) ∧ t.Relinked

theorem State.GoesOn.judgeEnd (h : s.GoesOn t) : s.GoesOn t.judgeEnd ∨ s.Ended t.judgeEnd := by
  obtain ⟨ctl, sweep, flag⟩ := h
  by_cases done : t.relinkDone = true
  · obtain ⟨ctl', sweep', events'⟩ := t.judgeEnd_blocks
    rw [if_pos done] at ctl' sweep' events'
    obtain ⟨_, _, peers, records⟩ := t.relinkDone_iff.mp done
    refine .inr ⟨⟨by rw [ctl', ctl], events' ▸ EventUnit.has_raise_self _ _, ?_, by rw [sweep', sweep]⟩, fun q => ?_, ?_⟩
    · rw [State.judgeEnd, if_pos done]
      exact State.owes_announce _
    · obtain ⟨w, hw⟩ := t.peer_judgeEnd q
      rw [hw]
      exact peers q
    · rwa [(State.judgeEnd_keeps t).1]
  · rw [State.judgeEnd_of_open (by simpa using done)]
    exact .inl ⟨ctl, sweep, flag⟩

theorem State.GoesOn.settleChange (h : s.GoesOn t) (cause : Bool) :
    s.GoesOn (t.settleChange cause) ∨ s.Ended (t.settleChange cause) := by
  rcases t.settleChange_cases cause with e | e <;> rw [e]
  · exact h.judgeEnd
  · obtain ⟨ctl, sweep, flag⟩ := h
    exact State.GoesOn.judgeEnd ⟨by simpa using ctl, by simpa using sweep, by simpa using flag⟩

/-- What is judged ends RELINK just where all is settled. -/
theorem State.relinked_iff_of_judged (hst : s.ctl.st = .relink) (listened : s.ctl.listenOver = true)
    (judged : t.relinkDone = false) (h : s.GoesOn t ∨ s.Ended t) :
    (t.Relinked → (s.Ended t)) ∧ (¬ t.Relinked → s.GoesOn t) := by
  rcases h with on | ended
  · refine ⟨fun relinked => ?_, fun _ => on⟩
    obtain ⟨ctl, _⟩ := on
    rw [t.relinkDone_iff.mpr ⟨ctl ▸ hst, ctl ▸ listened, relinked⟩] at judged
    cases judged
  · exact ⟨fun _ => ended, fun no => absurd ended.2 no⟩

/-! ### The walk (R43) -/

theorem EventUnit.has_raise_of_ne {f g : EventFlag} (hne : f.bit ≠ g.bit) (e : EventUnit) : (e.raise g).has f = e.has f := by
  have hf : f.bit < 12 := by cases f <;> decide
  rw [Bool.eq_iff_iff, EventUnit.has_iff, EventUnit.has_iff]
  have apart : g.bit ≤ f.bit → f.bit - g.bit ≠ 0 := fun _ => by omega
  simp +contextual [EventUnit.raise, EventFlag.mask, hf, apart]

theorem State.has_relinkDone_post (k : NoticeKind) (r : Circuit) (s : State) :
    (s.post k r).events.has .relinkDone = s.events.has .relinkDone := by
  rcases s.post_cases k r with ⟨_, e⟩ | ⟨_, e⟩ <;> rw [e]
  exact EventUnit.has_raise_of_ne (by decide) _

/-- From `s`, in RELINK, to `t` records have been deferred: no weight is lost, nothing that was owed is, and RELINK has ended
or goes on. -/
structure State.DefersTo (s t : State) : Prop where
  table : t.tableOk
  peers : t.peers = s.peers
  seq : t.seq = { s.seq with allowance := t.seq.allowance }
  weight : t.seq.allowance + t.probingWeight = s.seq.allowance + s.probingWeight
  owes : ∀ req, s.owes req → t.owes req
  relink : s.GoesOn t ∨ s.Ended t

theorem State.DefersTo.refl (ok : s.tableOk) : s.DefersTo s := ⟨ok, rfl, rfl, rfl, fun _ => id, .inl ⟨rfl, rfl, rfl⟩⟩

/-- One PARKED record goes to DEFERRED, while RELINK goes on. -/
theorem State.DefersTo.park (h : s.DefersTo t) (on : s.GoesOn t) (hr : r ∈ t.records) (parked : r.state = .parked)
    (cause : Bool) : s.DefersTo (((t.moveTo r .deferred false 0).post .deferred r).settleChange cause) := by
  have idle : r.state.isProbing = false := by rw [parked]; rfl
  have moved : t.moveTo r .deferred false 0 = t.enter r.place .deferred false 0 := by
    simp [State.moveTo, State.cancelProbe, idle]
  have tends := ((State.Tends.refl t).moveTo (r := r) (new := .deferred) (due := false) (Nat.zero_le 4)).post
    (k := .deferred) (r := r)
  have ok := tends.tableOk h.table
  have weight : ((t.moveTo r .deferred false 0).post .deferred r).probingWeight = t.probingWeight := by
    have entered := State.probingWeight_enter h.table.places hr .deferred false 0
    rw [State.probingWeight_congr (State.post_keeps .deferred r _).1, moved]
    have spent : r.spent = 0 := if_neg (by simp [idle])
    rwa [spent, if_neg (by decide)] at entered
  have seq : ((t.moveTo r .deferred false 0).post .deferred r).seq = t.seq := by simp [moved]
  have on' : s.GoesOn ((t.moveTo r .deferred false 0).post .deferred r) := by
    obtain ⟨ctl, sweep, flag⟩ := on
    exact ⟨by simpa using ctl, by simpa using sweep, by rw [State.has_relinkDone_post]; simpa using flag⟩
  refine ⟨tends.settleChange.tableOk h.table, by simp [h.peers], ?_, ?_, fun req owed => ?_, on'.settleChange cause⟩
  · rw [State.settleChange_seq, seq, h.seq]
  · rw [State.settleChange_conserves ok.places, weight, seq, h.weight]
  · exact State.settleChange_owes ((State.owes_congr (by simp) (by simp)).mpr (h.owes req owed))

theorem State.DefersTo.deferPlace (h : s.DefersTo t) (g : Nat) :
    s.DefersTo (t.deferPlace (fun x => x == .parked) g) := by
  unfold State.deferPlace
  split
  case h_1 => exact h
  case h_2 z found =>
    obtain ⟨hz, _⟩ := State.mem_of_findPlace found
    split
    case isFalse => exact h
    case isTrue parked =>
      rw [beq_iff_eq] at parked
      rcases h.relink with on | ⟨_, _, settled⟩
      · exact h.park on hz parked _
      · have := settled z hz
        rw [parked] at this
        cases this

theorem State.DefersTo.deferMany (ok : s.tableOk) (rs : List Circuit) :
    s.DefersTo (s.deferMany (fun x => x == .parked) rs) := by
  have walk (hs : List Nat) (t : State) (h : s.DefersTo t) :
      s.DefersTo (t.each hs (State.deferPlace fun x => x == .parked)) := by
    induction hs generalizing t with
    | nil => exact h
    | cons g hs ih => exact ih _ (h.deferPlace g)
  refine walk _ _ ⟨(State.Tends.refl s).raiseIf.tableOk ok, by simp, by simp, ?_, fun req => ?_, .inl ⟨by simp, by simp, ?_⟩⟩
  · rw [State.probingWeight_congr (s := s) (by simp)]
    simp
  · exact (State.owes_congr (by simp) (by simp)).mpr
  · unfold State.raiseIf
    split
    · exact EventUnit.has_raise_of_ne (by decide) _
    · rfl

theorem State.DefersTo.judgeEnd (h : s.DefersTo t) : s.DefersTo t.judgeEnd := by
  obtain ⟨records, _, seq, _⟩ := State.judgeEnd_keeps t
  refine ⟨(State.Tends.refl t).judgeEnd.tableOk h.table, (State.turns_judgeEnd t).peers.trans h.peers, by rw [seq, h.seq],
    by rw [State.probingWeight_congr records, seq, h.weight], fun req owed => State.owes_judgeEnd (h.owes req owed), ?_⟩
  rcases h.relink with on | ⟨⟨ctl, said⟩, relinked⟩
  · exact on.judgeEnd
  · rw [State.judgeEnd_of_ne (by rw [ctl]; exact StationState.noConfusion)]
    exact .inr ⟨⟨ctl, said⟩, relinked⟩

/-! ### What becomes of the records (R26, R43) -/

/-- The deferral of many records by one event: which records, ... -/
theorem State.turns_deferMany (settles : Relink.Settles cond) (ok : s.tableOk) (rs : List Circuit) :
    s.Turns (fun r x => r.DefersIf (r.place ∈ rs.map Circuit.place ∧ cond r.state = true) x) (s.deferMany cond rs) := by
  have raised := s.turns_raiseIf (rs.any (fun r => cond r.state)) .deferral
  refine raised.trans (State.turns_walk settles ((State.Tends.refl s).raiseIf.tableOk ok) _) fun r x y stays h => ?_
  have first : r.DefersIf False x := ⟨False.elim, fun _ => stays⟩
  refine (first.trans h fun no => no.elim).congr ?_
  rw [Circuit.place_of_kept stays.kept_eq, stays.cond_eq settles, false_or]

/-- ... with which notices, ... -/
theorem State.deferMany_notices (settles : Relink.Settles cond) (ok : s.tableOk) {rs : List Circuit}
    (nodup : (rs.map (·.place)).Nodup) (stand : ∀ r ∈ rs, r ∈ s.records)
    (room : s.notices.length + (rs.filter (fun r => cond r.state)).length ≤ 32) :
    (s.deferMany cond rs).notices = s.notices ++ noticesOf .deferred (rs.filter (fun r => cond r.state)) := by
  have walked := State.walk_notices (s := s.raiseIf (rs.any (fun r => cond r.state)) .deferral) settles nodup
    ((State.Tends.refl s).raiseIf.tableOk ok) (fun r hr => ⟨r, by simpa using stand r hr, .refl r⟩) (by simpa using room)
  rw [State.deferMany, walked]
  simp

/-- ... and with the flag. -/
theorem State.deferMany_flag (settles : Relink.Settles cond) (ok : s.tableOk) {rs : List Circuit}
    (h : rs.filter (fun r => cond r.state) ≠ []) : (s.deferMany cond rs).events.has .deferral = true := by
  have any : rs.any (fun r => cond r.state) = true := by
    obtain ⟨r, hr⟩ := List.exists_mem_of_ne_nil _ h
    obtain ⟨hr, on⟩ := List.mem_filter.mp hr
    exact List.any_eq_true.mpr ⟨r, hr, on⟩
  have raised : (s.raiseIf (rs.any (fun r => cond r.state)) .deferral).events.has .deferral = true := by
    rw [any]
    exact EventUnit.has_raise_self _ _
  exact (State.turns_walk settles ((State.Tends.refl s).raiseIf.tableOk ok) _).flags _ raised

/-! ### The event (R155) -/

/-- The listen interval is over (R155). -/
def State.listenedOut (s : State) : State := { s with ctl := { s.ctl with listenOver := true } }

/-- The interval is over, and every releasable roll is posted (R67). -/
def State.listened (s : State) : State := s.listenedOut.passAll

/-- The records towards absent peers and those in SETUP, in class order (R43). -/
def State.absentees (s : State) : List Circuit := s.classOrder.filter (fun r => !(s.peer r.farSlot).up)

theorem State.takeListenEnd_eq (due : s.listenDue = true) : s.takeListenEnd =
    (s.listened.deferMany (fun x => x == .parked) s.listened.absentees).judgeEnd := if_pos due

theorem exec_listenIntervalEnd (s : State) : exec .listenIntervalEnd s = .next s.takeListenEnd := rfl

theorem State.listened_keeps (s : State) : let t := s.listened
    t.ctl = { s.ctl with listenOver := true } ∧ t.records = s.records ∧ t.store = s.store ∧ t.sweep = s.sweep ∧
      t.seq = s.seq ∧ t.events = s.events ∧ t.notices = s.notices ∧
      ∀ q, (t.peer q).awaits = (s.peer q).awaits := by
  let rolls : List Request := (s.listenedOut.slotOrder.filter (fun p => s.listenedOut.releasable p)).map .roll
  have walked : s.listened = s.listenedOut.each rolls State.request := s.listenedOut.passAll_eq
  obtain ⟨records, store, sweep, seq, _, ctl, events, notices, _⟩ := State.each_request_keeps rolls s.listenedOut
  rw [walked]
  refine ⟨ctl, records, store, sweep, seq, events, notices, fun q => ?_⟩
  obtain ⟨w, hw⟩ := State.peer_each_request rolls q s.listenedOut
  rw [hw]
  rfl

theorem State.owes_listened (hst : s.ctl.st = .relink) (hslot : s.ctl.slot < s.ctl.size) (haddr : s.addressable p = true)
    (owed : (s.peer p).rollOut = .owed) (up : (s.peer p).up = true) : s.listened.owes (.roll p) := by
  refine State.owes_each_pass (State.mem_slotOrder (s := s.listenedOut) hslot haddr) ?_
  show ((s.peer p).rollOut == .owed && (s.peer p).up && (s.ctl.st == .service || (s.ctl.st == .relink && true))) = true
  simp [owed, up, hst]

/-- PARKED is left for DEFERRED once, and no opening leads into it. -/
theorem Relink.settles_parked : Relink.Settles (fun x => x == .parked) := ⟨rfl, fun _ => rfl⟩

theorem State.absentees_parked (s : State) : s.listened.absentees.filter (fun r => r.state == .parked) =
    s.inClassOrder (fun r => r.state == .parked && !(s.peer r.farSlot).up) := by
  obtain ⟨_, records, _, _, _, _, _, peers⟩ := s.listened_keeps
  have up (q : Nat) : (s.listened.peer q).up = (s.peer q).up := (Prod.mk.inj (peers q)).2
  rw [State.absentees, List.filter_filter, State.classOrder_filter]
  simp only [State.inClassOrder, records, up]

/-- The state after the event. -/
def State.deferred (s : State) : State := (s.listened.deferMany (fun x => x == .parked) s.listened.absentees).judgeEnd

theorem State.tableOk_listened (ok : s.tableOk) : s.listened.tableOk := by
  obtain ⟨_, records, store, _⟩ := s.listened_keeps
  exact (State.Tends.refl s).frame records store |>.tableOk ok

theorem State.turns_deferred (ok : s.tableOk) : s.listened.Turns
    (fun r x => r.DefersIf (r.state = .parked ∧ (s.peer r.farSlot).up = false) x) s.deferred := by
  have ok' := State.tableOk_listened ok
  obtain ⟨_, records, _, _, _, _, _, peers⟩ := s.listened_keeps
  have up (q : Nat) : (s.listened.peer q).up = (s.peer q).up := (Prod.mk.inj (peers q)).2
  have walked := (State.turns_deferMany Relink.settles_parked ok' s.listened.absentees).trans
    (State.turns_judgeEnd _) (R'' := fun r x =>
      r.DefersIf (r.place ∈ s.listened.absentees.map Circuit.place ∧ (r.state == .parked) = true) x)
    fun r x y h stays => (h.trans (b := False) ⟨False.elim, fun _ => stays⟩ fun _ => not_false).congr (by simp)
  refine walked.mono fun r hr x h => h.congr ?_
  have absent : r.place ∈ s.listened.absentees.map Circuit.place ↔ (s.peer r.farSlot).up = false := by
    constructor
    · intro h
      obtain ⟨z, hz, place⟩ := List.mem_map.mp h
      obtain ⟨hz, away⟩ := List.mem_filter.mp hz
      obtain rfl := (ok'.place_eq_iff (State.mem_of_mem_classOrder hz) hr).mp place
      simpa [up] using away
    · intro away
      exact List.mem_map_of_mem (List.mem_filter.mpr ⟨ok'.mem_classOrder hr, by simp [up, away]⟩)
  rw [absent, beq_iff_eq, and_comm]

theorem State.defersTo_deferred (ok : s.tableOk) : s.listened.DefersTo s.deferred :=
  (State.DefersTo.deferMany (State.tableOk_listened ok) _).judgeEnd

/-- What a record and a peer ask for the end of RELINK, in the words of the statement (R156). -/
theorem Relink.settled_iff (x : Relink) : (x.holds || x.isProbing) = false ↔
    x.isOpen = true ∨ x = .deferred ∨ x.isRefused = true ∨ x = .clashed := by
  cases x <;> simp [Relink.holds, Relink.isProbing, Relink.isOpen, Relink.isRefused, relinkByte]

theorem Peer.outstanding_iff (x : Peer) : x.outstanding = false ↔ (x.up = true → x.rollOut = .none) := by
  cases e : x.up <;> simp [Peer.outstanding, e]

theorem State.relinked_deferred_iff (ok : s.tableOk) : s.deferred.Relinked ↔
    (∀ x ∈ s.peers, x.up = true → x.rollOut = .none) ∧ ∀ r ∈ s.deferred.records,
      r.state.isOpen = true ∨ r.state = .deferred ∨ r.state.isRefused = true ∨ r.state = .clashed := by
  obtain ⟨_, _, _, _, _, _, _, awaits⟩ := s.listened_keeps
  have same (q : Nat) : (s.deferred.peer q).outstanding = (s.peer q).outstanding := by
    obtain ⟨roll, up⟩ := Prod.mk.inj (awaits q)
    rw [State.peer_congr (State.defersTo_deferred ok).peers, Peer.outstanding, Peer.outstanding, roll, up]
  have peers : (∀ q, (s.deferred.peer q).outstanding = false) ↔ ∀ x ∈ s.peers, x.up = true → x.rollOut = .none := by
    simp only [same]
    rw [← State.forall_peers rfl]
    simp only [Peer.outstanding_iff]
  simp only [State.Relinked, peers, Relink.settled_iff]

/-- What the station is, and what it says, after the event (R155, R156). -/
theorem State.ends_deferred (ok : s.tableOk) (hst : s.ctl.st = .relink) :
    (s.deferred.Relinked → s.listened.Ended s.deferred) ∧ (¬ s.deferred.Relinked → s.listened.GoesOn s.deferred) := by
  obtain ⟨ctl, _⟩ := s.listened_keeps
  exact State.relinked_iff_of_judged (by rw [ctl, hst]) (by rw [ctl]) (State.relinkDone_judgeEnd _)
    (State.defersTo_deferred ok).relink

end Sys2Proof.Machine

open Sys2Proof Sys2Proof.Machine

/-- Settles O33: a walk of postings, a walk of deferrals, and the end of RELINK as one event somewhere on the way. -/
theorem listenIntervalEnds : Obligations.ListenIntervalEnds := by
  intro s ok length size slot station count listening absent
  have due : s.listenDue = true := by simp [State.listenDue, station, count, listening]
  have next : exec .listenIntervalEnd s = .next s.deferred := by
    rw [exec_listenIntervalEnd, State.takeListenEnd_eq due]
    rfl
  obtain ⟨ctl, records, store, sweep, seq, events, notices, _⟩ := s.listened_keeps
  have ok' := State.tableOk_listened ok
  have parked : s.listened.absentees.filter (fun r => r.state == .parked) = absent := s.absentees_parked
  have walk := State.defersTo_deferred ok
  have turns := State.turns_deferred ok
  have weight : s.listened.probingWeight = s.probingWeight := State.probingWeight_congr records
  obtain ⟨ended, goesOn⟩ := State.ends_deferred ok station
  rw [State.relinked_deferred_iff ok] at ended goesOn
  have becomes (r : Circuit) (hr : r ∈ s.records) := turns.of_mem (records.symm ▸ hr)
  refine ⟨s.deferred, next, fun p haddr owed up => walk.owes _ (State.owes_listened station slot haddr owed up),
    fun room => ?_, fun some => ?_, fun r hr => ?_, fun r hr settled away => ?_, fun r hr confirmed => ?_, ?_,
    turns.store.trans store, by rw [walk.seq, seq], fun _ => by rw [walk.weight, weight, seq], fun ends => ?_, fun unended => ?_⟩
  · have told := State.deferMany_notices Relink.settles_parked ok' (rs := s.listened.absentees)
      (ok'.nodup_classOrder.sublist (List.filter_sublist.map _))
      (fun r hr => State.mem_of_mem_classOrder (List.mem_of_mem_filter hr)) (by rw [parked, notices]; exact room)
    rw [parked, notices] at told
    rw [State.deferred, ← told]
    simp
  · exact (State.turns_judgeEnd _).flags _ (State.deferMany_flag Relink.settles_parked ok' (parked.symm ▸ some))
  · obtain ⟨hr, on⟩ := (State.mem_inClassOrder_iff ok).mp hr
    obtain ⟨x, hx, hit, _⟩ := becomes r hr
    obtain ⟨kept, state, claimDue, _⟩ := hit (by simpa using on)
    obtain ⟨retained, inUse, _⟩ := Circuit.kept_iff.mp kept
    exact ⟨x, hx, retained, state, inUse, claimDue⟩
  · obtain ⟨x, hx, _, stays⟩ := becomes r hr
    have spared : ¬ (r.state = .parked ∧ (s.peer r.farSlot).up = false) := fun ⟨parked, absent⟩ => by
      rw [away parked] at absent
      cases absent
    rwa [(stays spared).eq settled] at hx
  · obtain ⟨x, hx, _, stays⟩ := becomes r hr
    have stays := stays fun ⟨parked, _⟩ => by rw [parked] at confirmed; cases confirmed
    obtain ⟨retained, inUse, _⟩ := Circuit.kept_iff.mp stays.kept_eq
    exact ⟨x, hx, retained, inUse, stays.elim (fun e => .inl (e ▸ confirmed)) fun ⟨_, probing, _⟩ => .inr probing⟩
  · rw [← records]
    exact turns.map_eq _ fun r x h => (Circuit.kept_iff.mp h.kept_eq).1
  · obtain ⟨⟨ctl', flag, beacon, sweep'⟩, _⟩ := ended ends
    exact ⟨by rw [ctl', ctl], flag, beacon, by rw [sweep', sweep]⟩
  · obtain ⟨ctl', sweep', flag⟩ := goesOn unended
    exact ⟨ctl'.trans ctl, sweep'.trans sweep, by rw [flag, events]⟩

end
